-- ==== Sys2Proof/Word.lean ====
section
/-! DEFINITION. The word types of the ES610 (bytes and tick counts), saturating counts, and the
read and the write of one place of a table of fixed length. -/

namespace Sys2Proof

/-- One byte of a frame, a record or the table image (chapter 11). -/
abbrev Byte := BitVec 8

/-- A value of the 32-bit tick counter, which wraps to 0 (R129). -/
abbrev Tick := BitVec 32

/-- One more count on a saturating counter with the given maximum ("Counters, optional fields and lists"). -/
def satInc (max n : Nat) : Nat := min (n + 1) max

/-- The content of place `i` of a table of fixed length. -/
def peek {α : Type} {n : Nat} (v : Vector α n) (i : Fin n) : α := v[i.val]

/-- A table of fixed length with place `i` holding `a`. -/
def poke {α : Type} {n : Nat} (v : Vector α n) (i : Fin n) (a : α) : Vector α n := v.set i.val a

end Sys2Proof
end

