-- ==== Sys2Proof/Config.lean ====
section
/-! DEFINITION. The sizes and limits the manual fixes, and the free values: what the manual leaves
unstated, as constants with no body. -/

namespace Sys2Proof.Config

/-- Frames a receive queue holds (R142). -/
def rxSlots : Nat := 4
/-- Frames a transmit queue holds (R145). -/
def txSlots : Nat := 8
/-- Most WAKE notices the Hub Port keeps waiting (R146). -/
def noticeLimit : Nat := 16
/-- Capacity of the Hold Queue (R122). -/
def holdSlots : Nat := 16
/-- Most entries one drain frame or one re-sent OWN frame carries (R124, R127). -/
def entriesPerFrame : Nat := 8
/-- Capacity of the Pending Wake Queue (R108). -/
def wakeSlots : Nat := 8
/-- Maximum of an 8-bit saturating counter. -/
def max8 : Nat := 255
/-- Maximum of a 16-bit saturating counter. -/
def max16 : Nat := 65535
/-- Largest rail good time of a report, in ticks (R54). -/
def goodTimeMax : Nat := 16777215
/-- Most records of a table image (R136). -/
def imageRecordMax : Nat := 400
/-- Format code of a table image (R163). -/
def imageFormat : BitVec 8 := 0xE6
/-- The bytes the Image Loader sends before it reads: the read command and two address bytes of 0 (R163). -/
def readCommand : List (BitVec 8) := [0x03, 0x00, 0x00]
/-- Longest override time stored, in units of T1K (R156). -/
def overrideMaxK : Nat := 1920
/-- Shortest and longest qualifying standby oscillator period, in RC periods (R130). -/
def soPeriodMin : Nat := 439
/-- See `soPeriodMin` (R130). -/
def soPeriodMax : Nat := 537
/-- RC periods without a standby oscillator edge that make a loss (R130). -/
def soLossPeriods : Nat := 1952
/-- Ticks of one window of the frequency loop, and the count expected in it (R131). -/
def windowTicks : Nat := 16
/-- See `windowTicks` (R131). -/
def windowExpected : Nat := 8192
/-- Runs the engine's chain of steps is unfolded for; twice the most runs one event can begin
(assumption 12). -/
def chainFuel : Nat := 16384

/-- FREE VALUE (DESIGN CHOICE, assumption 5). The byte that stands in the place of an absent field
in a read-out, where chapter 11 states no value for it: the first argument is the state's use
counter, the second the field. -/
opaque absentByte : Nat → Nat → BitVec 8

/-- FREE VALUE (DESIGN CHOICE, assumption 6). Whether a step with the commit flag that stands at
index 255, and whose outcome would take the channel on, commits before the RUNAWAY ending. R14 lets
it commit when it "leads the Normal channel on to the next step", and there is no next step. -/
opaque commitsAtRunaway : Nat → Bool

/-- FREE VALUE (DESIGN CHOICE, assumption 7). Whether the forwarded WIRE frame stands in the
transmit queue at the place its kept slot had when the arriving frame was taken, ahead of internal
frames that took other slots while its entries were handled (R120, R145). -/
opaque keptSlotKeepsPlace : Nat → Bool

end Sys2Proof.Config
end

