-- ==== Sys2Proof/Syntax.lean ====
section
/-! DEFINITION. The commands of the ES610: one constructor for each row of the opcode table, with
what the event brings from outside the part as its operands. A command's operands also carry the
order of two effects wherever the manual says that either may come first inside one event
(assumption 3). -/

namespace Sys2Proof

/-- The two link ports (chapter 9). -/
inductive Port
  | hub
  | board
  deriving DecidableEq, Repr

/-- The other port of a frame: the one it did not arrive on. -/
def Port.other : Port → Port
  | .hub => .board
  | .board => .hub

/-- The electrical levels at the part's input pins at one moment: IN0 to IN7 (bit n is INn), PWRBTN
and PFAIL (true is high), PG0 to PG7, and the voltage at each sense pin SC0 to SC11 in millivolts. -/
structure Lines where
  ins    : BitVec 8
  pwrbtn : Bool
  pfail  : Bool
  pg     : BitVec 8
  sc     : Vector Nat 12
  deriving DecidableEq, Repr

/-- The orders in which the effects of one detector change may be taken (R92, R101): `wake` is the
fire, `guard` is the trip of the trip line or the clearing of the fault latch by source 8, `timer` is
the override hold timer. -/
inductive EffectOrder
  | wakeGuardTimer
  | wakeTimerGuard
  | guardWakeTimer
  | guardTimerWake
  | timerWakeGuard
  | timerGuardWake
  deriving DecidableEq, Repr

/-- The commands, in the order of the opcode table. -/
inductive Instr
  /-- STANDBY_POWER_ON_RESET (R135). -/
  | standbyPowerOnReset
  /-- IMAGE_HEADER_READ (R136): the three header bytes read from the EEPROM. -/
  | imageHeaderRead (fmt countLo countHi : Byte)
  /-- IMAGE_RECORD_READ (R137): the table id and index bytes and the eleven bytes that follow them
  in the EEPROM, of which the loader reads as many as the table id fixes (R161). -/
  | imageRecordRead (tid index : Byte) (data : Vector Byte 11)
  /-- END_OF_THE_LOAD (R140): the two trailer bytes (read only when the image has not been found
  bad) and the input levels at that moment. -/
  | endOfTheLoad (crcHi crcLo : Byte) (lines : Lines)
  /-- TICK_BOUNDARY (R129), with the input levels at the boundary. -/
  | tickBoundary (lines : Lines)
  /-- SO_LOSS (R130): RC periods since the last standby oscillator edge, and the input levels. -/
  | soLoss (rcPeriods : Nat) (lines : Lines)
  /-- SO_RETURN (R130): the lengths of the last four standby oscillator periods in RC periods, and
  the input levels at the edge that ends the fourth. -/
  | soReturn (p1 p2 p3 p4 : Nat) (lines : Lines)
  /-- LOOP_WINDOW_END (R131): the loop's output periods counted in the window. -/
  | loopWindowEnd (count : Nat)
  /-- SCAN_PASS (R80): the rail slots whose scan-pass events of this boundary are taken here, in order. Those
  the pass still owes after it come by a later row of the boundary, and at the latest before the next one. -/
  | scanPass (slots : List (Fin 16))
  /-- SETTLE_TIMER_EXPIRY (R65). -/
  | settleTimerExpiry (slot : Fin 16)
  /-- DRAIN_TIMER_EXPIRY (R66). -/
  | drainTimerExpiry (slot : Fin 16)
  /-- DETECTOR_SAMPLE (R100) of a line source 0 to 8. -/
  | detectorSample (source : Fin 9) (order : EffectOrder)
  /-- OVERRIDE_TIMER_EXPIRY (R94). -/
  | overrideTimerExpiry
  /-- PFAIL_SAMPLE (R95). -/
  | pfailSample
  /-- STEP_TIMER_EXPIRY (R26). -/
  | stepTimerExpiry
  /-- WAIT_GOOD_COMPLETES (R31): the event of the awaited rail that moves its verdict to GOOD or LOST. -/
  | waitGoodCompletes
  /-- WAIT_OFF_COMPLETES (R32): the event of the awaited rail that moves its verdict to OFF. -/
  | waitOffCompletes
  /-- WAIT_LINE_COMPLETES (R36): the raw sample of the awaited line at this boundary is taken. -/
  | waitLineCompletes
  /-- CLOCK_UP_COMPLETES (R39): the window end, with its count, that sets LOCKED and moves the core to
  FAST_LOOP. -/
  | clockUpCompletes (count : Nat)
  /-- RELEASE_COMPLETES (R38): the drain frame that empties the Hold Queue takes its slot. -/
  | releaseCompletes
  /-- END_COMPLETES (R28): the drain frame that empties the Hold Queue takes its slot. -/
  | endCompletes
  /-- FRAME_RECEPTION_BEGINS (R142): a start bit at a port; `rested` says that the line had rested
  at 1 for ten bit times before it (R148). -/
  | frameReceptionBegins (port : Port) (rested : Bool)
  /-- FRAME_ARRIVAL (R143): the run of bytes received and whether one of them had a stop bit of 0. -/
  | frameArrival (port : Port) (bytes : List Byte) (framingFault : Bool)
  /-- SEND_COMPLETION (R145). -/
  | sendCompletion (port : Port)
  /-- WIRE_FRAME_TAKEN (R119). -/
  | wireFrameTaken
  /-- DATA_FRAME_TAKEN (R116). -/
  | dataFrameTaken
  /-- MISROUTED_FRAME_DROP (R116). -/
  | misroutedFrameDrop
  /-- BOARD_WAKE_FRAME (R110). -/
  | boardWakeFrame
  /-- DRAIN_FRAME_TAKES_SLOT (R124). -/
  | drainFrameTakesSlot
  /-- SEND_WIRE_FRAME_TAKES_SLOT (R37). -/
  | sendWireFrameTakesSlot
  /-- INTERNAL_FRAME_TAKES_SLOT (R146) at a port. -/
  | internalFrameTakesSlot (port : Port)
  /-- MGMT_RESPONSE_TAKES_SLOT (R150). -/
  | mgmtResponseTakesSlot
  /-- LRST_ASSERTED (R147): `endFirst` says that an END waiting for the drain ends before the
  request event of the assertion is taken (R10). -/
  | lrstAsserted (endFirst : Bool)
  /-- LRST_RELEASED (R148): `wiresFirst` says that the OWN wires are re-sent before the wakes are
  re-announced (R113). -/
  | lrstReleased (wiresFirst : Bool)
  /-- UNKNOWN_OP (R152). -/
  | unknownOp
  /-- READ_STATUS (R153). -/
  | readStatus
  /-- READ_TABLE (R154). -/
  | readTable
  /-- WRITE_TABLE_RAIL (R56). -/
  | writeTableRail
  /-- WRITE_TABLE_STEP (R23). -/
  | writeTableStep
  /-- WRITE_TABLE_TRANSITION (R6). -/
  | writeTableTransition
  /-- WRITE_TABLE_WIREMAP (R117). -/
  | writeTableWiremap
  /-- WRITE_TABLE_WAKESRC (R99). -/
  | writeTableWakesrc
  /-- WRITE_TABLE_POLICY (R3). -/
  | writeTablePolicy
  /-- HALT (R49). -/
  | halt
  /-- CONTINUE (R51). -/
  | continueRun
  /-- STEP_MODE_ON (R50). -/
  | stepModeOn
  /-- STEP_MODE_OFF (R50). -/
  | stepModeOff
  /-- CLEAR_FAULT (R90). -/
  | clearFault
  /-- CLEAR_WAKES (R108). -/
  | clearWakes
  /-- CLEAR_FLAGS (R158). -/
  | clearFlags
  /-- CLEAR_COUNTERS (R158). -/
  | clearCounters
  /-- STANDBY_POWER_FALL (R135). -/
  | standbyPowerFall
  deriving DecidableEq, Repr

end Sys2Proof
end

