-- ==== Sys2Proof/Decode.lean ====
section
/-! DEFINITION. The command that a word of the opcode table's bits spells. No row of this part's table
gives bits: its commands are events of the part, and what reaches it in bytes (frames, records, the
table image) stands in their operands (chapter 11). -/

namespace Sys2Proof

/-- The command an opcode word spells: none for every word, since no row of the table gives bits
(assumption 1). -/
def decodeTableWord (nbits w : Nat) : Option Instr :=
  match nbits, w with
  | _, _ => none

end Sys2Proof
end

