-- ==== Sys2Proof/Machine/State.lean ====
section
/-! DEFINITION. The state of the ES610 as plain data: every table, queue, register, flag, count and
pin the manual gives the part, block by block, the queue of waiting commands, and the reset values. -/

namespace Sys2Proof.Machine

/-! ## Names the manual gives -/

/-- The platform levels, shallowest first (Introduction, "Platform levels"). -/
inductive Level
  | working
  | suspend
  | hibernate
  | softOff
  deriving DecidableEq, Repr

/-- The nine states of the Platform State Controller (R1). -/
inductive PscState
  | loading
  | working
  | suspend
  | hibernate
  | softOff
  | transit
  | backout
  | urgent
  | halted
  deriving DecidableEq, Repr

/-- The state HALTED was entered from (R1, R17). -/
inductive HaltedFrom
  | transit
  | backout
  deriving DecidableEq, Repr

/-- The restore policies (R22). -/
inductive Restore
  | stayOff
  | powerOn
  | lastState
  deriving DecidableEq, Repr

/-- The units of a time field (R129). -/
inductive TimeUnit
  | t1
  | t32
  | t1k
  deriving DecidableEq, Repr

/-- A time field (R129). -/
structure TimeField where
  value : Fin 4096
  unit  : TimeUnit
  deriving DecidableEq, Repr

/-- An optional field as it is stored: the present flag, and the value bits, which are kept as
written while the flag is clear (R161). -/
structure Opt (α : Type) where
  present : Bool
  value   : α
  deriving DecidableEq, Repr

/-- The fifteen step kinds, in code order (R24, R161). -/
inductive StepKind
  | endList
  | railOn
  | railOff
  | waitGood
  | waitOff
  | delay
  | lineSet
  | waitLine
  | pulse
  | sendWire
  | release
  | clockUp
  | clockDown
  | armWake
  | mark
  deriving DecidableEq, Repr

/-- The fail actions of a step (R43); `goOn` is the action CONTINUE. -/
inductive FailAction
  | goOn
  | retry
  | backout
  | fault
  deriving DecidableEq, Repr

/-- The kinds of step failure (R43). -/
inductive FailKind
  | absent
  | dependency
  | timeout
  | lost
  | notOwn
  deriving DecidableEq, Repr

/-- The urgent kinds, highest rank first (R82). -/
inductive UrgKind
  | powerfail
  | override
  | fault
  deriving DecidableEq, Repr

/-- The rail verdicts (R60). -/
inductive Verdict
  | off
  | rising
  | good
  | lost
  | draining
  deriving DecidableEq, Repr

/-- An enable line: undriven until the image load ends, then deasserted or asserted (R57). -/
inductive EnLevel
  | deasserted
  | asserted
  | undriven
  deriving DecidableEq, Repr

/-- The causes of a FAULT trigger (R82). -/
inductive FaultCause
  | rail
  | trip
  | step
  | runaway
  deriving DecidableEq, Repr

/-- The detect modes of a wake source (R98). -/
inductive Detect
  | rise
  | fall
  | high
  | low
  deriving DecidableEq, Repr

/-- The direction of a wire (R117). -/
inductive Direction
  | down
  | up
  deriving DecidableEq, Repr

/-- The actions of a Wire Map entry (R117). -/
inductive WireAction
  | pass
  | track
  | hold
  | consume
  | own
  deriving DecidableEq, Repr

/-- The kinds of link frame (R159). -/
inductive FrameKind
  | wire
  | wake
  | data
  | mgmtReq
  | mgmtRsp
  deriving DecidableEq, Repr

/-- The tick source (R130). -/
inductive TickSource
  | rc
  | so
  deriving DecidableEq, Repr

/-- The states of the frequency loop (R131). -/
inductive LoopState
  | off
  | acquiring
  | tracking
  deriving DecidableEq, Repr

/-- The core clock modes (R133). -/
inductive CoreMode
  | fastLoop
  | fastRc
  | slow
  deriving DecidableEq, Repr

/-! ## Platform State Controller (chapter 1) -/

/-- Policy record 0 (section 1.2, R161). -/
structure Policy0 where
  reqSusp     : Fin 64
  reqHib      : Fin 64
  reqOff      : Fin 64
  offNotice   : Opt (Fin 64)
  restore     : Restore
  trip        : Opt (Fin 16)
  overrideFor : TimeField
  pfailWidth  : Fin 16
  outMask     : BitVec 8
  deriving DecidableEq, Repr

/-- Policy record 1: the urgent list starts (section 1.2, R161). -/
structure Policy1 where
  powerfail : Opt (Fin 256)
  override  : Opt (Fin 256)
  fault     : Opt (Fin 256)
  deriving DecidableEq, Repr

/-- An entry of the Transition Table (R6). -/
structure TransEntry where
  present   : Bool
  mainStart : Fin 256
  backout   : Opt (Fin 256)
  deriving DecidableEq, Repr

/-- The fields of the PSC (R2), the Transition Table (R6) and the Platform Policy (R3). The table is
indexed by from × 4 + to; its four diagonal places are no entries and are never read or written. -/
structure Psc where
  state          : PscState
  current        : Level
  target         : Level
  commit         : Bool
  slot           : Option Level
  latch          : Bool
  gateClosed     : Bool
  restoreOn      : Bool
  pendingRestore : Bool
  unsupported    : Bool
  haltedFrom     : Option HaltedFrom
  trans          : Vector TransEntry 16
  policy0        : Policy0
  policy1        : Policy1
  deriving DecidableEq, Repr

/-! ## Sequence Engine (chapter 2) -/

/-- A step record (R23). -/
structure StepRec where
  kind   : StepKind
  opA    : Fin 64
  opB    : Bool
  time   : TimeField
  action : FailAction
  retry  : Fin 4
  commit : Bool
  deriving DecidableEq, Repr

/-- The states of the Normal channel (R42). -/
inductive NormState
  | idle
  | running
  | halted
  deriving DecidableEq, Repr

/-- The list origin of the Normal channel: the Transition Table entry and which of its lists (R42). -/
structure NormOrigin where
  entry   : Fin 16
  backout : Bool
  deriving DecidableEq, Repr

/-- The Normal channel (R42). `ran` is the last step the channel ran, which the current step index
reads while the channel is IDLE; `rerunDue` tells, while HALTED, whether the run due at CONTINUE is a
rerun (R42, R51). -/
structure Norm where
  st          : NormState
  origin      : Option NormOrigin
  idx         : Fin 256
  ran         : Fin 256
  retries     : Fin 4
  start       : Tick
  haltPending : Bool
  rerunDue    : Bool
  deriving DecidableEq, Repr

/-- The Urgent channel (R42). -/
structure Urg where
  running : Bool
  kind    : Option UrgKind
  idx     : Fin 256
  ran     : Fin 256
  start   : Tick
  deriving DecidableEq, Repr

/-- What the running channel waits for: nothing, the step in progress, the drain after an urgent
runaway (R25), or the drain of the built-in shutdown (R86). -/
inductive Wait
  | none
  | step
  | runaway
  | builtin
  deriving DecidableEq, Repr

/-- How a step run, or a drain wait of the Urgent channel, has ended (R43, R25, R86). -/
inductive RunEnd
  | ok
  | failed (k : FailKind)
  | runawayDrained
  | builtinDrained
  deriving DecidableEq, Repr

/-- What the engine still has to do within the present event (R25); `nothing` between events. -/
inductive Due
  | nothing
  | beginRun (rerun : Bool)
  | runEnded (e : RunEnd)
  deriving DecidableEq, Repr

/-- The origin of a Transition Report (R52); `empty` is the record before any report. -/
inductive Origin
  | empty
  | entry (i : Fin 16)
  | urgent (k : UrgKind)
  deriving DecidableEq, Repr

/-- The outcome of a closed report (R52). -/
inductive ReportOutcome
  | completed
  | backedOut
  | stopped
  | failedToFault
  | unsupported
  | latched
  | runaway
  deriving DecidableEq, Repr

/-- The first failure of a report (R52). -/
structure FirstFailure where
  step : Fin 256
  kind : FailKind
  deriving DecidableEq, Repr

/-- A Transition Report (R52). -/
structure Report where
  isOpen       : Bool
  origin       : Origin
  fromLevel    : Level
  toLevel      : Level
  outcome      : Option ReportOutcome
  startTick    : Tick
  endTick      : Option Tick
  committed    : Bool
  steps        : Nat
  warnings     : Nat
  firstFailure : Option FirstFailure
  lastMark     : Option (Fin 64)
  holdOverflow : Nat
  holdCollapse : Nat
  wakeList     : List (Fin 14)
  goodTimes    : Vector (Option Nat) 16
  deriving DecidableEq, Repr

/-- The Sequence Engine: the Step Store, the two channels, the record read at the start of the run in
progress (R23), what it waits for, what is due within the event, step mode and the two reports. -/
structure Engine where
  steps    : Vector StepRec 256
  norm     : Norm
  urg      : Urg
  cur      : StepRec
  wait     : Wait
  due      : Due
  stepMode : Bool
  inflight : Report
  last     : Report
  deriving DecidableEq, Repr

/-! ## Rail Control and Rail Monitor (chapters 3 and 4) -/

/-- The MONITORED sense group, but for channel and filter (R55). -/
structure Bands where
  gain    : Nat
  nominal : Nat
  tolGood : Nat
  tolFail : Nat
  drain   : Nat
  deriving DecidableEq, Repr

/-- The sense kind of a rail with the fields of its group (R55); `timed` is the kind NONE. -/
inductive Sense
  | monitored (b : Bands)
  | pgline
  | timed (settle drain : TimeField)
  deriving DecidableEq, Repr

/-- A Rail Table record (R55). `line` is the channel or power-good line and `filter` the stored F. -/
structure RailRec where
  present   : Bool
  activeLow : Bool
  critical  : Bool
  parent    : Opt (Fin 16)
  line      : Fin 16
  filter    : Fin 16
  sense     : Sense
  deriving DecidableEq, Repr

/-- A rail status record (R69); `timer` is the start of the settle or drain timer in progress of a
NONE rail (R65, R66). -/
structure RailStat where
  verdict   : Verdict
  en        : EnLevel
  mV        : Nat
  inCount   : Nat
  overCount : Nat
  outCount  : Nat
  lowCount  : Nat
  lost      : Nat
  timer     : Option Tick
  deriving DecidableEq, Repr

/-- Rail Control with the last codes of the sense channels (R55, R69, R70). -/
structure Rails where
  table    : Vector RailRec 16
  stat     : Vector RailStat 16
  lastCode : Vector (BitVec 10) 12
  deriving DecidableEq, Repr

/-! ## Fault Unit (chapter 5) -/

/-- The first-fault group of the Fault Record (R90). -/
structure FirstFault where
  cause   : FaultCause
  subject : Fin 256
  psc     : PscState
  level   : Level
  tick    : Tick
  deriving DecidableEq, Repr

/-- The Fault Record (R90). -/
structure FaultRecord where
  first       : Option FirstFault
  further     : Nat
  urgentFails : Nat
  deriving DecidableEq, Repr

/-! ## Wake Unit (chapters 5 and 6) -/

/-- An entry of the Wake Source Table (R98); bit n of the arm mask is level n. -/
structure WakeSource where
  mask  : BitVec 4
  mode  : Detect
  width : Fin 16
  deriving DecidableEq, Repr

/-- A line detector or the AC-fail detector (R100, R95). -/
structure Detector where
  active : Bool
  count  : Nat
  deriving DecidableEq, Repr

/-- An entry of the Pending Wake Queue (R108). -/
structure WakeEntry where
  source : Fin 14
  first  : Tick
  count  : Nat
  deriving DecidableEq, Repr

/-- The override hold timer while RUNNING: its start and its duration in ticks (R93). -/
structure OverrideTimer where
  start    : Tick
  duration : Nat
  deriving DecidableEq, Repr

/-- The Wake Unit. `sample` is the most recent tick sample of IN0 to IN7 and PWRBTN (R36, R99). -/
structure Wake where
  table     : Vector WakeSource 14
  det       : Vector Detector 9
  sample    : Vector Bool 9
  armed     : Level
  queue     : List WakeEntry
  missed    : Vector Nat 14
  overflow  : Bool
  overrideT : Option OverrideTimer
  pfail     : Detector
  deriving DecidableEq, Repr

/-! ## Traffic Classifier (chapter 7) -/

/-- An entry of the Wire Map (R117). -/
structure WireEntry where
  dir    : Direction
  action : WireAction
  deflt  : Bool
  deriving DecidableEq, Repr

/-- A wire and a level, as a WIRE frame or the Hold Queue carries it (R122, R159). -/
structure WireLevel where
  wire  : Fin 64
  level : Bool
  deriving DecidableEq, Repr

/-- The Traffic Classifier. `kept` is the port whose transmit slot is kept for the frame being formed
while the entries of a WIRE frame are handled (R120); none between events. -/
structure Classifier where
  map          : Vector WireEntry 64
  level        : Vector Bool 64
  hold         : Bool
  queue        : List WireLevel
  pointer      : Port
  misdirected  : Nat
  ownDrop      : Nat
  holdOverflow : Nat
  collapse     : Nat
  overflowFlag : Bool
  kept         : Option Port
  deriving DecidableEq, Repr

/-! ## Link ports (chapter 9) and Management Agent (chapter 10) -/

/-- A link frame but for its CRC-8 (R159); `bit6` is bit 6 of the route and tag byte, which a
forwarded DATA frame keeps. -/
structure Frame where
  kind    : FrameKind
  route   : Bool
  bit6    : Bool
  tag     : BitVec 6
  payload : List Byte
  deriving DecidableEq, Repr

/-- An internal frame waiting for a transmit slot (R145): a WAKE notice, an off-notice or re-sent OWN
frame with its entries, the drain frame, or the frame of a SEND_WIRE step. -/
inductive Internal
  | notice (source : Fin 14)
  | wires (entries : List WireLevel)
  | drain
  | sendWire (e : WireLevel)
  deriving DecidableEq, Repr

/-- The counters of a port (R149). -/
structure PortCounters where
  overrun    : Nat
  malformed  : Nat
  crcErr     : Nat
  unknown    : Nat
  routeErr   : Nat
  noticeLost : Nat
  deriving DecidableEq, Repr

/-- A link port: the receive queue, the frame in reception (whether it holds a slot), whether a
reception must wait for a rest of the line (R148), the transmit queue, the internal frames waiting in
creation order (R146) and the counters. -/
structure Link where
  rx        : List Frame
  receiving : Option Bool
  needRest  : Bool
  tx        : List Frame
  waiting   : List Internal
  counters  : PortCounters
  deriving DecidableEq, Repr

/-- The request in service: the port it arrived on and the response waiting (R150). -/
structure Service where
  port     : Port
  response : Frame
  deriving DecidableEq, Repr

/-! ## Clock Unit and Image Loader (chapter 8) -/

/-- The Clock Unit (R129 to R134). `window` is the start of the measuring window in progress. -/
structure Clock where
  tick        : Tick
  source      : TickSource
  lossArmed   : Bool
  loop        : LoopState
  good        : Nat
  window      : Option Tick
  locked      : Bool
  lockChanges : Nat
  mode        : CoreMode
  fallback    : Bool
  soLost      : Bool
  deriving DecidableEq, Repr

/-- Where the Image Loader stands (R136 to R140): before the header, with so many records to read,
with the image found bad, or finished. -/
inductive LoadPhase
  | header
  | records (left : Nat)
  | bad
  | done
  deriving DecidableEq, Repr

/-- The Image Loader: its phase, the bytes it has sent through the image port (R163), the CRC-16 over the
bytes read, the warnings, IMAGE_BAD (R138, R141) and the chip select of the image port (R136). -/
structure Loader where
  phase      : LoadPhase
  sent       : List Byte
  crc        : BitVec 16
  warnings   : Nat
  imageBad   : Bool
  chipSelect : Bool
  deriving DecidableEq, Repr

/-! ## Pins and the present tick boundary -/

/-- The output lines OUT0 to OUT7 (undriven until the load ends, R34) and the input levels at the
last tick boundary. -/
structure Pins where
  out : Vector (Option Bool) 8
  now : Lines
  deriving DecidableEq, Repr

/-- What the present tick boundary still owes: the detector samples, the AC-fail sample and the scan-pass events
of the rails not yet taken at it, whether a scan pass has begun at it, and the rails scanned where it began
(R71, R72, R100). -/
structure Boundary where
  det       : Vector Bool 9
  pfail     : Bool
  rail      : Vector Bool 16
  passBegun : Bool
  scanned   : Vector Bool 16
  deriving DecidableEq, Repr

/-- Why the part stops. No command of the part ends in a fault: the manual gives each an effect in
every state, so the type has no member, and no meaning raises one (safe). -/
inductive Fault
  deriving DecidableEq, Repr

/-- Why a command has no meaning. -/
inductive Refusal
  /-- Raised by the dispatch alone, for a row of the opcode table with no meaning yet; safe. No arm
  raises it at present. -/
  | notModelled (mnemonic : String)
  deriving DecidableEq, Repr

/-- The whole part. `lrst` is the link reset input (asserted when set), `powered` tells that standby
power stands (R135), `uses` counts the uses made of free values (assumption 4), and `pending` is the
queue of waiting commands, first in first out. -/
structure State where
  psc      : Psc
  eng      : Engine
  rails    : Rails
  fault    : FaultRecord
  wake     : Wake
  wire     : Classifier
  hub      : Link
  board    : Link
  agent    : Option Service
  clock    : Clock
  loader   : Loader
  pins     : Pins
  boundary : Boundary
  lrst     : Bool
  powered  : Bool
  uses     : Nat
  pending  : List Instr
  deriving DecidableEq, Repr

/-! ## Named updates of one block -/

namespace State

def setPsc (s : State) (x : Psc) : State := { s with psc := x }
def setEng (s : State) (x : Engine) : State := { s with eng := x }
def setRails (s : State) (x : Rails) : State := { s with rails := x }
def setFault (s : State) (x : FaultRecord) : State := { s with fault := x }
def setWake (s : State) (x : Wake) : State := { s with wake := x }
def setWire (s : State) (x : Classifier) : State := { s with wire := x }
def setHub (s : State) (x : Link) : State := { s with hub := x }
def setBoard (s : State) (x : Link) : State := { s with board := x }
def setAgent (s : State) (x : Option Service) : State := { s with agent := x }
def setClock (s : State) (x : Clock) : State := { s with clock := x }
def setLoader (s : State) (x : Loader) : State := { s with loader := x }
def setPins (s : State) (x : Pins) : State := { s with pins := x }
def setBoundary (s : State) (x : Boundary) : State := { s with boundary := x }
def setLrst (s : State) (x : Bool) : State := { s with lrst := x }
def setPowered (s : State) (x : Bool) : State := { s with powered := x }
def setUses (s : State) (x : Nat) : State := { s with uses := x }
def setPending (s : State) (x : List Instr) : State := { s with pending := x }

end State

/-! ## Reset values and blank tables -/

/-- The time field 0 × T1. -/
def zeroTime : TimeField := { value := 0, unit := .t1 }

/-- Blank Policy record 0 (section 1.2, R139). -/
def blankPolicy0 : Policy0 :=
  { reqSusp := 0, reqHib := 1, reqOff := 2, offNotice := { present := false, value := 0 },
    restore := .stayOff, trip := { present := false, value := 0 },
    overrideFor := { value := 128, unit := .t1k }, pfailWidth := 4, outMask := 0 }

/-- Blank Policy record 1 (R139). -/
def blankPolicy1 : Policy1 :=
  { powerfail := { present := false, value := 0 }, override := { present := false, value := 0 },
    fault := { present := false, value := 0 } }

/-- Blank Transition Table entry (R6, R139). -/
def blankTrans : TransEntry :=
  { present := false, mainStart := 0, backout := { present := false, value := 0 } }

/-- Blank step record (R23, R139). -/
def blankStep : StepRec :=
  { kind := .endList, opA := 0, opB := false, time := zeroTime, action := .goOn, retry := 0,
    commit := false }

/-- Blank rail record (R55, R139). -/
def blankRail : RailRec :=
  { present := false, activeLow := false, critical := false, parent := { present := false, value := 0 },
    line := 0, filter := 0, sense := .timed zeroTime zeroTime }

/-- Blank wake source entry of sources other than 8 (R98, R139). -/
def blankWake : WakeSource := { mask := 0, mode := .rise, width := 0 }

/-- Blank Wake Source Table (R98, R139). -/
def blankWakes : Vector WakeSource 14 :=
  poke (Vector.replicate 14 blankWake) 8 { blankWake with mode := .fall }

/-- Blank Wire Map entry of wires other than W0, W1 and W2 (R117, R139). -/
def blankWire : WireEntry := { dir := .down, action := .pass, deflt := false }

/-- Blank Wire Map (R117, R139). -/
def blankWires : Vector WireEntry 64 :=
  poke (poke (poke (Vector.replicate 64 blankWire) 0 { blankWire with action := .track }) 1
    { blankWire with action := .track }) 2 { blankWire with action := .track }

/-- The empty report (R52). -/
def emptyReport : Report :=
  { isOpen := false, origin := .empty, fromLevel := .working, toLevel := .working, outcome := none,
    startTick := 0, endTick := none, committed := false, steps := 0, warnings := 0,
    firstFailure := none, lastMark := none, holdOverflow := 0, holdCollapse := 0, wakeList := [],
    goodTimes := Vector.replicate 16 none }

/-- All six port counters at 0 (R149). -/
def zeroCounters : PortCounters :=
  { overrun := 0, malformed := 0, crcErr := 0, unknown := 0, routeErr := 0, noticeLost := 0 }

/-- A port with empty queues (R142, R145). -/
def idleLink : Link :=
  { rx := [], receiving := none, needRest := false, tx := [], waiting := [], counters := zeroCounters }

/-- Input levels all low and 0 mV (assumption 8). -/
def lowLines : Lines :=
  { ins := 0, pwrbtn := false, pfail := false, pg := 0, sc := Vector.replicate 12 0 }

/-- Rail status after reset (R69). -/
def resetStat : RailStat :=
  { verdict := .off, en := .undriven, mV := 0, inCount := 0, overCount := 0, outCount := 0,
    lowCount := 0, lost := 0, timer := none }

/-- A boundary that owes nothing. -/
def quietBoundary : Boundary :=
  { det := Vector.replicate 9 false, pfail := false, rail := Vector.replicate 16 false,
    passBegun := false, scanned := Vector.replicate 16 false }

/-- A detector that is INACTIVE with count 0 (R100, R95). -/
def idleDetector : Detector := { active := false, count := 0 }

/-- The part right after standby power-on reset: each chapter's reset values (R1, R2, R23, R42, R52,
R55, R69, R70, R90, R93, R95, R98, R100, R102, R108, R109, R117, R118, R121, R122, R128, R132, R135,
R145, R149, R150), LRST released (assumption 8) and no command waiting. -/
def State.reset : State :=
  { psc :=
      { state := .loading, current := .softOff, target := .softOff, commit := false, slot := none,
        latch := false, gateClosed := false, restoreOn := false, pendingRestore := false,
        unsupported := false, haltedFrom := none, trans := Vector.replicate 16 blankTrans,
        policy0 := blankPolicy0, policy1 := blankPolicy1 },
    eng :=
      { steps := Vector.replicate 256 blankStep,
        norm :=
          { st := .idle, origin := none, idx := 0, ran := 0, retries := 0, start := 0,
            haltPending := false, rerunDue := false },
        urg := { running := false, kind := none, idx := 0, ran := 0, start := 0 },
        cur := blankStep, wait := .none, due := .nothing, stepMode := false,
        inflight := emptyReport, last := emptyReport },
    rails :=
      { table := Vector.replicate 16 blankRail, stat := Vector.replicate 16 resetStat,
        lastCode := Vector.replicate 12 0 },
    fault := { first := none, further := 0, urgentFails := 0 },
    wake :=
      { table := blankWakes, det := Vector.replicate 9 idleDetector,
        sample := Vector.replicate 9 false, armed := .softOff, queue := [],
        missed := Vector.replicate 14 0, overflow := false, overrideT := none,
        pfail := idleDetector },
    wire :=
      { map := blankWires, level := Vector.replicate 64 false, hold := false, queue := [],
        pointer := .hub, misdirected := 0, ownDrop := 0, holdOverflow := 0, collapse := 0,
        overflowFlag := false, kept := none },
    hub := idleLink, board := idleLink, agent := none,
    clock :=
      { tick := 0, source := .rc, lossArmed := false, loop := .acquiring, good := 0, window := none,
        locked := false, lockChanges := 0, mode := .fastRc, fallback := false, soLost := false },
    loader :=
      { phase := .header, sent := [], crc := 0xFFFF, warnings := 0, imageBad := false, chipSelect := true },
    pins := { out := Vector.replicate 8 none, now := lowLines },
    boundary := quietBoundary, lrst := false, powered := true, uses := 0, pending := [] }

end Sys2Proof.Machine
end

