-- ==== Sys2Proof/Machine/Operands.lean ====
section
/-! DEFINITION. Operand forms: bit fields of bytes, the codes of chapter 11, time fields, the two
CRCs, link frames, the records of the writable tables with their range checks and clamping, and the
arithmetic of rail measurement. -/

namespace Sys2Proof.Machine

/-! ## Bit fields -/

/-- Bits `lo` to `lo + len - 1` of a byte, as a number. -/
def field (b : Byte) (lo len : Nat) : Nat := b.toNat / 2 ^ lo % 2 ^ len

/-- The weight of bit `k` when `b` is set. -/
def bitAt (b : Bool) (k : Nat) : Nat := if b then 2 ^ k else 0

/-- A number below 256 as a byte. -/
def byteOf (n : Nat) : Byte := BitVec.ofNat 8 n

/-- A number as `k` bytes, least significant byte first (chapter 11). -/
def bytesLE : Nat → Nat → List Byte
  | 0, _ => []
  | k + 1, n => byteOf n :: bytesLE k (n / 256)

/-- Byte `i` of a record (0 beyond its end). -/
def byteAt (bs : List Byte) (i : Nat) : Byte := bs.getD i 0

/-- Two bytes of a record, least significant first. -/
def wordAt (bs : List Byte) (i : Nat) : Nat := (byteAt bs i).toNat + 256 * (byteAt bs (i + 1)).toNat

/-! ## Codes -/

/-- Number of a level ("Platform levels"). -/
def levelCode : Level → Fin 4
  | .working => 0
  | .suspend => 1
  | .hibernate => 2
  | .softOff => 3

/-- The level with a number. -/
def levelOf (n : Fin 4) : Level :=
  if n = 0 then .working else if n = 1 then .suspend else if n = 2 then .hibernate else .softOff

/-- The level state of a level (R1). -/
def levelState : Level → PscState
  | .working => .working
  | .suspend => .suspend
  | .hibernate => .hibernate
  | .softOff => .softOff

/-- The level of a level state (R1). -/
def stateLevel : PscState → Option Level
  | .working => some .working
  | .suspend => some .suspend
  | .hibernate => some .hibernate
  | .softOff => some .softOff
  | .loading => none
  | .transit => none
  | .backout => none
  | .urgent => none
  | .halted => none

/-- PSC state code of the status record (R160). -/
def pscCode : PscState → Nat
  | .loading => 0
  | .working => 1
  | .suspend => 2
  | .hibernate => 3
  | .softOff => 4
  | .transit => 5
  | .backout => 6
  | .urgent => 7
  | .halted => 8

/-- Urgent kind code of the status record (R160). -/
def urgCode : UrgKind → Nat
  | .powerfail => 1
  | .override => 2
  | .fault => 3

/-- Step kind code (R161). -/
def kindCode : StepKind → Nat
  | .endList => 0
  | .railOn => 1
  | .railOff => 2
  | .waitGood => 3
  | .waitOff => 4
  | .delay => 5
  | .lineSet => 6
  | .waitLine => 7
  | .pulse => 8
  | .sendWire => 9
  | .release => 10
  | .clockUp => 11
  | .clockDown => 12
  | .armWake => 13
  | .mark => 14

/-- The step kind with a code; 15 is none (R161). -/
def kindOf (n : Nat) : Option StepKind :=
  [.endList, .railOn, .railOff, .waitGood, .waitOff, .delay, .lineSet, .waitLine, .pulse, .sendWire,
    .release, .clockUp, .clockDown, .armWake, .mark][n]?

/-- Fail action code (R161). -/
def actionCode : FailAction → Nat
  | .goOn => 0
  | .retry => 1
  | .backout => 2
  | .fault => 3

/-- The fail action with a code; every 2-bit code is listed (R161). -/
def actionOf (n : Nat) : FailAction :=
  if n = 0 then .goOn else if n = 1 then .retry else if n = 2 then .backout else .fault

/-- Failure kind code of a report (R162). -/
def failCode : FailKind → Nat
  | .absent => 1
  | .dependency => 2
  | .timeout => 3
  | .lost => 4
  | .notOwn => 5

/-- Wire action code (R161). -/
def wireActionCode : WireAction → Nat
  | .pass => 0
  | .track => 1
  | .hold => 2
  | .consume => 3
  | .own => 4

/-- The wire action with a code; 5 to 7 are unknown (R161). -/
def wireActionOf (n : Nat) : Option WireAction := [.pass, .track, .hold, .consume, .own][n]?

/-- Detect mode code (R161). -/
def detectCode : Detect → Nat
  | .rise => 0
  | .fall => 1
  | .high => 2
  | .low => 3

/-- The detect mode with a code; 4 to 7 are unknown (R161). -/
def detectOf (n : Nat) : Option Detect := [.rise, .fall, .high, .low][n]?

/-- Restore policy code (R161). -/
def restoreCode : Restore → Nat
  | .stayOff => 0
  | .powerOn => 1
  | .lastState => 2

/-- The restore policy with a code; 3 is unknown (R161). -/
def restoreOf (n : Nat) : Option Restore := [.stayOff, .powerOn, .lastState][n]?

/-- Verdict code (R162). -/
def verdictCode : Verdict → Nat
  | .off => 0
  | .rising => 1
  | .good => 2
  | .lost => 3
  | .draining => 4

/-- EN level code (R162). -/
def enCode : EnLevel → Nat
  | .deasserted => 0
  | .asserted => 1
  | .undriven => 2

/-- Core clock mode code (R160). -/
def modeCode : CoreMode → Nat
  | .fastLoop => 0
  | .fastRc => 1
  | .slow => 2

/-- Report outcome code (R162). -/
def outcomeCode : ReportOutcome → Nat
  | .completed => 1
  | .backedOut => 2
  | .stopped => 3
  | .failedToFault => 4
  | .unsupported => 5
  | .latched => 6
  | .runaway => 7

/-- Report origin code (R162). -/
def originCode : Origin → Nat
  | .empty => 255
  | .entry i => i.val
  | .urgent .powerfail => 16
  | .urgent .override => 17
  | .urgent .fault => 18

/-- Fault cause code (R162). -/
def causeCode : FaultCause → Nat
  | .rail => 1
  | .trip => 2
  | .step => 3
  | .runaway => 4

/-! ## Time fields (R129) -/

/-- Ticks per unit (R129). -/
def unitTicks : TimeUnit → Nat
  | .t1 => 1
  | .t32 => 32
  | .t1k => 1024

/-- Duration of a time field in ticks (R129). -/
def duration (t : TimeField) : Nat := t.value.val * unitTicks t.unit

/-- Unit code (R129). -/
def unitCode : TimeUnit → Nat
  | .t1 => 0
  | .t32 => 1
  | .t1k => 2

/-- The unit with a code; 3 is unknown (R129). -/
def unitOf (n : Nat) : Option TimeUnit := [.t1, .t32, .t1k][n]?

/-- A time field in its two bytes: value in bits 11–0, unit in bits 13–12 (chapter 11). -/
def encodeTime (t : TimeField) : List Byte := bytesLE 2 (t.value.val + 4096 * unitCode t.unit)

/-- The time field in a two-byte word; none for the unknown unit (R129). -/
def decodeTime (w : Nat) : Option TimeField :=
  (unitOf (w / 4096 % 4)).map fun u => { value := Fin.ofNat 4096 w, unit := u }

/-! ## CRCs -/

/-- One bit of the CRC-8 with polynomial x^8 + x^2 + x + 1 (R143). -/
def crc8Bit (c : Byte) : Byte := if c.msb then c <<< 1 ^^^ 0x07 else c <<< 1

/-- CRC-8 of a run of bytes, initial value 0 (R143). -/
def crc8 (bs : List Byte) : Byte := bs.foldl (fun c b => Nat.iterate crc8Bit 8 (c ^^^ b)) 0

/-- One bit of the CRC-16 with polynomial 0x1021 (R136). -/
def crc16Bit (c : BitVec 16) : BitVec 16 := if c.msb then c <<< 1 ^^^ 0x1021 else c <<< 1

/-- The CRC-16 carried on over one byte, most significant bit first (R163). -/
def crc16Byte (c : BitVec 16) (b : Byte) : BitVec 16 :=
  Nat.iterate crc16Bit 8 (c ^^^ (b.setWidth 16 <<< 8))

/-- The CRC-16 carried on over a run of bytes (R136). -/
def crc16 (c : BitVec 16) (bs : List Byte) : BitVec 16 := bs.foldl crc16Byte c

/-! ## Link frames (R159) -/

/-- Frame kind code (R159). -/
def frameCode : FrameKind → Nat
  | .wire => 1
  | .wake => 2
  | .data => 3
  | .mgmtReq => 4
  | .mgmtRsp => 5

/-- The frame kind of a received code: 1 to 4, every other is UNKNOWN (R143). -/
def frameKindOf (n : Nat) : Option FrameKind :=
  if n = 1 then some .wire else if n = 2 then some .wake else if n = 3 then some .data
  else if n = 4 then some .mgmtReq else none

/-- The bytes of a frame before its CRC-8 (R159). -/
def frameBody (f : Frame) : List Byte :=
  byteOf (16 * frameCode f.kind + f.payload.length) ::
    byteOf (bitAt f.route 7 + bitAt f.bit6 6 + f.tag.toNat) :: f.payload

/-- The bytes of a frame as a port sends them (R145, R159). -/
def frameBytes (f : Frame) : List Byte := frameBody f ++ [crc8 (frameBody f)]

/-- Why a received run of bytes is dropped (R143). -/
inductive DropCause
  | malformed
  | crcErr
  | unknown
  deriving DecidableEq, Repr

/-- Checks 2 to 5 of R143 on a received run of bytes, in order. -/
def parseFrame (bytes : List Byte) (framingFault : Bool) : Except DropCause Frame :=
  if framingFault || decide (18 < bytes.length) || decide (bytes.length < 3) then .error .malformed
  else if crc8 bytes.dropLast ≠ byteAt bytes (bytes.length - 1) then .error .crcErr
  else if field (byteAt bytes 0) 0 4 + 3 ≠ bytes.length then .error .malformed
  else
    match frameKindOf (field (byteAt bytes 0) 4 4) with
    | none => .error .unknown
    | some k =>
      .ok { kind := k, route := (byteAt bytes 1).getLsbD 7, bit6 := (byteAt bytes 1).getLsbD 6,
            tag := BitVec.ofNat 6 (byteAt bytes 1).toNat, payload := (bytes.drop 2).dropLast }

/-- A wire entry byte (R159). -/
def entryByte (e : WireLevel) : Byte := byteOf (e.wire.val + bitAt e.level 6)

/-- The wire and level of an entry byte, its spare bit apart (R159). -/
def entryOf (b : Byte) : WireLevel := { wire := Fin.ofNat 64 b.toNat, level := b.getLsbD 6 }

/-- A WIRE frame the part forms: route 0 and bit 6 clear (R120, R124, R125). -/
def wireFrame (tag : BitVec 6) (es : List WireLevel) : Frame :=
  { kind := .wire, route := false, bit6 := false, tag := tag, payload := es.map entryByte }

/-- A WAKE notice carrying a source number (R107). Its route bit and its tag are 0: DESIGN CHOICE (assumption
26), since R107 and R159 state neither for a notice. -/
def noticeFrame (source : Fin 14) : Frame :=
  { kind := .wake, route := false, bit6 := false, tag := 0, payload := [byteOf source.val] }

/-- A response of the Management Agent (R151, R160). -/
def responseFrame (tag : BitVec 6) (payload : List Byte) : Frame :=
  { kind := .mgmtRsp, route := true, bit6 := false, tag := tag, payload := payload }

/-! ## Records of the writable tables (R161) -/

/-- The writable tables, in table id order (R154). -/
inductive Table
  | rail
  | step
  | transition
  | wiremap
  | wakesrc
  | policy
  deriving DecidableEq, Repr

/-- Record length of a writable table (R161). -/
def recLen : Table → Nat
  | .rail => 11
  | .step => 6
  | .transition => 3
  | .wiremap => 1
  | .wakesrc => 2
  | .policy => 9

/-- The writable table with an id: 1 RAIL to 6 POLICY (R155). -/
def tableOf (n : Nat) : Option Table :=
  if n = 0 then none else [.rail, .step, .transition, .wiremap, .wakesrc, .policy][n - 1]?

/-- Whether an index byte is in the range of a writable table (R154, R156). -/
def indexOk (t : Table) (i : Nat) : Bool :=
  match t with
  | .rail => decide (i < 16)
  | .step => decide (i < 256)
  | .transition => decide (i < 16) && decide (i % 5 ≠ 0)
  | .wiremap => decide (i < 64)
  | .wakesrc => decide (i < 14)
  | .policy => decide (i < 2)

/-- A value moved into the range from `lo` to `hi`. -/
def clampTo (lo hi n : Nat) : Nat := if n < lo then lo else if hi < n then hi else n

/-- The clamping of the MONITORED fields, in the order of R81. -/
def clampBands (b : Bands) : Bands :=
  let tg := clampTo 5 200 b.tolGood
  { gain := clampTo 256 4096 b.gain, nominal := clampTo 100 19000 b.nominal, tolGood := tg,
    tolFail := clampTo tg 250 b.tolFail, drain := clampTo 10 500 b.drain }

/-- A stored optional field with its present flag in one bit and its value bits apart. -/
def optOf {α : Type} (present : Bool) (value : α) : Opt α := { present := present, value := value }

/-- The sense group of a rail record's bytes, before clamping; none when the sense kind is unknown, the
channel or power-good line is out of range, or a time unit is unknown (R56, R129). -/
def decodeSense (bs : List Byte) : Option Sense :=
  let line := field (byteAt bs 2) 0 4
  let kind := field (byteAt bs 0) 3 2
  if kind = 0 then
    if 11 < line then none
    else
      some (.monitored
        { gain := wordAt bs 3, nominal := wordAt bs 5, tolGood := (byteAt bs 7).toNat,
          tolFail := (byteAt bs 8).toNat, drain := wordAt bs 9 })
  else if kind = 1 then if 7 < line then none else some .pgline
  else if kind = 2 then
    match decodeTime (wordAt bs 3), decodeTime (wordAt bs 5) with
    | some t, some d => some (.timed t d)
    | _, _ => none
  else none

/-- The clamped sense group (R81). -/
def clampSense : Sense → Sense
  | .monitored b => .monitored (clampBands b)
  | .pgline => .pgline
  | .timed t d => .timed t d

/-- A rail record as written, before clamping; none for the RANGE conditions of R56. -/
def decodeRailRaw (slot : Fin 16) (bs : List Byte) : Option RailRec :=
  let parent := optOf ((byteAt bs 1).getLsbD 7) (Fin.ofNat 16 (byteAt bs 1).toNat)
  if parent.present && decide (slot ≤ parent.value) then none
  else
    (decodeSense bs).map fun sense =>
      { present := (byteAt bs 0).getLsbD 0, activeLow := (byteAt bs 0).getLsbD 1,
        critical := (byteAt bs 0).getLsbD 2, parent := parent,
        line := Fin.ofNat 16 (byteAt bs 2).toNat, filter := Fin.ofNat 16 (field (byteAt bs 2) 4 4),
        sense := sense }

/-- The rail record to store, and whether clamping changed a field (R81). -/
def decodeRail (slot : Fin 16) (bs : List Byte) : Option (RailRec × Bool) :=
  (decodeRailRaw slot bs).map fun r =>
    ({ r with sense := clampSense r.sense }, decide (clampSense r.sense ≠ r.sense))

/-- A rail record in its eleven bytes (R161). -/
def encodeRail (r : RailRec) : List Byte :=
  let kind := match r.sense with | .monitored _ => 0 | .pgline => 1 | .timed _ _ => 2
  let group :=
    match r.sense with
    | .monitored b =>
      bytesLE 2 b.gain ++ bytesLE 2 b.nominal ++ [byteOf b.tolGood, byteOf b.tolFail] ++ bytesLE 2 b.drain
    | .pgline => List.replicate 8 0
    | .timed t d => encodeTime t ++ encodeTime d ++ List.replicate 4 0
  byteOf (bitAt r.present 0 + bitAt r.activeLow 1 + bitAt r.critical 2 + 8 * kind) ::
    byteOf (bitAt r.parent.present 7 + r.parent.value.val) ::
    byteOf (r.line.val + 16 * r.filter.val) :: group

/-- Highest operand A of a step kind (R24). -/
def opALimit : StepKind → Nat
  | .railOn | .railOff | .waitGood | .waitOff => 15
  | .lineSet | .waitLine | .pulse => 7
  | .armWake => 3
  | .endList | .delay | .sendWire | .release | .clockUp | .clockDown | .mark => 63

/-- A step record; none for the RANGE conditions of R156. -/
def decodeStep (bs : List Byte) : Option StepRec :=
  match kindOf (field (byteAt bs 0) 0 4), decodeTime (wordAt bs 4) with
  | some k, some t =>
    if opALimit k < (byteAt bs 1).toNat || 1 < (byteAt bs 2).toNat || 3 < (byteAt bs 3).toNat then none
    else
      some { kind := k, opA := Fin.ofNat 64 (byteAt bs 1).toNat, opB := decide ((byteAt bs 2).toNat = 1),
             time := t, action := actionOf (field (byteAt bs 0) 4 2),
             retry := Fin.ofNat 4 (byteAt bs 3).toNat, commit := (byteAt bs 0).getLsbD 6 }
  | _, _ => none

/-- A step record in its six bytes (R161). -/
def encodeStep (r : StepRec) : List Byte :=
  byteOf (kindCode r.kind + 16 * actionCode r.action + bitAt r.commit 6) :: byteOf r.opA.val ::
    byteOf (bitAt r.opB 0) :: byteOf r.retry.val :: encodeTime r.time

/-- A Transition Table entry; every content is in range (R156). -/
def decodeTrans (bs : List Byte) : TransEntry :=
  { present := (byteAt bs 0).getLsbD 0, mainStart := Fin.ofNat 256 (byteAt bs 1).toNat,
    backout := optOf ((byteAt bs 0).getLsbD 1) (Fin.ofNat 256 (byteAt bs 2).toNat) }

/-- A Transition Table entry in its three bytes (R161). -/
def encodeTrans (e : TransEntry) : List Byte :=
  [byteOf (bitAt e.present 0 + bitAt e.backout.present 1), byteOf e.mainStart.val, byteOf e.backout.value.val]

/-- A Wire Map entry; none for an unknown action (R161). -/
def decodeWire (bs : List Byte) : Option WireEntry :=
  (wireActionOf (field (byteAt bs 0) 0 3)).map fun a =>
    { dir := if (byteAt bs 0).getLsbD 3 then .up else .down, action := a, deflt := (byteAt bs 0).getLsbD 4 }

/-- A Wire Map entry in its byte (R161). -/
def encodeWire (e : WireEntry) : List Byte :=
  [byteOf (wireActionCode e.action + bitAt (decide (e.dir = .up)) 3 + bitAt e.deflt 4)]

/-- A Wake Source Table entry; none for an unknown detect mode (R161). -/
def decodeWake (bs : List Byte) : Option WakeSource :=
  (detectOf (field (byteAt bs 1) 0 3)).map fun m =>
    { mask := BitVec.ofNat 4 (byteAt bs 0).toNat, mode := m, width := Fin.ofNat 16 (field (byteAt bs 1) 4 4) }

/-- A Wake Source Table entry in its two bytes (R161). -/
def encodeWake (e : WakeSource) : List Byte :=
  [byteOf e.mask.toNat, byteOf (detectCode e.mode + 16 * e.width.val)]

/-- The override time to store: at most 1920 × T1K (R156). -/
def clampOverride (t : TimeField) : TimeField :=
  if Config.overrideMaxK * 1024 < duration t then { value := Fin.ofNat 4096 Config.overrideMaxK, unit := .t1k }
  else t

/-- Policy record 0 to store and whether a clamp changed a value; none for the field ranges of R156,
the constraints on wires apart. -/
def decodePolicy0 (bs : List Byte) : Option (Policy0 × Bool) :=
  match restoreOf (field (byteAt bs 4) 4 2), decodeTime (wordAt bs 5) with
  | some r, some t =>
    let trip := optOf ((byteAt bs 4).getLsbD 7) (Fin.ofNat 16 (byteAt bs 4).toNat)
    if 63 < (byteAt bs 0).toNat || 63 < (byteAt bs 1).toNat || 63 < (byteAt bs 2).toNat
        || (trip.present && decide (7 < trip.value.val)) then none
    else
      some
        ({ reqSusp := Fin.ofNat 64 (byteAt bs 0).toNat, reqHib := Fin.ofNat 64 (byteAt bs 1).toNat,
           reqOff := Fin.ofNat 64 (byteAt bs 2).toNat,
           offNotice := optOf ((byteAt bs 3).getLsbD 7) (Fin.ofNat 64 (byteAt bs 3).toNat),
           restore := r, trip := trip, overrideFor := clampOverride t,
           pfailWidth := Fin.ofNat 16 (min 15 (byteAt bs 7).toNat), outMask := byteAt bs 8 },
         decide (clampOverride t ≠ t) || decide (15 < (byteAt bs 7).toNat))
  | _, _ => none

/-- Policy record 0 in its nine bytes (R161). -/
def encodePolicy0 (p : Policy0) : List Byte :=
  [byteOf p.reqSusp.val, byteOf p.reqHib.val, byteOf p.reqOff.val,
    byteOf (bitAt p.offNotice.present 7 + p.offNotice.value.val),
    byteOf (bitAt p.trip.present 7 + 16 * restoreCode p.restore + p.trip.value.val)] ++
    encodeTime p.overrideFor ++ [byteOf p.pfailWidth.val, p.outMask]

/-- Policy record 1; every content is in range (R156). -/
def decodePolicy1 (bs : List Byte) : Policy1 :=
  { powerfail := optOf ((byteAt bs 0).getLsbD 0) (Fin.ofNat 256 (byteAt bs 1).toNat),
    override := optOf ((byteAt bs 0).getLsbD 1) (Fin.ofNat 256 (byteAt bs 2).toNat),
    fault := optOf ((byteAt bs 0).getLsbD 2) (Fin.ofNat 256 (byteAt bs 3).toNat) }

/-- Policy record 1 in its nine bytes (R161). -/
def encodePolicy1 (p : Policy1) : List Byte :=
  [byteOf (bitAt p.powerfail.present 0 + bitAt p.override.present 1 + bitAt p.fault.present 2),
    byteOf p.powerfail.value.val, byteOf p.override.value.val, byteOf p.fault.value.val, 0, 0, 0, 0, 0]

/-- Direction DOWN and an action a request wire may have (R5). -/
def requestWireOk (e : WireEntry) : Bool :=
  decide (e.dir = .down) && (decide (e.action = .track) || decide (e.action = .hold) || decide (e.action = .consume))

/-- Action OWN and direction UP, as the off-notice wire must have (R3). -/
def offNoticeOk (e : WireEntry) : Bool := decide (e.action = .own) && decide (e.dir = .up)

/-- The constraints of a Policy record 0 on its wires, against a Wire Map (R3, R5). -/
def policyWiresOk (map : Vector WireEntry 64) (p : Policy0) : Bool :=
  decide (p.reqSusp ≠ p.reqHib) && decide (p.reqSusp ≠ p.reqOff) && decide (p.reqHib ≠ p.reqOff)
    && requestWireOk (peek map p.reqSusp) && requestWireOk (peek map p.reqHib)
    && requestWireOk (peek map p.reqOff)
    && (!p.offNotice.present || offNoticeOk (peek map p.offNotice.value))

/-- Whether a wire is one of the three request wires (R4). -/
def isRequestWire (p : Policy0) (w : Fin 64) : Bool :=
  decide (w = p.reqSusp) || decide (w = p.reqHib) || decide (w = p.reqOff)

/-- The constraints of the Policy on a Wire Map entry written for wire `w` (R5, R117). -/
def wireWriteOk (p : Policy0) (w : Fin 64) (e : WireEntry) : Bool :=
  (!isRequestWire p w || requestWireOk e)
    && (!(p.offNotice.present && decide (w = p.offNotice.value)) || offNoticeOk e)

/-! ## Rail measurement (chapter 4) -/

/-- The code of a conversion of a pin voltage in millivolts (R70). -/
def adcCode (mV : Nat) : BitVec 10 := BitVec.ofNat 10 (min 1023 (mV * 1024 / 1200))

/-- Rail voltage from a code and a gain (R74). -/
def railMv (code : BitVec 10) (gain : Nat) : Nat := (code.toNat * 1200 * gain + 131072) / 262144

/-- The OVER-RANGE code (R70). -/
def overRange (code : BitVec 10) : Bool := decide (code.toNat = 1023)

/-- Half width of the good band (R75). -/
def goodHalf (b : Bands) : Nat := b.nominal * b.tolGood / 1000

/-- Half width of the fail band (R75). -/
def failHalf (b : Bands) : Nat := b.nominal * b.tolFail / 1000

/-- Drain threshold (R75). -/
def drainMv (b : Bands) : Nat := b.nominal * b.drain / 1000

/-- A voltage within `half` of the nominal, both ends included (R75). -/
def inBand (b : Bands) (half mV : Nat) : Bool := decide (b.nominal ≤ mV + half) && decide (mV ≤ b.nominal + half)

/-- The band classes of a sample (R76). -/
inductive BandClass
  | inGood
  | hyst
  | outFail
  deriving DecidableEq, Repr

/-- Band class of a sample (R76). -/
def bandClass (b : Bands) (code : BitVec 10) : BandClass :=
  if overRange code then .outFail
  else if inBand b (goodHalf b) (railMv code b.gain) then .inGood
  else if inBand b (failHalf b) (railMv code b.gain) then .hyst
  else .outFail

/-- The property OVER (R76). -/
def isOver (b : Bands) (code : BitVec 10) : Bool :=
  overRange code || decide (b.nominal + failHalf b < railMv code b.gain)

/-- The property BELOW_DRAIN (R76). -/
def belowDrain (b : Bands) (code : BitVec 10) : Bool :=
  !overRange code && decide (railMv code b.gain < drainMv b)

/-- A filter or filter width as it acts: a stored 0 acts as 1 (R55, R98). -/
def actingFilter (f : Fin 16) : Nat := max 1 f.val

end Sys2Proof.Machine
end

