-- ==== Sys2Proof/Machine/Flags.lean ====
section
/-! DEFINITION. What is derived from the state rather than held in it: the Requested Level, READY, free
transmit slots, which channel runs, elapsed ticks, the electrical level of an enable line, the flags
and the status record. -/

namespace Sys2Proof.Machine

/-! ## Ports -/

/-- The link port of a name. -/
def link (s : State) : Port → Link
  | .hub => s.hub
  | .board => s.board

/-- Receive slots of a port in use: queued frames and a frame in reception that took one (R142, R144). -/
def rxInUse (l : Link) : Nat := l.rx.length + (if l.receiving = some true then 1 else 0)

/-- READY of a port (R144). -/
def ready (s : State) (p : Port) : Bool :=
  decide (rxInUse (link s p) < Config.rxSlots) && decide (s.psc.state ≠ .loading) && !s.lrst

/-- A transmit slot of a port is free: not taken, not kept for a frame being formed (R120), and LRST
is not asserted (R147). -/
def slotFree (s : State) (p : Port) : Bool :=
  decide ((link s p).tx.length + (if s.wire.kept = some p then 1 else 0) < Config.txSlots) && !s.lrst

/-- WAKE notices waiting at a port (R146). -/
def noticesWaiting (l : Link) : Nat :=
  (l.waiting.filter fun f => match f with
    | .notice _ => true
    | .wires _ => false
    | .drain => false
    | .sendWire _ => false).length

/-- The port that transmits a direction: DOWN from the Board Port, UP from the Hub Port. -/
def portOf : Direction → Port
  | .down => .board
  | .up => .hub

/-- The direction of the traffic that arrives on a port: DOWN on the Hub Port, UP on the Board Port. -/
def arrivesOn : Port → Direction
  | .hub => .down
  | .board => .up

/-! ## Platform State Controller -/

/-- The Requested Level: the deepest level whose request wire reads 1, or WORKING (R4). -/
def requestedOf (p : Policy0) (level : Vector Bool 64) : Level :=
  if peek level p.reqOff then .softOff
  else if peek level p.reqHib then .hibernate
  else if peek level p.reqSusp then .suspend
  else .working

/-- The Requested Level of a state (R4). -/
def requested (s : State) : Level := requestedOf s.psc.policy0 s.wire.level

/-- The PSC is in a level state (R1). -/
def inLevelState (s : State) : Bool := (stateLevel s.psc.state).isSome

/-- Transition Table index of a pair of levels: from × 4 + to (R6). -/
def entryIndex (a b : Level) : Fin 16 := Fin.ofNat 16 ((levelCode a).val * 4 + (levelCode b).val)

/-! ## Sequence Engine -/

/-- Ticks from a start to now, across a wrap (R26). -/
def elapsed (s : State) (start : Tick) : Nat := (s.clock.tick - start).toNat

/-- A channel is RUNNING (R42). -/
def channelRuns (s : State) : Bool := s.eng.urg.running || decide (s.eng.norm.st = .running)

/-- Start of the run in progress of the running channel (R42). -/
def runStart (s : State) : Tick := if s.eng.urg.running then s.eng.urg.start else s.eng.norm.start

/-- The running channel waits in a step of kind `k`. -/
def waitsIn (s : State) (k : StepKind) : Bool :=
  decide (s.eng.wait = .step) && decide (s.eng.cur.kind = k) && channelRuns s

/-- The rail slot in a step's operand A (R24). -/
def slotOf (r : StepRec) : Fin 16 := Fin.ofNat 16 r.opA.val

/-- The output or input line in a step's operand A (R24). -/
def lineOf (r : StepRec) : Fin 8 := Fin.ofNat 8 r.opA.val

/-- The kinds of waiting step that have a timer: all but END (R26, R28). -/
def isTimed : StepKind → Bool
  | .waitGood | .waitOff | .delay | .waitLine | .pulse | .sendWire | .release | .clockUp => true
  | .endList | .railOn | .railOff | .lineSet | .clockDown | .armWake | .mark => false

/-- The step in progress has a timer whose count equals its duration at this boundary (R26). -/
def stepTimerDue (s : State) : Bool :=
  decide (s.eng.wait = .step) && channelRuns s && isTimed s.eng.cur.kind
    && decide (elapsed s (runStart s) = duration s.eng.cur.time)

/-! ## Rails -/

/-- The electrical level of an enable line: none while undriven, else by the record's polarity (R57). -/
def enLine (s : State) (slot : Fin 16) : Option Bool :=
  match (peek s.rails.stat slot).en with
  | .undriven => none
  | .asserted => some (!(peek s.rails.table slot).activeLow)
  | .deasserted => some (peek s.rails.table slot).activeLow

/-- The boundaries that carry a scan pass (R71). -/
def passAt (s : State) : Bool := decide (s.clock.mode ≠ .slow) || decide (s.clock.tick.toNat % 32 = 0)

/-- A rail's verdict under which it takes samples (R63, R70). -/
def isSampled (v : Verdict) : Bool :=
  match v with
  | .rising | .good | .draining => true
  | .off | .lost => false

/-! ## Wake Unit -/

/-- The electrical level a detect mode takes as active: high for RISE and HIGH (R99). -/
def activeHigh : Detect → Bool
  | .rise | .high => true
  | .fall | .low => false

/-- Level mode: the source fires at an arming change while ACTIVE (R103). -/
def levelMode : Detect → Bool
  | .high | .low => true
  | .rise | .fall => false

/-- Whether an arm mask includes a level (R98). -/
def inMask (m : BitVec 4) (l : Level) : Bool := m.getLsbD (levelCode l).val

/-- The level at the pin of line source `n`: IN0 to IN7, then PWRBTN. -/
def lineLevel (l : Lines) (n : Fin 9) : Bool := if n.val < 8 then l.ins.getLsbD n.val else l.pwrbtn

/-! ## Status record (R153, R160) -/

/-- The flags of the status record, in the order of R153. -/
def flagWord (s : State) : Nat :=
  bitAt s.psc.latch 0 + bitAt s.psc.gateClosed 1 + bitAt s.wire.hold 2 + bitAt s.eng.stepMode 3
    + bitAt s.eng.norm.haltPending 4 + bitAt s.psc.unsupported 5 + bitAt s.wake.overflow 6
    + bitAt s.wire.overflowFlag 7 + bitAt s.clock.fallback 8 + bitAt s.clock.soLost 9
    + bitAt s.loader.imageBad 10

/-- Code of the halted-from state (R160). -/
def haltedFromCode : Option HaltedFrom → Nat
  | none => 0
  | some .transit => 1
  | some .backout => 2

/-- Code of the Normal channel's state (R160). -/
def normCode : NormState → Nat
  | .idle => 0
  | .running => 1
  | .halted => 2

/-- Code of the urgent kind shown: the kind while the Urgent channel runs, else none (R153). -/
def urgShown (s : State) : Nat :=
  if s.eng.urg.running then (match s.eng.urg.kind with | some k => urgCode k | none => 0) else 0

/-- The slot level bits of the status record; a free value while the slot is absent (assumption 5). -/
def slotBits (s : State) : Nat :=
  match s.psc.slot with
  | some l => (levelCode l).val
  | none => (Config.absentByte s.uses 0).toNat % 4

/-- The 13 bytes of the status record (R160). -/
def statusRecord (s : State) : List Byte :=
  [byteOf (pscCode s.psc.state + 16 * haltedFromCode s.psc.haltedFrom),
    byteOf ((levelCode s.psc.current).val + 4 * (levelCode s.psc.target).val + 16 * slotBits s
      + bitAt s.psc.slot.isSome 6 + bitAt s.psc.commit 7),
    byteOf (normCode s.eng.norm.st + bitAt s.eng.urg.running 2 + 8 * urgShown s
      + 32 * (levelCode s.wake.armed).val + bitAt s.clock.locked 7),
    byteOf s.eng.norm.idx.val, byteOf s.eng.urg.idx.val,
    byteOf (s.wake.queue.length + 16 * modeCode s.clock.mode),
    byteOf s.wire.queue.length] ++ bytesLE 2 (flagWord s) ++ bytesLE 4 s.clock.tick.toNat

end Sys2Proof.Machine
end

