-- ==== Sys2Proof/Machine/Ops.lean ====
section
/-! DEFINITION. The operations several commands share, block by block: ports and their waiting frames,
the drain of the Hold Queue, wake fires and arming, the core clock, rail verdicts, reports, the Fault
Record, urgent starts and ends, request events, back-out and settling. -/

namespace Sys2Proof.Machine

/-! ## Ports -/

/-- The state with one link port replaced. -/
def setLink (s : State) (p : Port) (l : Link) : State :=
  match p with
  | .hub => s.setHub l
  | .board => s.setBoard l

/-- A count on the counters of a port (R149). -/
def countPort (p : Port) (f : PortCounters → PortCounters) (s : State) : State :=
  setLink s p { link s p with counters := f (link s p).counters }

/-- One more MALFORMED (R149). -/
def incMalformed (c : PortCounters) : PortCounters := { c with malformed := satInc Config.max16 c.malformed }
/-- One more OVERRUN (R149). -/
def incOverrun (c : PortCounters) : PortCounters := { c with overrun := satInc Config.max16 c.overrun }
/-- One more CRC_ERR (R149). -/
def incCrcErr (c : PortCounters) : PortCounters := { c with crcErr := satInc Config.max16 c.crcErr }
/-- One more UNKNOWN (R149). -/
def incUnknown (c : PortCounters) : PortCounters := { c with unknown := satInc Config.max16 c.unknown }
/-- One more ROUTE_ERR (R149). -/
def incRouteErr (c : PortCounters) : PortCounters := { c with routeErr := satInc Config.max16 c.routeErr }
/-- One more NOTICE_LOST (R149). -/
def incNoticeLost (c : PortCounters) : PortCounters := { c with noticeLost := satInc Config.max16 c.noticeLost }

/-- A frame takes a slot at the tail of a transmit queue (R145). -/
def queueTx (p : Port) (f : Frame) (s : State) : State :=
  setLink s p { link s p with tx := (link s p).tx ++ [f] }

/-- An internal frame joins the frames of its port that wait for a slot; while LRST is asserted none is
created (R146, R147). -/
def joinWaiting (p : Port) (f : Internal) (s : State) : State :=
  if s.lrst then s else setLink s p { link s p with waiting := (link s p).waiting ++ [f] }

/-- The oldest waiting internal frame of a port leaves the waiting order (R146). -/
def dropWaiting (p : Port) (s : State) : State :=
  setLink s p { link s p with waiting := (link s p).waiting.tail }

/-- Whether a waiting frame is that of a SEND_WIRE step. -/
def isSendWire : Internal → Bool
  | .sendWire _ => true
  | .notice _ => false
  | .wires _ => false
  | .drain => false

/-- The waiting frame of a SEND_WIRE step is withdrawn (R37, R47). -/
def withdrawSendWire (s : State) : State :=
  let s := s.setHub { s.hub with waiting := s.hub.waiting.filter fun f => !isSendWire f }
  s.setBoard { s.board with waiting := s.board.waiting.filter fun f => !isSendWire f }

/-! ## The end of a run, handed to the engine -/

/-- The run in progress, or the drain wait of the Urgent channel, ends (R43). -/
def endRunWith (e : RunEnd) (s : State) : State :=
  s.setEng { s.eng with wait := .none, due := .runEnded e }

/-- The running channel waits in a step of kind `k`, which ends with `e`; otherwise nothing. -/
def handOn (k : StepKind) (e : RunEnd) (s : State) : State :=
  if waitsIn s k then endRunWith e s else s

/-- An empty Hold Queue is handed to a waiting END or RELEASE step, runaway wait or built-in shutdown
(R28, R38, R25, R86, R124). -/
def handOnDrained (s : State) : State :=
  if s.wire.queue ≠ [] then s
  else
    match s.eng.wait with
    | .none => s
    | .step => if waitsIn s .endList || waitsIn s .release then endRunWith .ok s else s
    | .runaway => endRunWith .runawayDrained s
    | .builtin => endRunWith .builtinDrained s

/-! ## Wires, hold and the drain (chapter 7) -/

/-- The Wire State Table takes a level for a wire (R118). -/
def setLevel (w : Fin 64) (b : Bool) (s : State) : State :=
  s.setWire { s.wire with level := poke s.wire.level w b }

/-- Direction of a wire (R117). -/
def wireDir (s : State) (w : Fin 64) : Direction := (peek s.wire.map w).dir

/-- The drain frame is among the waiting frames of a port. -/
def drainWaits (s : State) : Bool :=
  decide (Internal.drain ∈ s.hub.waiting) || decide (Internal.drain ∈ s.board.waiting)

/-- While hold is lifted and the Hold Queue is not empty, one drain frame waits at the port that
transmits the direction of the head entry (R124). -/
def ensureDrain (s : State) : State :=
  match s.wire.queue with
  | [] => s
  | e :: _ =>
    if s.wire.hold || drainWaits s then s else joinWaiting (portOf (wireDir s e.wire)) .drain s

/-- The entries a drain frame carries, formed as it takes its slot: the head entry and those that follow it in its
direction, up to 8 (R124, step 2). An entry that joined the tail while this frame waited goes in it where it is among
them: DESIGN CHOICE (assumption 29), since R124 also says that such an entry is sent with a later drain frame, and
that a new one is created for it. -/
def drainEntries (s : State) : List WireLevel :=
  match s.wire.queue with
  | [] => []
  | e :: _ =>
    (s.wire.queue.takeWhile fun x => decide (wireDir s x.wire = wireDir s e.wire)).take Config.entriesPerFrame

/-- The drain frame takes a slot: its entries leave the queue, a new drain frame is created while
entries remain, and an empty queue ends the drain (R124). -/
def takeDrain (p : Port) (s : State) : State :=
  let es := drainEntries s
  if es = [] then s
  else
    let s := queueTx p (wireFrame 0 es) s
    let s := s.setWire { s.wire with queue := s.wire.queue.drop es.length }
    handOnDrained (ensureDrain s)

/-- The oldest internal frame waiting at a port takes a slot (R146): a SEND_WIRE frame records its
level and ends its step (R37), a drain frame is formed at that moment (R124). -/
def takeOldest (p : Port) (s : State) : State :=
  match (link s p).waiting with
  | [] => s
  | .notice src :: _ => queueTx p (noticeFrame src) (dropWaiting p s)
  | .wires es :: _ => queueTx p (wireFrame 0 es) (dropWaiting p s)
  | .drain :: _ => takeDrain p (dropWaiting p s)
  | .sendWire e :: _ =>
    handOn .sendWire .ok (setLevel e.wire e.level (queueTx p (wireFrame 0 [e]) (dropWaiting p s)))

/-- A drain frame at the port whose slot is kept for a forwarded WIRE frame waits until that frame has taken its
slot: held entries of a wire then leave behind the forwarded ones that arrived before them, and entries of the
frame that arrive after them join the queue (R120). DEDUCED (assumption 13). -/
def drainBehindKept (s : State) (p : Port) : Bool :=
  decide (s.wire.kept = some p) && decide ((link s p).waiting.head? = some .drain)

/-- A port has a free slot and an internal frame waiting for it that may take it (R120, R146). -/
def canTakeOldest (s : State) (p : Port) : Bool :=
  slotFree s p && decide ((link s p).waiting ≠ []) && !drainBehindKept s p

/-- Offers of free slots to waiting internal frames, `n` at most, the Hub Port's first. A drain frame that is
created as another takes its slot is offered a free slot in the same event (DEDUCED, assumption 13): R146
offers one at creation, and the example of section 7.4 gives each drain frame an event of its own. -/
def pumpN : Nat → State → State
  | 0, s => s
  | n + 1, s =>
    if canTakeOldest s .hub then pumpN n (takeOldest .hub s)
    else if canTakeOldest s .board then pumpN n (takeOldest .board s)
    else s

/-- Every free slot is offered to the internal frames waiting (R146); each offer taken fills one of the
sixteen slots of the two queues. -/
def pump (s : State) : State := pumpN (2 * Config.txSlots) s

/-- An internal frame is created: it joins the waiting frames, and free slots are offered (R146). -/
def createInternal (p : Port) (f : Internal) (s : State) : State := pump (joinWaiting p f s)

/-- Hold is lifted, if it is active, and the drain begins (R121, R124). DEDUCED (assumption 13): the drain
frames for which slots are free take them one after another in this event, as sections 12.2 and 12.4 show
of one frame ("at once"); sections 2.8 and 7.4 give each its own event. -/
def liftHold (s : State) : State :=
  if s.wire.hold then pump (ensureDrain (s.setWire { s.wire with hold := false })) else s

/-- The off-notice wire, where Policy names one, is recorded at a level and sent toward the Hub Port
(R19, R20, R125). -/
def sendOffNotice (b : Bool) (s : State) : State :=
  let o := s.psc.policy0.offNotice
  if o.present then createInternal .hub (.wires [{ wire := o.value, level := b }]) (setLevel o.value b s) else s

/-! ## Wake fires and arming (chapter 6) -/

/-- A WAKE notice is created, or counted as NOTICE_LOST when 16 wait (R107, R146). -/
def createNotice (src : Fin 14) (s : State) : State :=
  if s.lrst then s
  else if Config.noticeLimit ≤ noticesWaiting s.hub then countPort .hub incNoticeLost s
  else createInternal .hub (.notice src) s

/-- One more fire of a queued source (R106). -/
def bumpEntry (src : Fin 14) (q : List WakeEntry) : List WakeEntry :=
  q.map fun e => if e.source = src then { e with count := satInc Config.max8 e.count } else e

/-- An armed fire is handled by the Armed Level (R105, R106). -/
def takeFire (src : Fin 14) (s : State) : State :=
  if s.wake.armed = .working then createNotice src s
  else if s.wake.queue.any fun e => decide (e.source = src) then
    s.setWake { s.wake with queue := bumpEntry src s.wake.queue }
  else if s.wake.queue.length < Config.wakeSlots then
    createNotice src
      (s.setWake { s.wake with queue := s.wake.queue ++ [{ source := src, first := s.clock.tick, count := 1 }] })
  else
    s.setWake { s.wake with missed := poke s.wake.missed src (satInc Config.max8 (peek s.wake.missed src)),
                            overflow := true }

/-- A source fires: armed by its mask, or discarded (R104). -/
def fire (src : Fin 14) (s : State) : State :=
  if inMask (peek s.wake.table src).mask s.wake.armed then takeFire src s else s

/-- The wake source of a line source number. -/
def lineSource (n : Fin 9) : Fin 14 := Fin.castLE (by decide) n

/-- The fire of one line source at a move of the Armed Level (R103). -/
def armingFire (old new : Level) (s : State) (n : Fin 9) : State :=
  let w := peek s.wake.table (lineSource n)
  if !inMask w.mask old && inMask w.mask new && levelMode w.mode && (peek s.wake.det n).active then
    takeFire (lineSource n) s
  else s

/-- The Armed Level becomes `new`; sources it arms fire in ascending order (R102, R103). -/
def setArmed (new : Level) (s : State) : State :=
  (List.finRange 9).foldl (armingFire s.wake.armed new) (s.setWake { s.wake with armed := new })

/-! ## Core clock (chapter 8) -/

/-- The frequency loop starts in ACQUIRING, its window abandoned (R131). -/
def startLoop (c : Clock) : Clock := { c with loop := .acquiring, good := 0, window := none }

/-- CLOCK_UP, and the forcing of the fast clock by an urgent start (R84, R134). -/
def forceFast (s : State) : State :=
  if s.clock.mode = .slow then s.setClock { startLoop s.clock with mode := .fastRc } else s

/-- LOCKED clears, if it was set; FAST_LOOP falls back to FAST_RC (R132, R133). -/
def clearLocked (c : Clock) : Clock :=
  if c.locked then
    { c with
      locked := false, lockChanges := satInc Config.max8 c.lockChanges,
      mode := (if c.mode = .fastLoop then .fastRc else c.mode),
      fallback := c.fallback || decide (c.mode = .fastLoop) }
  else c

/-- The core's move to FAST_LOOP is handed to a waiting CLOCK_UP (R39). -/
def handOnFastLoop (s : State) : State :=
  if s.clock.mode = .fastLoop then handOn .clockUp .ok s else s

/-- LOCKED sets, if it was clear; FAST_RC moves to FAST_LOOP (R132, R133). -/
def setLocked (s : State) : State :=
  if s.clock.locked then s
  else
    handOnFastLoop
      (s.setClock
        { s.clock with
          locked := true, lockChanges := satInc Config.max8 s.clock.lockChanges,
          mode := (if s.clock.mode = .fastRc then .fastLoop else s.clock.mode) })

/-- CLOCK_DOWN: the core moves to SLOW, then the loop stops and LOCKED clears (R134). -/
def clockDown (s : State) : State :=
  if s.clock.mode = .slow then s
  else s.setClock (clearLocked { s.clock with mode := .slow, loop := .off, good := 0, window := none })

/-! ## Reports (section 2.7) -/

/-- A change of the in-flight report. -/
def onReport (f : Report → Report) (s : State) : State := s.setEng { s.eng with inflight := f s.eng.inflight }

/-- An in-flight report opens (R53). -/
def openReport (o : Origin) (a b : Level) (s : State) : State :=
  let r := { emptyReport with isOpen := true, origin := o, fromLevel := a, toLevel := b, startTick := s.clock.tick }
  s.setEng { s.eng with inflight := r }

/-- The in-flight report closes and is copied to the last report (R53). -/
def closeReport (o : ReportOutcome) (s : State) : State :=
  let r := { s.eng.inflight with isOpen := false, outcome := some o, endTick := some s.clock.tick }
  s.setEng { s.eng with inflight := r, last := r }

/-! ## Rail verdicts (chapter 3) -/

/-- The status record of a slot replaced. -/
def setStat (slot : Fin 16) (x : RailStat) (s : State) : State :=
  s.setRails { s.rails with stat := poke s.rails.stat slot x }

/-- The rail good time of a slot is written while a report is open (R54). -/
def writeGoodTime (slot : Fin 16) (s : State) : State :=
  if s.eng.inflight.isOpen then
    let ticks := min Config.goodTimeMax (elapsed s s.eng.inflight.startTick)
    onReport (fun r => { r with goodTimes := poke r.goodTimes slot (some ticks) }) s
  else s

/-- A verdict change is handed to the step that waits on the slot (R31, R32, R62). A critical rail's
loss reaches a Normal-channel WAIT_GOOD only through the urgent start that cuts it (R67). -/
def handOnVerdict (slot : Fin 16) (v : Verdict) (s : State) : State :=
  if slotOf s.eng.cur ≠ slot then s
  else
    match v with
    | .good => handOn .waitGood .ok s
    | .lost =>
      if (peek s.rails.table slot).critical && !s.eng.urg.running then s
      else handOn .waitGood (.failed .lost) s
    | .off => handOn .waitOff .ok s
    | .rising => s
    | .draining => s

/-- The timer that belongs to a verdict of a rail: the settle timer under RISING and the drain timer
under DRAINING of a NONE rail (R62, R65, R66). -/
def timerOf (s : State) (slot : Fin 16) (v : Verdict) : Option Tick :=
  match (peek s.rails.table slot).sense, v with
  | .timed _ _, .rising => some s.clock.tick
  | .timed _ _, .draining => some s.clock.tick
  | _, _ => none

/-- A rail's verdict changes (R62): counts zeroed, timers stopped and started, the good time written,
the change handed on. The handling of a loss is `railLost`. -/
def moveVerdict (slot : Fin 16) (v : Verdict) (s : State) : State :=
  let s := setStat slot
    { peek s.rails.stat slot with
      verdict := v, inCount := 0, overCount := 0, outCount := 0, lowCount := 0, timer := timerOf s slot v } s
  let s := if v = .good then writeGoodTime slot s else s
  handOnVerdict slot v s

/-- The enable line of a slot is asserted or deasserted (R57). -/
def setEn (slot : Fin 16) (e : EnLevel) (s : State) : State :=
  setStat slot { peek s.rails.stat slot with en := e } s

/-- Settle and drain time of a rail, where it is a NONE rail. -/
def timedOf (s : State) (slot : Fin 16) : Option (TimeField × TimeField) :=
  match (peek s.rails.table slot).sense with
  | .timed t d => some (t, d)
  | .monitored _ => none
  | .pgline => none

/-- A RAIL_ON that has passed its checks (R61, R65). -/
def railOn (slot : Fin 16) (s : State) : State :=
  match (peek s.rails.stat slot).verdict with
  | .off | .draining =>
    let s := moveVerdict slot .rising (setEn slot .asserted s)
    match timedOf s slot with
    | some (t, _) => if duration t = 0 then moveVerdict slot .good s else s
    | none => s
  | .rising | .good | .lost => s

/-- A RAIL_OFF that has passed its checks, or a deassertion by the built-in shutdown (R61, R66). -/
def railOff (slot : Fin 16) (s : State) : State :=
  match (peek s.rails.stat slot).verdict with
  | .rising | .good | .lost =>
    let s := moveVerdict slot .draining (setEn slot .deasserted s)
    match timedOf s slot with
    | some (_, d) => if duration d = 0 then moveVerdict slot .off s else s
    | none => s
  | .off | .draining => s

/-- The enable line of a slot is asserted (R57). -/
def isAsserted (s : State) (slot : Fin 16) : Bool := decide ((peek s.rails.stat slot).en = .asserted)

/-- A present rail names the slot as its parent and has its enable line asserted (R59). -/
def childAsserted (s : State) (slot : Fin 16) : Bool :=
  (List.finRange 16).any fun c =>
    (peek s.rails.table c).present && (peek s.rails.table c).parent.present
      && decide ((peek s.rails.table c).parent.value = slot) && isAsserted s c

/-- A rail's parent, where it has one, has verdict GOOD (R58). -/
def parentGood (s : State) (slot : Fin 16) : Bool :=
  let p := (peek s.rails.table slot).parent
  !p.present || decide ((peek s.rails.stat p.value).verdict = .good)

/-- The deassertions of the built-in shutdown, slot 15 down to slot 0 (R86). -/
def shutdownRails (s : State) : State :=
  (List.finRange 16).reverse.foldl (fun s slot => if isAsserted s slot then railOff slot s else s) s

/-- An output line is driven to a level (R34). -/
def driveLine (n : Fin 8) (b : Bool) (s : State) : State :=
  s.setPins { s.pins with out := poke s.pins.out n (some b) }

/-! ## Channels: cutting and stopping (R47) -/

/-- The step in progress, if one waits, ends with CUT: a PULSE drives its line to the opposite level and
a SEND_WIRE frame is withdrawn (R47). -/
def cutStep (s : State) : State :=
  let s :=
    if s.eng.wait = .step then
      match s.eng.cur.kind with
      | .pulse => driveLine (lineOf s.eng.cur) (!s.eng.cur.opB) s
      | .sendWire => withdrawSendWire s
      | _ => s
    else s
  s.setEng { s.eng with wait := .none, due := .nothing }

/-- The Normal channel becomes IDLE; its index then reads the last step it ran (R42). -/
def idleNorm (s : State) : State :=
  s.setEng { s.eng with norm := { s.eng.norm with st := .idle, origin := none, idx := s.eng.norm.ran } }

/-- The Normal channel starts or restarts at a list (R9, R11, R42, R44). -/
def startNorm (o : NormOrigin) (idx : Fin 256) (s : State) : State :=
  s.setEng
    { s.eng with
      norm := { s.eng.norm with st := .running, origin := some o, idx := idx, retries := 0, rerunDue := false },
      wait := .none, due := .beginRun false }

/-- An urgent start stops the Normal channel, RUNNING or HALTED, and closes its report STOPPED; a
pending halt is cleared in every case (R47, R83). -/
def stopNorm (s : State) : State :=
  let s :=
    if s.eng.norm.st = .idle then s
    else
      let s := idleNorm (cutStep s)
      closeReport .stopped (s.setEng { s.eng with norm := { s.eng.norm with retries := 0 } })
  s.setEng { s.eng with norm := { s.eng.norm with haltPending := false, rerunDue := false } }

/-! ## Fault Record and urgent starts (chapter 5) -/

/-- A FAULT trigger writes the Fault Record (R91). -/
def writeFault (cause : FaultCause) (subject : Fin 256) (s : State) : State :=
  match s.fault.first with
  | none =>
    let f : FirstFault :=
      { cause := cause, subject := subject, psc := s.psc.state, level := s.psc.current, tick := s.clock.tick }
    s.setFault { s.fault with first := some f }
  | some _ => s.setFault { s.fault with further := satInc Config.max8 s.fault.further }

/-- The list start of an urgent kind in Policy record 1 (R85). -/
def urgentStartOf (p : Policy1) : UrgKind → Opt (Fin 256)
  | .powerfail => p.powerfail
  | .override => p.override
  | .fault => p.fault

/-- The Urgent channel begins the list of a kind, or the built-in shutdown when it is absent
(R83, R85, R86). During the built-in shutdown the channel's step start tick is the tick of the urgent start:
DESIGN CHOICE (assumption 27), since the manual gives the shutdown no step and is silent on that tick. -/
def startUrgentList (k : UrgKind) (s : State) : State :=
  let o := urgentStartOf s.psc.policy1 k
  if o.present then
    s.setEng { s.eng with urg := { s.eng.urg with running := true, kind := some k, idx := o.value },
                          wait := .none, due := .beginRun false }
  else
    let s := shutdownRails
      (s.setEng { s.eng with urg := { s.eng.urg with running := true, kind := some k, idx := 0, start := s.clock.tick },
                             wait := .none, due := .nothing })
    if s.wire.queue = [] then endRunWith .builtinDrained s else s.setEng { s.eng with wait := .builtin }

/-- The PSC's part of an urgent start (R19). -/
def enterUrgent (s : State) : State :=
  let wasClosed := s.psc.gateClosed
  let s := s.setPsc { s.psc with state := .urgent, target := .softOff, commit := false, haltedFrom := none,
                                 gateClosed := true }
  if wasClosed then s else sendOffNotice true s

/-- An urgent start of a kind, steps 2 to 6 of R83; step 1 is made by the trigger. -/
def urgentStart (k : UrgKind) (s : State) : State :=
  let s := forceFast (liftHold (enterUrgent (stopNorm s)))
  startUrgentList k (openReport (.urgent k) s.psc.current .softOff s)

/-- A running urgent list is preempted by a higher kind, steps 2 to 6 of R87. -/
def preempt (k : UrgKind) (s : State) : State :=
  let s := closeReport .stopped (cutStep s)
  startUrgentList k (forceFast (openReport (.urgent k) s.psc.current .softOff s))

/-- A FAULT trigger (R83, R87, R91). -/
def triggerFault (cause : FaultCause) (subject : Fin 256) (s : State) : State :=
  let s' := writeFault cause subject s
  if s.eng.urg.running then s' else urgentStart .fault (s'.setPsc { s'.psc with latch := true })

/-- An OVERRIDE trigger (R83, R87). -/
def triggerOverride (s : State) : State :=
  if !s.eng.urg.running then urgentStart .override s
  else if s.eng.urg.kind = some .fault then preempt .override s
  else s

/-- The restore-on mark as a POWERFAIL trigger writes it (R21). -/
def restoreMark (st : PscState) : Bool :=
  match st with
  | .suspend | .hibernate | .softOff => false
  | .loading | .working | .transit | .backout | .urgent | .halted => true

/-- A POWERFAIL trigger (R21, R83, R87, R96). -/
def triggerPowerfail (s : State) : State :=
  if s.eng.urg.running && decide (s.eng.urg.kind = some .powerfail) then
    s.setPsc { s.psc with pendingRestore := false }
  else
    let marked := s.setPsc { s.psc with restoreOn := restoreMark s.psc.state }
    if s.eng.urg.running then preempt .powerfail marked else urgentStart .powerfail marked

/-- A rail becomes LOST: its lost count rises, the change is handed on, and a critical rail raises a
FAULT trigger with cause RAIL (R67, R68). -/
def railLost (slot : Fin 16) (s : State) : State :=
  let st := peek s.rails.stat slot
  let s := moveVerdict slot .lost (setStat slot { st with lost := satInc Config.max8 st.lost } s)
  if (peek s.rails.table slot).critical then triggerFault .rail (Fin.castLE (by decide) slot) s else s

/-! ## Request events (chapter 1) -/

/-- The request gate opens (R20). -/
def openGate (s : State) : State := sendOffNotice false (s.setPsc { s.psc with gateClosed := false })

/-- A request is refused with a report that opens and closes at once (R8). -/
def refuse (l q : Level) (o : ReportOutcome) (s : State) : State :=
  closeReport o (openReport (.entry (entryIndex l q)) l q s)

/-- A transition starts (R9). -/
def startTransition (l q : Level) (s : State) : State :=
  let i := entryIndex l q
  let s := s.setPsc { s.psc with state := .transit, target := q, commit := false }
  let s := s.setWire { s.wire with hold := true }
  startNorm { entry := i, backout := false } (peek s.psc.trans i).mainStart (openReport (.entry i) l q s)

/-- The Transition Table entry of the transition in progress (R10, R45). -/
def currentEntry (s : State) : TransEntry := peek s.psc.trans (entryIndex s.psc.current s.psc.target)

/-- Back-out begins (R11). -/
def backOut (s : State) : State :=
  let i := entryIndex s.psc.current s.psc.target
  let s := cutStep s
  let s := s.setPsc { s.psc with state := .backout, target := s.psc.current, slot := none }
  startNorm { entry := i, backout := true } (peek s.psc.trans i).backout.value s

/-- A request event in a level state (R7, R8). -/
def requestInLevel (l q : Level) (s : State) : State :=
  if s.psc.gateClosed then
    if q = .softOff then openGate s else s.setPsc { s.psc with slot := none }
  else if q = l then s
  else if q = .working ∧ s.psc.latch = true then refuse l q .latched s
  else if (peek s.psc.trans (entryIndex l q)).present then startTransition l q s
  else
    let s := refuse l q .unsupported s
    s.setPsc { s.psc with unsupported := true }

/-- A request event in TRANSIT (R10). -/
def requestInTransit (q : Level) (s : State) : State :=
  if q = s.psc.target then s.setPsc { s.psc with slot := none }
  else if q = s.psc.current ∧ s.psc.commit = false ∧ (currentEntry s).backout.present = true then backOut s
  else s.setPsc { s.psc with slot := some q }

/-- A request event with value `q`, by PSC state (section 1.13). -/
def requestEvent (q : Level) (s : State) : State :=
  match s.psc.state with
  | .loading => s
  | .working => requestInLevel .working q s
  | .suspend => requestInLevel .suspend q s
  | .hibernate => requestInLevel .hibernate q s
  | .softOff => requestInLevel .softOff q s
  | .transit => requestInTransit q s
  | .backout => s.setPsc { s.psc with slot := some q }
  | .urgent => s.setPsc { s.psc with slot := some q }
  | .halted => s.setPsc { s.psc with slot := some q }

/-- The Requested Level is computed again after a change; one request event is taken if it differs from
the value `old` before the change (R4). -/
def requestIfChanged (old : Level) (s : State) : State :=
  if requested s = old then s else requestEvent (requested s) s

/-- The fault latch is cleared, if it was set, and a latched request for WORKING may be taken again
(R18). -/
def clearLatch (s : State) : State :=
  if s.psc.latch then
    let s := s.setPsc { s.psc with latch := false }
    if inLevelState s && decide (s.psc.state ≠ .working) && !s.psc.gateClosed && decide (requested s = .working)
    then requestEvent .working s
    else s
  else s

/-! ## Settling and the urgent end -/

/-- The next-request slot is served at a settle in a level (R16). -/
def serveSlot (x : Level) (s : State) : State :=
  let slot := s.psc.slot
  let s := s.setPsc { s.psc with slot := none }
  match slot with
  | none => s
  | some q => if s.psc.gateClosed = false ∧ q ≠ x then requestEvent q s else s

/-- The queued wakes are copied into the report's wake list and the queue is emptied, in WORKING
(R15, R108). -/
def reportWakes (x : Level) (s : State) : State :=
  if x = .working then
    let s := onReport (fun r => { r with wakeList := s.wake.queue.map WakeEntry.source }) s
    s.setWake { s.wake with queue := [] }
  else s

/-- Steps 2 to 7 of a settle in a level, once the channel is IDLE (R15). -/
def settle (x : Level) (o : ReportOutcome) (s : State) : State :=
  let s := s.setPsc { s.psc with current := x, target := x, commit := false, haltedFrom := none }
  let s := closeReport o (reportWakes x (setArmed x s))
  serveSlot x (s.setPsc { s.psc with state := levelState x })

/-- A main or back-out list settles in the target level; a pending halt is cleared (R15, R49). -/
def settleNorm (s : State) : State :=
  let o : ReportOutcome := if s.psc.state = .backout then .backedOut else .completed
  let s := idleNorm s
  settle s.psc.target o (s.setEng { s.eng with norm := { s.eng.norm with haltPending := false } })

/-- The restore action (R22). -/
def restoreAction (s : State) : State :=
  let fires : Bool :=
    match s.psc.policy0.restore with
    | .stayOff => false
    | .powerOn => true
    | .lastState => s.psc.restoreOn
  let s := if fires then takeFire 13 s else s
  s.setPsc { s.psc with pendingRestore := false, restoreOn := false }

/-- The urgent end (R89): the settle in SOFT_OFF, the gate test and a pending restore action. -/
def urgentEnd (o : ReportOutcome) (s : State) : State :=
  let s := s.setEng { s.eng with urg := { s.eng.urg with running := false, kind := none, idx := s.eng.urg.ran } }
  let s := settle .softOff o s
  let s := if s.psc.gateClosed ∧ requested s = .softOff then openGate s else s
  if s.psc.pendingRestore then restoreAction s else s

end Sys2Proof.Machine
end

