-- ==== Sys2Proof/Machine/Engine.lean ====
section
/-! DEFINITION. The Sequence Engine's course through a list (chapter 2): what each step kind does when
its run begins, what follows the end of a run in either channel, and the chain of runs that one event
carries out. -/

namespace Sys2Proof.Machine

/-- The run that has begun succeeds. -/
def succeed (s : State) : State := endRunWith .ok s

/-- The run that has begun fails (R43). -/
def failWith (k : FailKind) (s : State) : State := endRunWith (.failed k) s

/-- The run that has begun waits. -/
def awaitStep (s : State) : State := s.setEng { s.eng with wait := .step }

/-- The run waits, or fails with TIMEOUT at once when its duration is 0 (R26). -/
def awaitOrTimeout (r : StepRec) (s : State) : State :=
  if duration r.time = 0 then failWith .timeout s else awaitStep s

/-! ## The step kinds as their runs begin (section 2.4) -/

/-- END begins (R28). -/
def beginEnd (s : State) : State :=
  let s := liftHold s
  if s.wire.queue = [] then succeed s else awaitStep s

/-- RAIL_ON (R29). -/
def beginRailOn (r : StepRec) (s : State) : State :=
  if !(peek s.rails.table (slotOf r)).present then failWith .absent s
  else if !parentGood s (slotOf r) then failWith .dependency s
  else succeed (railOn (slotOf r) s)

/-- RAIL_OFF (R30). -/
def beginRailOff (r : StepRec) (s : State) : State :=
  if !(peek s.rails.table (slotOf r)).present then failWith .absent s
  else if childAsserted s (slotOf r) then failWith .dependency s
  else succeed (railOff (slotOf r) s)

/-- WAIT_GOOD begins (R31). -/
def beginWaitGood (r : StepRec) (s : State) : State :=
  if !(peek s.rails.table (slotOf r)).present then failWith .absent s
  else
    match (peek s.rails.stat (slotOf r)).verdict with
    | .good => succeed s
    | .lost => failWith .lost s
    | .off | .rising | .draining => awaitOrTimeout r s

/-- WAIT_OFF begins (R32). -/
def beginWaitOff (r : StepRec) (s : State) : State :=
  if !(peek s.rails.table (slotOf r)).present then failWith .absent s
  else if (peek s.rails.stat (slotOf r)).verdict = .off then succeed s
  else awaitOrTimeout r s

/-- DELAY begins (R33). -/
def beginDelay (r : StepRec) (s : State) : State := if duration r.time = 0 then succeed s else awaitStep s

/-- LINE_SET (R34). -/
def beginLineSet (r : StepRec) (s : State) : State := succeed (driveLine (lineOf r) r.opB s)

/-- The most recent tick sample of an input line equals a level (R36). -/
def lineSampled (s : State) (n : Fin 8) (b : Bool) : Bool :=
  decide (peek s.wake.sample (Fin.castLE (by decide) n) = b)

/-- WAIT_LINE begins (R36). -/
def beginWaitLine (r : StepRec) (s : State) : State :=
  if lineSampled s (lineOf r) r.opB then succeed s else awaitOrTimeout r s

/-- PULSE begins (R35). -/
def beginPulse (r : StepRec) (s : State) : State :=
  let s := driveLine (lineOf r) r.opB s
  if duration r.time = 0 then succeed (driveLine (lineOf r) (!r.opB) s) else awaitStep s

/-- SEND_WIRE begins (R37). -/
def beginSendWire (r : StepRec) (s : State) : State :=
  if (peek s.wire.map r.opA).action ≠ .own then failWith .notOwn s
  else
    let s := createInternal (portOf (wireDir s r.opA)) (.sendWire { wire := r.opA, level := r.opB }) (awaitStep s)
    if s.eng.wait = .step ∧ duration r.time = 0 then failWith .timeout (withdrawSendWire s) else s

/-- RELEASE begins (R38): the queue is judged as it stands when the step begins, before the drain that the
lifting of hold sets going; a duration of 0 then fails at once, with hold lifted. -/
def beginRelease (r : StepRec) (s : State) : State :=
  if s.wire.queue = [] then succeed (liftHold s)
  else if duration r.time = 0 then failWith .timeout (liftHold s)
  else if (liftHold s).wire.queue = [] then succeed (liftHold s)
  else awaitStep (liftHold s)

/-- CLOCK_UP begins (R39). -/
def beginClockUp (r : StepRec) (s : State) : State :=
  if s.clock.mode = .fastLoop then succeed s else awaitOrTimeout r (forceFast s)

/-- CLOCK_DOWN (R39, R134). -/
def beginClockDown (s : State) : State := succeed (clockDown s)

/-- ARM_WAKE (R40). -/
def beginArmWake (r : StepRec) (s : State) : State := succeed (setArmed (levelOf (Fin.ofNat 4 r.opA.val)) s)

/-- MARK (R41). -/
def beginMark (r : StepRec) (s : State) : State := succeed (onReport (fun x => { x with lastMark := some r.opA }) s)

/-- A run of a step record begins, by kind. -/
def runKind (r : StepRec) (s : State) : State :=
  match r.kind with
  | .endList => beginEnd s
  | .railOn => beginRailOn r s
  | .railOff => beginRailOff r s
  | .waitGood => beginWaitGood r s
  | .waitOff => beginWaitOff r s
  | .delay => beginDelay r s
  | .lineSet => beginLineSet r s
  | .waitLine => beginWaitLine r s
  | .pulse => beginPulse r s
  | .sendWire => beginSendWire r s
  | .release => beginRelease r s
  | .clockUp => beginClockUp r s
  | .clockDown => beginClockDown s
  | .armWake => beginArmWake r s
  | .mark => beginMark r s

/-- The index of the run the running channel is about to begin. -/
def runIndex (s : State) : Fin 256 := if s.eng.urg.running then s.eng.urg.idx else s.eng.norm.idx

/-- The context of the running channel as a run begins: the record is read, the start tick set, the run
counted, and retries used set to 0 unless the run is a rerun (R23, R26, R44, R52). -/
def enterRun (rerun : Bool) (s : State) : State :=
  let r := peek s.eng.steps (runIndex s)
  let s := onReport (fun x => { x with steps := satInc Config.max16 x.steps }) s
  let e := { s.eng with cur := r, wait := .none, due := .nothing }
  if s.eng.urg.running then
    s.setEng { e with urg := { e.urg with ran := e.urg.idx, start := s.clock.tick } }
  else
    s.setEng
      { e with norm := { e.norm with ran := e.norm.idx, start := s.clock.tick, rerunDue := false,
                                     retries := if rerun then e.norm.retries else 0 } }

/-- A run of the running channel begins. -/
def beginRun (rerun : Bool) (s : State) : State :=
  let s := enterRun rerun s
  runKind s.eng.cur s

/-! ## What follows the end of a run in the Normal channel -/

/-- The Normal channel halts at a halt point (R17, R48). -/
def haltAt (rerun : Bool) (s : State) : State :=
  let h : HaltedFrom := if s.psc.state = .backout then .backout else .transit
  let s := s.setEng { s.eng with norm := { s.eng.norm with st := .halted, haltPending := false, rerunDue := rerun },
                                 due := .nothing }
  s.setPsc { s.psc with state := .halted, haltedFrom := some h }

/-- A halt point: the channel halts, or begins the next run at once (R48). -/
def haltPoint (rerun : Bool) (s : State) : State :=
  if s.eng.norm.haltPending || s.eng.stepMode then haltAt rerun s
  else s.setEng { s.eng with due := .beginRun rerun }

/-- The transition is committed (R14). -/
def commitNow (s : State) : State :=
  onReport (fun r => { r with committed := true }) (s.setPsc { s.psc with commit := true })

/-- The step that has ended commits the transition: its commit flag is set and it is a step of a main
list (R14). -/
def commitsHere (s : State) : Bool := s.eng.cur.commit && decide (s.psc.state = .transit)

/-- The Normal channel has run past step 255 (R25). -/
def runawayNorm (s : State) : State :=
  let s := if commitsHere s && Config.commitsAtRunaway s.uses then commitNow s else s
  let s := s.setUses (s.uses + 1)
  triggerFault .runaway 255 (closeReport .runaway (idleNorm s))

/-- A step's end leads the Normal channel on (R14, R25, R48). -/
def leadOn (s : State) : State :=
  if h : s.eng.norm.idx.val = 255 then runawayNorm s
  else
    let s' := if commitsHere s then commitNow s else s
    haltPoint false
      (s'.setEng { s'.eng with norm := { s'.eng.norm with idx := ⟨s.eng.norm.idx.val + 1, by omega⟩ } })

/-- A failure handled as FAULT (R45). -/
def faultEnd (s : State) : State :=
  let i := s.eng.norm.idx
  triggerFault .step i (closeReport .failedToFault (idleNorm s))

/-- A failure that leads to back-out where its three conditions hold, else to FAULT (R45). -/
def backOutOrFault (s : State) : State :=
  if s.psc.state = .transit ∧ s.psc.commit = false ∧ (currentEntry s).backout.present = true then backOut s
  else faultEnd s

/-- The first failure of the in-flight report is written, if none is recorded (R43). -/
def recordFailure (i : Fin 256) (k : FailKind) (r : Report) : Report :=
  { r with firstFailure := if r.firstFailure.isSome then r.firstFailure else some { step := i, kind := k } }

/-- One more warning (R43, R46). -/
def warn (r : Report) : Report := { r with warnings := satInc Config.max8 r.warnings }

/-- A failed step is run again under RETRY, or its failure is handled as BACKOUT (R44). -/
def retryOrBackOut (s : State) : State :=
  if s.eng.norm.retries.val < max 1 s.eng.cur.retry.val then
    haltPoint true (s.setEng { s.eng with norm := { s.eng.norm with retries := s.eng.norm.retries + 1 } })
  else backOutOrFault s

/-- A step run has failed in the Normal channel (R43). -/
def failNorm (k : FailKind) (s : State) : State :=
  let s := onReport (recordFailure s.eng.norm.idx k) s
  match s.eng.cur.action with
  | .goOn => leadOn (onReport warn s)
  | .retry => retryOrBackOut s
  | .backout => backOutOrFault s
  | .fault => faultEnd s

/-- A run has ended in the Normal channel. -/
def endNorm (e : RunEnd) (s : State) : State :=
  match e with
  | .ok => if s.eng.cur.kind = .endList then settleNorm s else leadOn s
  | .failed k => failNorm k s
  | .runawayDrained => s
  | .builtinDrained => s

/-! ## What follows the end of a run in the Urgent channel (R46) -/

/-- The Urgent channel has run past step 255: it waits for the drain (R25). No step is in progress during this
wait, and the manual gives neither its step index nor its step start tick: that they stay at 255 and at the
start of the run of step 255 is a DESIGN CHOICE (assumption 28). -/
def runawayUrg (s : State) : State :=
  let s := liftHold s
  if s.wire.queue = [] then urgentEnd .runaway s else s.setEng { s.eng with wait := .runaway }

/-- A step's end leads the Urgent channel on (R25, R46). -/
def leadOnUrg (s : State) : State :=
  if h : s.eng.urg.idx.val = 255 then runawayUrg s
  else
    s.setEng { s.eng with urg := { s.eng.urg with idx := ⟨s.eng.urg.idx.val + 1, by omega⟩ }, due := .beginRun false }

/-- A step run has failed in the Urgent channel (R46). -/
def failUrg (k : FailKind) (s : State) : State :=
  let s := onReport (fun r => warn (recordFailure s.eng.urg.idx k r)) s
  leadOnUrg (s.setFault { s.fault with urgentFails := satInc Config.max8 s.fault.urgentFails })

/-- A run, or a drain wait, has ended in the Urgent channel. -/
def endUrg (e : RunEnd) (s : State) : State :=
  match e with
  | .ok => if s.eng.cur.kind = .endList then urgentEnd .completed s else leadOnUrg s
  | .failed k => failUrg k s
  | .runawayDrained => urgentEnd .runaway s
  | .builtinDrained => urgentEnd .completed s

/-! ## The chain of one event (R25) -/

/-- What follows the end of a run in the running channel. -/
def endRun (e : RunEnd) (s : State) : State :=
  let s := s.setEng { s.eng with due := .nothing }
  if s.eng.urg.running then endUrg e s else endNorm e s

/-- One link of the chain: the run that is due begins, or what follows an ended run is done. With no
channel RUNNING nothing is due. -/
def chainStep (s : State) : State :=
  match s.eng.due with
  | .nothing => s
  | .beginRun rerun => if channelRuns s then beginRun rerun s else s.setEng { s.eng with due := .nothing }
  | .runEnded e => if channelRuns s then endRun e s else s.setEng { s.eng with due := .nothing }

/-- The chain, `n` links at most. -/
def chainN : Nat → State → State
  | 0, s => s
  | n + 1, s => if s.eng.due = .nothing then s else chainN n (chainStep s)

/-- The chain of steps of one event, up to the first step that waits, a halt, or the end of the list
(R25). -/
def runChain (s : State) : State := chainN Config.chainFuel s

/-- The outcome of a command: the chain it set going runs whole within its event. -/
def finish (s : State) : Host.Outcome State Fault Refusal := .next (runChain s)

/-- A command has an effect only while standby power stands (R135). -/
def whilePowered (s : State) (f : State → State) : Host.Outcome State Fault Refusal :=
  if s.powered then finish (f s) else .next s

end Sys2Proof.Machine
end

