-- ==== Sys2Proof/Machine/RailEvents.lean ====
section
/-! DEFINITION. The meanings of the rail commands (chapters 3 and 4): the scan pass with the counting of
its samples, and the settle and drain timers of NONE rails. -/

namespace Sys2Proof.Machine

/-! ## Counting a sample (R64, R77, R78, R79) -/

/-- A count that goes on or starts again. -/
def countOn (go : Bool) (n : Nat) : Nat := if go then n + 1 else 0

/-- The verdict a rising rail's counts lead to, if any. -/
def risen (f : Nat) (st : RailStat) : Option Verdict :=
  if f ≤ st.inCount then some .good else if f ≤ st.overCount then some .lost else none

/-- A sample of a MONITORED rail counted under its verdict, and the verdict it leads to (R77, R78, R79). -/
def countMonitored (f : Nat) (b : Bands) (code : BitVec 10) (st : RailStat) : RailStat × Option Verdict :=
  match st.verdict with
  | .rising =>
    let st := { st with inCount := countOn (decide (bandClass b code = .inGood)) st.inCount,
                        overCount := countOn (isOver b code) st.overCount }
    (st, risen f st)
  | .good =>
    let st := { st with outCount := countOn (decide (bandClass b code = .outFail)) st.outCount }
    (st, if f ≤ st.outCount then some .lost else none)
  | .draining =>
    let st := { st with lowCount := countOn (belowDrain b code) st.lowCount }
    (st, if f ≤ st.lowCount then some .off else none)
  | .off => (st, none)
  | .lost => (st, none)

/-- A power-good sample of a PGLINE rail counted under its verdict, and the verdict it leads to (R64). -/
def countPg (f : Nat) (high : Bool) (st : RailStat) : RailStat × Option Verdict :=
  match st.verdict with
  | .rising =>
    let st := { st with inCount := countOn high st.inCount }
    (st, if f ≤ st.inCount then some .good else none)
  | .good =>
    let st := { st with outCount := countOn (!high) st.outCount }
    (st, if f ≤ st.outCount then some .lost else none)
  | .draining =>
    let st := { st with lowCount := countOn (!high) st.lowCount }
    (st, if f ≤ st.lowCount then some .off else none)
  | .off => (st, none)
  | .lost => (st, none)

/-- The counts of a sample are stored, and the verdict they lead to is entered (R62, R80). -/
def applyCount (slot : Fin 16) (c : RailStat × Option Verdict) (s : State) : State :=
  let s := setStat slot c.1 s
  match c.2 with
  | none => s
  | some .lost => railLost slot s
  | some .good => moveVerdict slot .good s
  | some .off => moveVerdict slot .off s
  | some .rising => s
  | some .draining => s

/-- Sense channel of a MONITORED record (R55). -/
def channelOf (r : RailRec) : Fin 12 := Fin.ofNat 12 r.line.val

/-- The conversion of a rail's channel at this pass (R70). -/
def codeAt (s : State) (r : RailRec) : BitVec 10 := adcCode (peek s.pins.now.sc (channelOf r))

/-- A rail of a scan pass takes its sample (R70, R71, R80). -/
def sampleRail (slot : Fin 16) (s : State) : State :=
  let r := peek s.rails.table slot
  let st := peek s.rails.stat slot
  if !r.present || !isSampled st.verdict then s
  else
    match r.sense with
    | .monitored b =>
      let code := codeAt s r
      let s := s.setRails { s.rails with lastCode := poke s.rails.lastCode (channelOf r) code }
      applyCount slot (countMonitored (actingFilter r.filter) b code { st with mV := railMv code b.gain }) s
    | .pgline =>
      applyCount slot (countPg (actingFilter r.filter) (s.pins.now.pg.getLsbD (r.line.val % 8)) st) s
    | .timed _ _ => s

/-- The scan-pass event of one rail, unless it was taken at this boundary before: the rail is sampled under the
verdict it has now, and one that is OFF or LOST now takes no sample at this boundary (R63, R70, R71, R73). -/
def takeRail (slot : Fin 16) (s : State) : State :=
  if peek s.boundary.rail slot then
    sampleRail slot (s.setBoundary { s.boundary with rail := poke s.boundary.rail slot false })
  else s

/-- This boundary carries a scan pass, by the mode in force when the pass is decided (R71, R72). -/
def passDue (s : State) : Bool := s.boundary.passBegun || passAt s

/-- The rail has a sense input (R55). -/
def isSensed : Sense → Bool
  | .monitored _ => true
  | .pgline => true
  | .timed _ _ => false

/-- The rail is scanned: its record is present with a sense input, and its verdict is RISING, GOOD or DRAINING
(R63, R70). -/
def isScanned (s : State) (slot : Fin 16) : Bool :=
  let r := peek s.rails.table slot
  r.present && isSensed r.sense && isSampled (peek s.rails.stat slot).verdict

/-- The scan pass of this boundary begins, unless it has begun: the rails scanned at that moment are the ones it
samples in every order of the events (R71). The event of another rail stays open: a step or a shutdown that makes
it RISING or DRAINING may be taken before it or after it (R63, R73, R86). DEDUCED (assumption 14). -/
def beginPass (s : State) : State :=
  if s.boundary.passBegun then s
  else s.setBoundary { s.boundary with passBegun := true, scanned := Vector.ofFn fun n => isScanned s n }

/-- The scan-pass events of some rails, in the order given, each with the chain its verdict change sets going
(R71, R80). -/
def takeRails (slots : List (Fin 16)) (s : State) : State :=
  slots.foldl (fun s slot => runChain (takeRail slot s)) s

/-- SCAN_PASS (R80): the scan-pass events of the rails in the operand. Other events of the boundary may come
between two rails of a pass (R73, R86); a rail that a row leaves out is taken by a later one, or by `finishPass`
where it was scanned when the pass began. -/
def execScanPass (slots : List (Fin 16)) (s : State) : Host.Outcome State Fault Refusal :=
  whilePowered s fun s => if passDue s then takeRails slots (beginPass s) else s

/-- The rails that were scanned where the pass of this boundary began (R71). -/
def scannedSlots (s : State) : List (Fin 16) := (List.finRange 16).filter fun n => peek s.boundary.scanned n

/-- A pass that has begun samples every rail scanned where it began (R71): those not yet taken when the next tick
boundary comes are the last events of the boundary they belong to. A rail that was OFF or LOST then and that no row
named takes no sample (R73). DEDUCED (assumption 14). -/
def finishPass (s : State) : State := if s.boundary.passBegun then takeRails (scannedSlots s) s else s

/-! ## NONE rails (R65, R66) -/

/-- The timer of a NONE rail under a verdict expires at this boundary. -/
def railTimerDue (v : Verdict) (pick : TimeField → TimeField → TimeField) (slot : Fin 16) (s : State) : Bool :=
  let st := peek s.rails.stat slot
  match (peek s.rails.table slot).sense, st.timer with
  | .timed t d, some start => decide (st.verdict = v) && decide (elapsed s start = duration (pick t d))
  | _, _ => false

/-- The settle timer of a rail expires at this boundary (R65). -/
def settleDue (slot : Fin 16) (s : State) : Bool := railTimerDue .rising (fun t _ => t) slot s

/-- The drain timer of a rail expires at this boundary (R66). -/
def drainDue (slot : Fin 16) (s : State) : Bool := railTimerDue .draining (fun _ d => d) slot s

/-- SETTLE_TIMER_EXPIRY (R65). -/
def execSettleTimerExpiry (slot : Fin 16) (s : State) : Host.Outcome State Fault Refusal :=
  whilePowered s fun s => if settleDue slot s then moveVerdict slot .good s else s

/-- DRAIN_TIMER_EXPIRY (R66). -/
def execDrainTimerExpiry (slot : Fin 16) (s : State) : Host.Outcome State Fault Refusal :=
  whilePowered s fun s => if drainDue slot s then moveVerdict slot .off s else s

end Sys2Proof.Machine
end

