-- ==== Sys2Proof/Machine/ClockUnit.lean ====
section
/-! DEFINITION. The meanings of the clock commands (chapter 8): the tick boundary, the loss and the
return of the standby oscillator, and the end of a measuring window of the frequency loop. -/

namespace Sys2Proof.Machine

/-! ## The tick boundary -/

/-- The levels of the nine sampled lines, IN0 to IN7 and PWRBTN. -/
def lineLevels (l : Lines) : Vector Bool 9 := Vector.ofFn fun n => lineLevel l n

/-- A boundary at which every sample is still to be taken (R71, R95, R100). -/
def freshBoundary : Boundary :=
  { det := Vector.replicate 9 true, pfail := true, rail := Vector.replicate 16 true, passBegun := false,
    scanned := Vector.replicate 16 false }

/-- The Clock Unit at a tick boundary: the counter rises by 1, and a window starts if the loop runs
under the standby oscillator without one (R129, R131). -/
def tickClock (c : Clock) : Clock :=
  { c with
    tick := c.tick + 1,
    window := if c.loop ≠ .off ∧ c.source = .so ∧ c.window = none then some (c.tick + 1) else c.window }

/-- A tick boundary with the given input levels (R129). The samples of the boundary before it have all
been taken or passed over by now; those of this one become due, except during the image load (R100, R135). -/
def newBoundary (lines : Lines) (s : State) : State :=
  let old := lineLevels s.pins.now
  let s := (s.setClock (tickClock s.clock)).setPins { s.pins with now := lines }
  if s.psc.state = .loading then s else (s.setWake { s.wake with sample := old }).setBoundary freshBoundary

/-- TICK_BOUNDARY (R129), once the pass of the boundary before it is complete (R71). -/
def execTickBoundary (lines : Lines) (s : State) : Host.Outcome State Fault Refusal :=
  whilePowered s fun s => newBoundary lines (finishPass s)

/-! ## The standby oscillator (R130) -/

/-- The Clock Unit at a loss of the standby oscillator: ticks come from RC, SO_LOST is set, detection
is disarmed, and a running loop goes to ACQUIRING with LOCKED clear (R130, R132). -/
def loseSo (c : Clock) : Clock :=
  let c := { c with source := .rc, soLost := true, lossArmed := false, window := none }
  if c.loop = .off then c else clearLocked { c with loop := .acquiring, good := 0 }

/-- SO_LOSS (R130). The moment of the loss is a tick boundary. -/
def execSoLoss (rcPeriods : Nat) (lines : Lines) (s : State) : Host.Outcome State Fault Refusal :=
  whilePowered s fun s =>
    if s.clock.source = .so ∧ s.clock.lossArmed = true ∧ Config.soLossPeriods ≤ rcPeriods then
      let s := finishPass s
      newBoundary lines (s.setClock (loseSo s.clock))
    else s

/-- A qualifying standby oscillator period (R130). -/
def qualifies (rcPeriods : Nat) : Bool :=
  decide (Config.soPeriodMin ≤ rcPeriods) && decide (rcPeriods ≤ Config.soPeriodMax)

/-- The standby oscillator drives the ticks, and loss detection is armed (R130). -/
def gainSo (c : Clock) : Clock := { c with source := .so, lossArmed := true }

/-- SO_RETURN (R130). The edge that ends the fourth period is a tick boundary; a window starts only at
the boundary after it. -/
def execSoReturn (p1 p2 p3 p4 : Nat) (lines : Lines) (s : State) : Host.Outcome State Fault Refusal :=
  whilePowered s fun s =>
    if s.clock.source = .rc ∧ (qualifies p1 && qualifies p2 && qualifies p3 && qualifies p4) = true then
      let s := newBoundary lines (finishPass s)
      s.setClock (gainSo s.clock)
    else s

/-! ## The frequency loop (R131) -/

/-- The window error of a count (R131). -/
def windowError (count : Nat) : Nat := (count - Config.windowExpected) + (Config.windowExpected - count)

/-- A measuring window ends at this boundary (R131). -/
def windowDue (s : State) : Bool :=
  decide (s.clock.loop ≠ .off) && decide (s.clock.source = .so)
    && (match s.clock.window with
        | some start => decide (elapsed s start = Config.windowTicks)
        | none => false)

/-- The loop falls out of TRACKING (R131). -/
def loseTrack (c : Clock) : Clock := clearLocked { c with loop := .acquiring, good := 0 }

/-- A good or bad window moves the loop (R131); the next window starts at the same boundary. -/
def endWindow (count : Nat) (s : State) : State :=
  let s := s.setClock { s.clock with window := some s.clock.tick }
  let e := windowError count
  match s.clock.loop with
  | .off => s
  | .acquiring => if e ≤ 163 then s.setClock { s.clock with loop := .tracking, good := 0 } else s
  | .tracking =>
    if 163 < e then s.setClock (loseTrack s.clock)
    else if s.clock.locked then s
    else if 40 < e then s.setClock { s.clock with good := 0 }
    else
      let s := s.setClock { s.clock with good := s.clock.good + 1 }
      if 4 ≤ s.clock.good then setLocked s else s

/-- LOOP_WINDOW_END (R131). -/
def execLoopWindowEnd (count : Nat) (s : State) : Host.Outcome State Fault Refusal :=
  whilePowered s fun s => if windowDue s then endWindow count s else s

end Sys2Proof.Machine
end

