-- ==== Sys2Proof/Machine/WakeEvents.lean ====
section
/-! DEFINITION. The meanings of the Wake Unit's commands (chapters 5 and 6): the samples of the line
detectors and of the AC-fail detector, and the expiry of the override hold timer. -/

namespace Sys2Proof.Machine

/-- A detector after a sample, and whether the sample changed its state (R95, R100). -/
def detectorStep (w : Nat) (active : Bool) (d : Detector) : Detector × Bool :=
  if d.active = active then ({ d with count := 0 }, false)
  else if w ≤ d.count + 1 then ({ active := active, count := 0 }, true)
  else ({ d with count := d.count + 1 }, false)

/-! ## The override hold timer (R93, R94) -/

/-- The expiry of the override hold timer, by PSC state (R94). -/
def overrideExpires (s : State) : State :=
  let s := s.setWake { s.wake with overrideT := none }
  match s.psc.state with
  | .working | .suspend | .transit | .backout | .halted | .urgent => triggerOverride s
  | .softOff | .hibernate | .loading => s

/-- The PWRBTN detector goes ACTIVE: an IDLE timer starts with the Policy override time, and a duration
of 0 expires at once (R93). -/
def startOverride (s : State) : State :=
  if s.wake.overrideT.isSome then s
  else
    let d := duration s.psc.policy0.overrideFor
    let s := s.setWake { s.wake with overrideT := some { start := s.clock.tick, duration := d } }
    if d = 0 then overrideExpires s else s

/-- The override timer expires at this boundary (R93). -/
def overrideDue (s : State) : Bool :=
  match s.wake.overrideT with
  | some t => decide (elapsed s t.start = t.duration)
  | none => false

/-- OVERRIDE_TIMER_EXPIRY (R94). -/
def execOverrideTimerExpiry (s : State) : Host.Outcome State Fault Refusal :=
  whilePowered s fun s => if overrideDue s then overrideExpires s else s

/-! ## Line detectors (R100, R101) -/

/-- The trip line named in Policy record 0 is the line of this source (R92). -/
def isTripLine (s : State) (src : Fin 9) : Bool :=
  s.psc.policy0.trip.present && decide (s.psc.policy0.trip.value.val = src.val)

/-- The effect of a change to ACTIVE besides fire and timer: source 8 clears the fault latch, the trip
line raises a FAULT trigger (R101). -/
def guardEffect (src : Fin 9) (s : State) : State :=
  if src.val = 8 then clearLatch s
  else if isTripLine s src then triggerFault .trip (Fin.ofNat 256 src.val) s
  else s

/-- The override timer's part of a change to ACTIVE (R101). -/
def timerEffect (src : Fin 9) (s : State) : State := if src.val = 8 then startOverride s else s

/-- A source's detector is set to a state. -/
def setDet (src : Fin 9) (d : Detector) (s : State) : State :=
  s.setWake { s.wake with det := poke s.wake.det src d }

/-- The detector goes ACTIVE and its source fires (R101). The two are one effect: an arming change that comes
before it, in a chain that another effect of the change sets going, finds the detector still INACTIVE, and one
that comes after it finds it ACTIVE, so that a level-mode source fires once in either order (R114). -/
def fireEffect (src : Fin 9) (s : State) : State :=
  fire (lineSource src) (setDet src { active := true, count := 0 } s)

/-- The three effects of a change to ACTIVE, in the order taken, each with the chain it sets going (R101). -/
def activeEffects (src : Fin 9) (order : EffectOrder) (s : State) : State :=
  let f := fun s => runChain (fireEffect src s)
  let g := fun s => runChain (guardEffect src s)
  let t := fun s => runChain (timerEffect src s)
  match order with
  | .wakeGuardTimer => t (g (f s))
  | .wakeTimerGuard => g (t (f s))
  | .guardWakeTimer => t (f (g s))
  | .guardTimerWake => f (t (g s))
  | .timerWakeGuard => g (f (t s))
  | .timerGuardWake => f (g (t s))

/-- A change to INACTIVE: source 8 stops the override timer (R93, R101). -/
def inactiveEffects (src : Fin 9) (s : State) : State :=
  if src.val = 8 then s.setWake { s.wake with overrideT := none } else s

/-- The tick sample of a line is taken: it is now the most recent one (R36, R100). -/
def takeSample (src : Fin 9) (s : State) : State :=
  s.setWake { s.wake with sample := poke s.wake.sample src (lineLevel s.pins.now src) }

/-- The detector of a source takes its sample (R100). -/
def detectorSample (src : Fin 9) (order : EffectOrder) (s : State) : State :=
  let w := peek s.wake.table (lineSource src)
  let s := takeSample src (s.setBoundary { s.boundary with det := poke s.boundary.det src false })
  let active := decide (peek s.wake.sample src = activeHigh w.mode)
  let d := detectorStep (actingFilter w.width) active (peek s.wake.det src)
  if !d.2 then setDet src d.1 s
  else if active then activeEffects src order s
  else inactiveEffects src (setDet src d.1 s)

/-- DETECTOR_SAMPLE (R100): the sample this boundary owes, outside LOADING. -/
def execDetectorSample (source : Fin 9) (order : EffectOrder) (s : State) : Host.Outcome State Fault Refusal :=
  whilePowered s fun s =>
    if peek s.boundary.det source && decide (s.psc.state ≠ .loading) then detectorSample source order s else s

/-! ## The AC-fail detector (R95, R96, R97) -/

/-- AC restore (R97): deferred while a POWERFAIL list runs, else applied at once. -/
def acRestore (s : State) : State :=
  if s.eng.urg.running ∧ s.eng.urg.kind = some .powerfail then s.setPsc { s.psc with pendingRestore := true }
  else restoreAction s

/-- The AC-fail detector takes its sample: PFAIL is active when low (R95). -/
def pfailSample (s : State) : State :=
  let s := s.setBoundary { s.boundary with pfail := false }
  let active := !s.pins.now.pfail
  let d := detectorStep (actingFilter s.psc.policy0.pfailWidth) active s.wake.pfail
  let s := s.setWake { s.wake with pfail := d.1 }
  if !d.2 then s else if active then triggerPowerfail s else acRestore s

/-- PFAIL_SAMPLE (R95): the sample this boundary owes, outside LOADING. -/
def execPfailSample (s : State) : Host.Outcome State Fault Refusal :=
  whilePowered s fun s =>
    if s.boundary.pfail && decide (s.psc.state ≠ .loading) then pfailSample s else s

end Sys2Proof.Machine
end

