-- ==== Sys2Proof/Machine/Sequence.lean ====
section
/-! DEFINITION. The meanings of the events that end a waiting step (chapter 2). Each completion is the
event that brings the awaited condition about, taken with the step's end it causes (assumption 9). -/

namespace Sys2Proof.Machine

/-! ## Expiry (R26) -/

/-- What the expiry of the step in progress does, by kind (R26, R31 to R39). -/
def stepExpires (s : State) : State :=
  match s.eng.cur.kind with
  | .delay => succeed s
  | .pulse => succeed (driveLine (lineOf s.eng.cur) (!s.eng.cur.opB) s)
  | .sendWire => failWith .timeout (withdrawSendWire s)
  | .waitGood | .waitOff | .waitLine | .release | .clockUp => failWith .timeout s
  | .endList | .railOn | .railOff | .lineSet | .clockDown | .armWake | .mark => s

/-- STEP_TIMER_EXPIRY (R26). -/
def execStepTimerExpiry (s : State) : Host.Outcome State Fault Refusal :=
  whilePowered s fun s => if stepTimerDue s then stepExpires s else s

/-! ## Rail waits (R31, R32) -/

/-- The boundary event of a rail that is due: its settle or drain expiry, or its scan-pass sample. -/
def railEvent (slot : Fin 16) (s : State) : State :=
  if settleDue slot s then moveVerdict slot .good s
  else if drainDue slot s then moveVerdict slot .off s
  else if passDue s then takeRail slot (beginPass s)
  else s

/-- Verdict of a slot. -/
def verdictOf (s : State) (slot : Fin 16) : Verdict := (peek s.rails.stat slot).verdict

/-- A verdict that ends a WAIT_GOOD (R31). -/
def endsWaitGood (v : Verdict) : Bool := decide (v = .good) || decide (v = .lost)

/-- The event of a rail that ends the wait on it, which `ended` tells of the state after the event; a verdict that
`ends` names already is handed on. -/
def awaitRail (ends : Verdict → Bool) (ended : State → Bool) (slot : Fin 16) (s : State) : State :=
  if ends (verdictOf s slot) then handOnVerdict slot (verdictOf s slot) s
  else
    let t := railEvent slot s
    if ended t then t else s

/-- WAIT_GOOD_COMPLETES (R31). The wait is over when the step no longer waits: it has succeeded, failed with LOST,
or been cut by the urgent start of a critical rail's loss, whatever the built-in shutdown then makes of the rail
(R67, R86). -/
def execWaitGoodCompletes (s : State) : Host.Outcome State Fault Refusal :=
  whilePowered s fun s =>
    if waitsIn s .waitGood then awaitRail endsWaitGood (fun t => !waitsIn t .waitGood) (slotOf s.eng.cur) s else s

/-- WAIT_OFF_COMPLETES (R32). -/
def execWaitOffCompletes (s : State) : Host.Outcome State Fault Refusal :=
  whilePowered s fun s =>
    if waitsIn s .waitOff then
      let slot := slotOf s.eng.cur
      awaitRail (fun v => decide (v = .off)) (fun t => decide (verdictOf t slot = .off)) slot s
    else s

/-! ## Line wait (R36) -/

/-- The raw sample of the awaited line is taken, and ends the step if it is the awaited level (R36). -/
def awaitLine (s : State) : State :=
  let s := takeSample (Fin.castLE (by decide) (lineOf s.eng.cur)) s
  if lineSampled s (lineOf s.eng.cur) s.eng.cur.opB then succeed s else s

/-- WAIT_LINE_COMPLETES (R36). -/
def execWaitLineCompletes (s : State) : Host.Outcome State Fault Refusal :=
  whilePowered s fun s => if waitsIn s .waitLine then awaitLine s else s

/-! ## Clock wait (R39) -/

/-- The window end that moves the core to FAST_LOOP, if this one does (R39, R131, R133). -/
def awaitLock (count : Nat) (s : State) : State :=
  if s.clock.mode = .fastLoop then handOnFastLoop s
  else if windowDue s ∧ (endWindow count s).clock.mode = .fastLoop then endWindow count s
  else s

/-- CLOCK_UP_COMPLETES (R39). -/
def execClockUpCompletes (count : Nat) (s : State) : Host.Outcome State Fault Refusal :=
  whilePowered s fun s => if waitsIn s .clockUp then awaitLock count s else s

/-! ## Drain waits (R28, R38) -/

/-- The drain frame is the oldest internal frame waiting at a port with a free slot (R146). -/
def drainCanTake (s : State) (p : Port) : Bool :=
  slotFree s p && decide ((link s p).waiting.head? = some .drain)

/-- The drain frame takes a slot now, if it can (R124, R146). -/
def drainTakes (s : State) : State :=
  if drainCanTake s .hub then takeOldest .hub s
  else if drainCanTake s .board then takeOldest .board s
  else s

/-- The drain frame that carries all that is left takes its slot; an empty queue is handed on (R124). -/
def awaitDrain (s : State) : State :=
  if s.wire.queue = [] then handOnDrained s
  else if (drainTakes s).wire.queue = [] then drainTakes s
  else s

/-- RELEASE_COMPLETES (R38). -/
def execReleaseCompletes (s : State) : Host.Outcome State Fault Refusal :=
  whilePowered s fun s => if waitsIn s .release then awaitDrain s else s

/-- An END step, a runaway wait or a built-in shutdown waits for the drain (R25, R28, R86). -/
def waitsAtEnd (s : State) : Bool :=
  waitsIn s .endList || decide (s.eng.wait = .runaway) || decide (s.eng.wait = .builtin)

/-- END_COMPLETES (R28). -/
def execEndCompletes (s : State) : Host.Outcome State Fault Refusal :=
  whilePowered s fun s => if waitsAtEnd s then awaitDrain s else s

end Sys2Proof.Machine
end

