-- ==== Sys2Proof/Machine/LinkEvents.lean ====
section
/-! DEFINITION. The meanings of the link commands (chapter 9): reception, arrival and send completion, the
frames that take a transmit slot, and the assertion and release of link reset. -/

namespace Sys2Proof.Machine

/-! ## Reception (R142, R143) -/

/-- FRAME_RECEPTION_BEGINS (R142): a frame in reception takes a receive slot if the port is READY. While
LRST is asserted the data input is ignored (R147), and after its release a frame begins only after a
rest of the line (R148). -/
def execFrameReceptionBegins (port : Port) (rested : Bool) (s : State) : Host.Outcome State Fault Refusal :=
  whilePowered s fun s =>
    let l := link s port
    if s.lrst || l.receiving.isSome || (l.needRest && !rested) then s
    else setLink s port { l with receiving := some (ready s port), needRest := false }

/-- A frame that fails a check is counted by its cause (R143). -/
def countDrop (port : Port) (c : DropCause) (s : State) : State :=
  match c with
  | .malformed => countPort port incMalformed s
  | .crcErr => countPort port incCrcErr s
  | .unknown => countPort port incUnknown s

/-- A frame that passes the checks joins the tail of the receive queue (R142). -/
def enterRx (port : Port) (f : Frame) (s : State) : State :=
  setLink s port { link s port with rx := (link s port).rx ++ [f] }

/-- FRAME_ARRIVAL (R143). -/
def execFrameArrival (port : Port) (bytes : List Byte) (framingFault : Bool) (s : State) :
    Host.Outcome State Fault Refusal :=
  whilePowered s fun s =>
    match (link s port).receiving with
    | none => s
    | some slot =>
      let s := setLink s port { link s port with receiving := none }
      if !slot then countPort port incOverrun s
      else
        match parseFrame bytes framingFault with
        | .error c => countDrop port c s
        | .ok f => enterRx port f s

/-! ## Transmission (R145, R146) -/

/-- SEND_COMPLETION (R145): the head frame has left and its slot is free. The frame that then takes the
slot does so in its own event. -/
def execSendCompletion (port : Port) (s : State) : Host.Outcome State Fault Refusal :=
  whilePowered s fun s => setLink s port { link s port with tx := (link s port).tx.tail }

/-- DRAIN_FRAME_TAKES_SLOT (R124). -/
def execDrainFrameTakesSlot (s : State) : Host.Outcome State Fault Refusal := whilePowered s drainTakes

/-- The frame of a SEND_WIRE step is the oldest internal frame waiting at a port with a free slot. -/
def sendWireCanTake (s : State) (p : Port) : Bool :=
  slotFree s p && ((link s p).waiting.head?.map isSendWire).getD false

/-- SEND_WIRE_FRAME_TAKES_SLOT (R37). -/
def execSendWireFrameTakesSlot (s : State) : Host.Outcome State Fault Refusal :=
  whilePowered s fun s =>
    if sendWireCanTake s .hub then takeOldest .hub s
    else if sendWireCanTake s .board then takeOldest .board s
    else s

/-- A WAKE notice, an off-notice frame or a re-sent OWN frame. -/
def isNoticeOrWires : Internal → Bool
  | .notice _ => true
  | .wires _ => true
  | .drain => false
  | .sendWire _ => false

/-- INTERNAL_FRAME_TAKES_SLOT (R146). -/
def execInternalFrameTakesSlot (port : Port) (s : State) : Host.Outcome State Fault Refusal :=
  whilePowered s fun s =>
    if slotFree s port && ((link s port).waiting.head?.map isNoticeOrWires).getD false then takeOldest port s
    else s

/-- The head of a receive queue needs a slot of the other port: a WIRE frame, or a DATA frame with
route 0 (R146). -/
def headNeedsSlot (l : Link) : Bool :=
  match l.rx with
  | [] => false
  | f :: _ => decide (f.kind = .wire) || (decide (f.kind = .data) && !f.route)

/-- A slot of a port is offered to the management response (R146). -/
def responseCanTake (s : State) (p : Port) : Bool :=
  slotFree s p && decide ((link s p).waiting = []) && !headNeedsSlot (link s p.other)

/-- MGMT_RESPONSE_TAKES_SLOT (R150). -/
def execMgmtResponseTakesSlot (s : State) : Host.Outcome State Fault Refusal :=
  whilePowered s fun s =>
    match s.agent with
    | none => s
    | some a => if responseCanTake s a.port then (queueTx a.port a.response s).setAgent none else s

/-! ## Link reset (R126, R147, R148) -/

/-- A port at the assertion: nothing in reception, empty queues, zero counters (R147). -/
def resetLink (l : Link) : Link :=
  { l with rx := [], receiving := none, tx := [], waiting := [], counters := zeroCounters }

/-- The ports, the agent and the Hold Queue at the assertion (R115, R126, R147, R150). -/
def dropTraffic (s : State) : State :=
  let s := ((s.setHub (resetLink s.hub)).setBoard (resetLink s.board)).setAgent none
  s.setWire { s.wire with queue := [], pointer := .hub, kept := none }

/-- Every wire whose action is not OWN takes its default level (R126). -/
def resetWires (s : State) : State :=
  s.setWire { s.wire with
    level := Vector.ofFn fun w =>
      if (peek s.wire.map w).action = .own then peek s.wire.level w else (peek s.wire.map w).deflt }

/-- Steps 2 and 3 of the assertion, outside LOADING (R126). -/
def resetRequests (s : State) : State :=
  if s.psc.state = .loading then s else requestIfChanged (requested s) (resetWires s)

/-- LRST_ASSERTED (R126, R147). A step that waits for the drain ends, before the request event or after it
as the operand says (R10, R28, R38). -/
def execLrstAsserted (endFirst : Bool) (s : State) : Host.Outcome State Fault Refusal :=
  if s.lrst then .next s
  else
    whilePowered (s.setLrst true) fun s =>
      let s := dropTraffic s
      if endFirst then resetRequests (runChain (handOnDrained s))
      else handOnDrained (runChain (resetRequests s))

/-- The OWN wires of a direction at their levels, in ascending order (R127). -/
def ownLevels (s : State) (d : Direction) : List WireLevel :=
  ((List.finRange 64).filter fun w =>
      decide ((peek s.wire.map w).action = .own) && decide ((peek s.wire.map w).dir = d)).map
    fun w => { wire := w, level := peek s.wire.level w }

/-- Entries packed up to 8 to a frame (R127). -/
def packFrames (es : List WireLevel) : List (List WireLevel) :=
  ((List.range 8).map fun i => (es.drop (Config.entriesPerFrame * i)).take Config.entriesPerFrame).filter
    fun f => decide (f ≠ [])

/-- The OWN wires are sent again (R127). -/
def resendOwn (s : State) : State :=
  let hub := packFrames (ownLevels s .up)
  let board := packFrames (ownLevels s .down)
  let s := hub.foldl (fun s es => createInternal .hub (.wires es) s) s
  board.foldl (fun s es => createInternal .board (.wires es) s) s

/-- The queued wakes are announced again in SUSPEND, HIBERNATE and SOFT_OFF (R113). -/
def reannounce (s : State) : State :=
  match s.psc.state with
  | .suspend | .hibernate | .softOff => s.wake.queue.foldl (fun s e => createNotice e.source s) s
  | .loading | .working | .transit | .backout | .urgent | .halted => s

/-- The frame of a SEND_WIRE step that waited through the reset joins the waiting frames (R37, R148). -/
def rejoinSendWire (s : State) : State :=
  if waitsIn s .sendWire then
    createInternal (portOf (wireDir s s.eng.cur.opA)) (.sendWire { wire := s.eng.cur.opA, level := s.eng.cur.opB }) s
  else s

/-- LRST_RELEASED (R148). -/
def execLrstReleased (wiresFirst : Bool) (s : State) : Host.Outcome State Fault Refusal :=
  if !s.lrst then .next s
  else
    whilePowered (s.setLrst false) fun s =>
      let s := (s.setHub { s.hub with needRest := true }).setBoard { s.board with needRest := true }
      if s.psc.state = .loading then s
      else
        let s := if wiresFirst then reannounce (resendOwn s) else resendOwn (reannounce s)
        rejoinSendWire s

end Sys2Proof.Machine
end

