-- ==== Sys2Proof/Machine/Records.lean ====
section
/-! DEFINITION. One write of a record of a writable table: its validation against the tables as they
stand, and the storing of it (R56, R117, R137, R156). What a stored record sets going besides is the
writer's: the management agent's or the image loader's. -/

namespace Sys2Proof.Machine

/-- A record that has passed its table's validation, with whether clamping changed a field. -/
inductive Checked
  | rail (slot : Fin 16) (r : RailRec) (clamped : Bool)
  | step (i : Fin 256) (r : StepRec)
  | trans (i : Fin 16) (e : TransEntry)
  | wire (w : Fin 64) (e : WireEntry)
  | wake (src : Fin 14) (e : WakeSource)
  | policy0 (p : Policy0) (clamped : Bool)
  | policy1 (p : Policy1)
  deriving DecidableEq, Repr

/-- Whether clamping changed a field of a checked record (R81, R156). -/
def Checked.clamped : Checked → Bool
  | .rail _ _ b => b
  | .policy0 _ b => b
  | .step _ _ => false
  | .trans _ _ => false
  | .wire _ _ => false
  | .wake _ _ => false
  | .policy1 _ => false

/-- A Wire Map record checked against Policy record 0 (R5, R117). -/
def checkWire (s : State) (w : Fin 64) (bs : List Byte) : Option Checked :=
  match decodeWire bs with
  | some e => if wireWriteOk s.psc.policy0 w e then some (.wire w e) else none
  | none => none

/-- A Policy record checked against the Wire Map (R3, R156). -/
def checkPolicy (s : State) (i : Nat) (bs : List Byte) : Option Checked :=
  if i = 0 then
    match decodePolicy0 bs with
    | some (p, c) => if policyWiresOk s.wire.map p then some (.policy0 p c) else none
    | none => none
  else some (.policy1 (decodePolicy1 bs))

/-- The validation of a record of `recLen t` bytes for an index in range; none is answered RANGE
(R56, R81, R156). -/
def checkRecord (s : State) (t : Table) (i : Nat) (bs : List Byte) : Option Checked :=
  match t with
  | .rail => (decodeRail (Fin.ofNat 16 i) bs).map fun x => .rail (Fin.ofNat 16 i) x.1 x.2
  | .step => (decodeStep bs).map (.step (Fin.ofNat 256 i))
  | .transition => some (.trans (Fin.ofNat 16 i) (decodeTrans bs))
  | .wiremap => checkWire s (Fin.ofNat 64 i) bs
  | .wakesrc => (decodeWake bs).map (.wake (Fin.ofNat 14 i))
  | .policy => checkPolicy s i bs

/-- A checked record stands in its table. -/
def putRecord (c : Checked) (s : State) : State :=
  match c with
  | .rail slot r _ => s.setRails { s.rails with table := poke s.rails.table slot r }
  | .step i r => s.setEng { s.eng with steps := poke s.eng.steps i r }
  | .trans i e => s.setPsc { s.psc with trans := poke s.psc.trans i e }
  | .wire w e => s.setWire { s.wire with map := poke s.wire.map w e }
  | .wake src e => s.setWake { s.wake with table := poke s.wake.table src e }
  | .policy0 p _ => s.setPsc { s.psc with policy0 := p }
  | .policy1 p => s.setPsc { s.psc with policy1 := p }

/-- Every writable table takes its blank value (R139). -/
def blankTables (s : State) : State :=
  let s := s.setRails { s.rails with table := Vector.replicate 16 blankRail }
  let s := s.setEng { s.eng with steps := Vector.replicate 256 blankStep }
  let s := s.setWire { s.wire with map := blankWires }
  let s := s.setWake { s.wake with table := blankWakes }
  s.setPsc { s.psc with trans := Vector.replicate 16 blankTrans, policy0 := blankPolicy0, policy1 := blankPolicy1 }

end Sys2Proof.Machine
end

