-- ==== Sys2Proof/Machine/PowerUp.lean ====
section
/-! DEFINITION. The meanings of the power and image commands (chapter 8): standby power-on reset and the
fall of standby power, the image header, its records, and the end of the load. -/

namespace Sys2Proof.Machine

/-! ## Standby power (R135) -/

/-- STANDBY_POWER_ON_RESET (R135): every block takes its reset value. The level at the LRST input, the
queue of waiting commands and the count of uses of free values are no block's state. -/
def execStandbyPowerOnReset (s : State) : Host.Outcome State Fault Refusal :=
  .next (((State.reset.setPending s.pending).setLrst s.lrst).setUses s.uses)

/-- STANDBY_POWER_FALL (R135): all activity of the part ends until a new standby power-on reset. -/
def execStandbyPowerFall (s : State) : Host.Outcome State Fault Refusal := .next (s.setPowered false)

/-! ## The image (R136, R137, R138) -/

/-- The image is found bad: the reading stops, the tables go blank and IMAGE_BAD is set (R136, R138). -/
def badImage (s : State) : State :=
  (blankTables s).setLoader { s.loader with phase := .bad, imageBad := true, chipSelect := false }

/-- The loader sends the read command and the start address (R136, R163). -/
def sendCommand (s : State) : State := s.setLoader { s.loader with sent := Config.readCommand }

/-- The loader reads on: the CRC-16 is carried over the bytes read (R136). -/
def readOn (bs : List Byte) (s : State) : State := s.setLoader { s.loader with crc := crc16 s.loader.crc bs }

/-- Record count in the header's two bytes (R163). -/
def recordCount (lo hi : Byte) : Nat := lo.toNat + 256 * hi.toNat

/-- A header the loader accepts (R136, R138, R163). -/
def headerOk (fmt lo hi : Byte) : Bool :=
  decide (fmt ≠ 0xFF) && decide (fmt = Config.imageFormat) && decide (recordCount lo hi ≤ Config.imageRecordMax)

/-- IMAGE_HEADER_READ (R136): the command is sent, and the header is read and checked. -/
def execImageHeaderRead (fmt countLo countHi : Byte) (s : State) : Host.Outcome State Fault Refusal :=
  whilePowered s fun s =>
    match s.loader.phase with
    | .header =>
      let s := sendCommand s
      if headerOk fmt countLo countHi then
        let s := readOn [fmt, countLo, countHi] s
        s.setLoader { s.loader with phase := .records (recordCount countLo countHi) }
      else badImage s
    | .records _ => s
    | .bad => s
    | .done => s

/-- One more image warning, 400 at most (R137). -/
def imageWarning (s : State) : State :=
  s.setLoader { s.loader with warnings := satInc Config.imageRecordMax s.loader.warnings }

/-- A record of a writable table is installed, installed clamped with a warning, or skipped with a
warning (R137). -/
def installRecord (t : Table) (index : Nat) (bs : List Byte) (s : State) : State :=
  if indexOk t index then
    match checkRecord s t index bs with
    | some c => if c.clamped then imageWarning (putRecord c s) else putRecord c s
    | none => imageWarning s
  else imageWarning s

/-- IMAGE_RECORD_READ (R137): a table id outside 1 to 6 makes the image bad (R138). -/
def execImageRecordRead (tid index : Byte) (data : Vector Byte 11) (s : State) : Host.Outcome State Fault Refusal :=
  whilePowered s fun s =>
    match s.loader.phase with
    | .records (n + 1) =>
      match tableOf tid.toNat with
      | none => badImage s
      | some t =>
        let bs := data.toList.take (recLen t)
        let s := installRecord t index.toNat bs (readOn (tid :: index :: bs) s)
        s.setLoader { s.loader with phase := .records n }
    | .records 0 => s
    | .header => s
    | .bad => s
    | .done => s

/-! ## The end of the load (R140) -/

/-- Steps 1 and 2: the enable lines deasserted and the output lines at the OUT default mask (R34, R57). -/
def driveLines (s : State) : State :=
  let s := s.setRails { s.rails with stat := s.rails.stat.map fun x => { x with en := .deasserted } }
  s.setPins { s.pins with out := Vector.ofFn fun n => some (s.psc.policy0.outMask.getLsbD n.val) }

/-- Step 3: every wire takes its default level (R118). -/
def defaultWires (s : State) : State := s.setWire { s.wire with level := s.wire.map.map WireEntry.deflt }

/-- A detector as it is set from a level, without a fire (R99, R100). -/
def setDetector (w : WakeSource) (high : Bool) : Detector :=
  { active := decide (high = activeHigh w.mode), count := 0 }

/-- Step 4: the detectors are set from the present levels, which stand as the most recent samples; the
next samples come at the next tick boundary (R95, R100). -/
def setDetectors (lines : Lines) (s : State) : State :=
  let s := (s.setPins { s.pins with now := lines }).setBoundary quietBoundary
  s.setWake { s.wake with
    sample := lineLevels lines,
    det := Vector.ofFn fun n => setDetector (peek s.wake.table (lineSource n)) (lineLevel lines n),
    pfail := { active := !lines.pfail, count := 0 } }

/-- Step 6: the PSC settles in SOFT_OFF (R16). The ports' READY of step 5 follows from the PSC's state
and LRST (R144). -/
def loadSettle (s : State) : State :=
  let s := s.setWake { s.wake with armed := .softOff }
  s.setPsc { s.psc with state := .softOff, current := .softOff, target := .softOff, commit := false,
                        gateClosed := false, slot := none }

/-- The end of the load, steps 1 to 7 (R140). -/
def endLoad (lines : Lines) (s : State) : State :=
  let s := s.setLoader { s.loader with phase := .done, chipSelect := false }
  restoreAction (loadSettle (setDetectors lines (defaultWires (driveLines s))))

/-- The trailer matches the CRC-16 over the bytes read (R136, R163). -/
def trailerOk (s : State) (hi lo : Byte) : Bool := decide (s.loader.crc = hi ++ lo)

/-- END_OF_THE_LOAD (R140): the trailer has been checked, or the image was found bad. -/
def execEndOfTheLoad (crcHi crcLo : Byte) (lines : Lines) (s : State) : Host.Outcome State Fault Refusal :=
  whilePowered s fun s =>
    match s.loader.phase with
    | .records 0 => if trailerOk s crcHi crcLo then endLoad lines s else endLoad lines (badImage s)
    | .bad => endLoad lines s
    | .records (_ + 1) => s
    | .header => s
    | .done => s

end Sys2Proof.Machine
end

