-- ==== Sys2Proof/Machine/Readout.lean ====
section
/-! DEFINITION. What a management read returns: the read units of the thirteen tables (R154, R161, R162),
with a free value in the place of each absent field whose read-out the manual does not state. -/

namespace Sys2Proof.Machine

/-! ## Fields -/

/-- A byte that holds a field while it is present; the place of an absent one is the free value `k`
(assumption 5). -/
def optByte (s : State) (k : Nat) (v : Option Nat) : Byte :=
  match v with
  | some n => byteOf n
  | none => Config.absentByte s.uses k

/-- A level at a bit position. -/
def levelBits (l : Level) (k : Nat) : Nat := (levelCode l).val * 2 ^ k

/-- A 32-bit tick in four bytes. -/
def tickBytes (t : Tick) : List Byte := bytesLE 4 t.toNat

/-- The record number of Policy record 0 or 1 read out. -/
def policyBytes (s : State) (i : Nat) : List Byte :=
  if i = 0 then encodePolicy0 s.psc.policy0 else encodePolicy1 s.psc.policy1

/-- A RAILSTATUS unit (R162). -/
def railStatusBytes (st : RailStat) : List Byte :=
  [byteOf (verdictCode st.verdict + 16 * enCode st.en)] ++ bytesLE 2 st.mV ++
    [byteOf (st.inCount + 16 * st.overCount), byteOf (st.outCount + 16 * st.lowCount), byteOf st.lost]

/-! ## Reports (R162) -/

/-- Part 0 of a report. -/
def reportHead (r : Report) : List Byte :=
  [byteOf (bitAt r.isOpen 0 + bitAt r.committed 1 + bitAt r.firstFailure.isSome 2 + bitAt r.lastMark.isSome 3),
    byteOf (originCode r.origin), byteOf (levelBits r.fromLevel 0 + levelBits r.toLevel 2),
    byteOf ((r.outcome.map outcomeCode).getD 0)] ++ tickBytes r.startTick ++ bytesLE 2 r.steps ++ [byteOf r.warnings]

/-- Part 1 of a report. -/
def reportEnd (s : State) (r : Report) : List Byte :=
  tickBytes (r.endTick.getD 0) ++
    [optByte s 1 (r.firstFailure.map fun f => f.step.val), optByte s 2 (r.firstFailure.map fun f => failCode f.kind),
      optByte s 3 (r.lastMark.map Fin.val), byteOf r.holdOverflow, byteOf r.holdCollapse, byteOf r.wakeList.length]

/-- A place of a report's wake list; unused places read 0. -/
def wakePlace (r : Report) (i : Nat) : Byte := byteOf ((r.wakeList[i]?.map Fin.val).getD 0)

/-- Which rail good times are present, bit n for slot n. -/
def goodMask (r : Report) : Nat :=
  (List.finRange 16).foldl (fun n i => n + bitAt (peek r.goodTimes i).isSome i.val) 0

/-- Part 2 of a report. -/
def reportWakesPart (r : Report) : List Byte := (List.range 8).map (wakePlace r) ++ bytesLE 2 (goodMask r)

/-- The good time of a slot in three bytes; an absent time reads 0. -/
def goodTimeBytes (r : Report) (slot : Nat) : List Byte :=
  if h : slot < 16 then bytesLE 3 ((peek r.goodTimes ⟨slot, h⟩).getD 0) else []

/-- Parts 3 to 8 of a report. -/
def reportTimes (r : Report) (i : Nat) : List Byte :=
  goodTimeBytes r (3 * (i - 3)) ++ goodTimeBytes r (3 * (i - 3) + 1) ++ goodTimeBytes r (3 * (i - 3) + 2)

/-- A part of a report (R162). -/
def reportPart (s : State) (r : Report) (i : Nat) : List Byte :=
  if i = 0 then reportHead r else if i = 1 then reportEnd s r else if i = 2 then reportWakesPart r else reportTimes r i

/-! ## Fault Record, wakes and counters (R162) -/

/-- The Fault Record (R162). -/
def faultPart (s : State) : List Byte :=
  let f := s.fault
  let group :=
    match f.first with
    | some x =>
      [byteOf (causeCode x.cause), byteOf x.subject.val, byteOf (pscCode x.psc), byteOf (levelBits x.level 0)]
        ++ tickBytes x.tick
    | none => (List.range 8).map fun k => Config.absentByte s.uses (4 + k)
  [byteOf (bitAt f.first.isSome 0)] ++ group ++ [byteOf f.further, byteOf f.urgentFails]

/-- A queue position of the WAKEQUEUE table; one beyond the depth reads source 255 with zeros. -/
def queuePart (s : State) (i : Nat) : List Byte :=
  match s.wake.queue[i]? with
  | some e => [byteOf e.source.val] ++ tickBytes e.first ++ [byteOf e.count]
  | none => [255, 0, 0, 0, 0, 0]

/-- The missed count of a source. -/
def missedByte (s : State) (src : Nat) : Byte := if h : src < 14 then byteOf (peek s.wake.missed ⟨src, h⟩) else 0

/-- The detector states, bit n for source n. -/
def detectorMask (s : State) : Nat :=
  (List.finRange 9).foldl (fun n i => n + bitAt (peek s.wake.det i).active i.val) 0

/-- A part of the WAKEQUEUE table (R162). -/
def wakePart (s : State) (i : Nat) : List Byte :=
  if i < 8 then queuePart s i
  else if i = 8 then (List.range 11).map (missedByte s)
  else [missedByte s 11, missedByte s 12, missedByte s 13] ++ bytesLE 2 (detectorMask s) ++ [byteOf s.wake.queue.length]

/-- A part of the COUNTERS table (R162). -/
def counterPart (s : State) (i : Nat) : List Byte :=
  let h := s.hub.counters
  let b := s.board.counters
  let two := fun ns : List Nat => ns.flatMap (bytesLE 2)
  if i = 0 then two [h.overrun, h.malformed, h.crcErr, h.unknown, h.routeErr]
  else if i = 1 then two [h.noticeLost, b.overrun, b.malformed, b.crcErr, b.unknown]
  else if i = 2 then two [b.routeErr, b.noticeLost, s.wire.misdirected, s.wire.ownDrop, s.wire.holdOverflow]
  else two [s.wire.collapse] ++ [byteOf s.clock.lockChanges] ++ two [s.loader.warnings]

/-! ## Read units (R154) -/

/-- How many indices a table has; 0 for an id that names none (R154). -/
def unitCount (id : Nat) : Nat := [0, 16, 256, 16, 64, 14, 2, 64, 16, 9, 9, 1, 10, 4].getD id 0

/-- The read unit at an index of a table; none for a diagonal of TRANSITION (R154). -/
def readUnit (s : State) (id i : Nat) : Option (List Byte) :=
  if id = 1 then some (encodeRail (peek s.rails.table (Fin.ofNat 16 i)))
  else if id = 2 then some (encodeStep (peek s.eng.steps (Fin.ofNat 256 i)))
  else if id = 3 then if i % 5 = 0 then none else some (encodeTrans (peek s.psc.trans (Fin.ofNat 16 i)))
  else if id = 4 then some (encodeWire (peek s.wire.map (Fin.ofNat 64 i)))
  else if id = 5 then some (encodeWake (peek s.wake.table (Fin.ofNat 14 i)))
  else if id = 6 then some (policyBytes s i)
  else if id = 7 then some [byteOf (bitAt (peek s.wire.level (Fin.ofNat 64 i)) 0)]
  else if id = 8 then some (railStatusBytes (peek s.rails.stat (Fin.ofNat 16 i)))
  else if id = 9 then some (reportPart s s.eng.inflight i)
  else if id = 10 then some (reportPart s s.eng.last i)
  else if id = 11 then some (faultPart s)
  else if id = 12 then some (wakePart s i)
  else some (counterPart s i)

/-- The read units from index `i` on, `fuel` indices at most: as many as were asked for and fit (R154). -/
def gather (s : State) (id : Nat) : Nat → Nat → Nat → Nat → List (List Byte)
  | 0, _, _, _ => []
  | fuel + 1, i, count, room =>
    if count = 0 then []
    else
      match readUnit s id i with
      | none => gather s id fuel (i + 1) count room
      | some u =>
        if u.length ≤ room then u :: gather s id fuel (i + 1) (count - 1) (room - u.length) else []

/-- Bytes a response has for read units (R160). -/
def unitRoom : Nat := 11

/-- The data of an OK answer to READ_TABLE: how many units, the index of the first, and the units (R160). -/
def readData (s : State) (id start count : Nat) : List Byte :=
  let us := gather s id (unitCount id - start) start count unitRoom
  [byteOf us.length, byteOf start] ++ us.flatten

/-- A start index and count that READ_TABLE accepts (R154). -/
def readOk (id start count : Nat) : Bool :=
  decide (start < unitCount id) && decide (count ≠ 0) && !(decide (id = 3) && decide (start % 5 = 0))

end Sys2Proof.Machine
end

