-- ==== Sys2Proof/Machine/Traffic.lean ====
section
/-! DEFINITION. The Traffic Classifier (chapter 7): which head frame it takes next, and the meanings of
its commands but for management requests: WIRE frames, DATA frames, misrouted frames and board WAKE
frames. -/

namespace Sys2Proof.Machine

/-! ## Taking a frame (R115) -/

/-- The transmit queue of a port would give a free slot to a forwarded frame (R115, R146). -/
def forwardSlot (s : State) (p : Port) : Bool := slotFree s p && decide ((link s p).waiting = [])

/-- The condition for taking a frame that arrived on a port (R115, R116). A received frame is never an
MGMT_RSP (R143). -/
def takable (s : State) (p : Port) (f : Frame) : Bool :=
  match f.kind with
  | .wire => forwardSlot s p.other
  | .data => f.route || forwardSlot s p.other
  | .mgmtReq => !f.route || s.agent.isNone
  | .wake => true
  | .mgmtRsp => false

/-- The head frame of a port, if the classifier can take it (R115). -/
def offered (s : State) (p : Port) : Option Frame :=
  match (link s p).rx with
  | [] => none
  | f :: _ => if takable s p f then some f else none

/-- The frame the classifier takes next, with the port it arrived on: between two by the round-robin
pointer (R115). -/
def picked (s : State) : Option (Port × Frame) :=
  match offered s s.wire.pointer with
  | some f => some (s.wire.pointer, f)
  | none => (offered s s.wire.pointer.other).map fun f => (s.wire.pointer.other, f)

/-- The head frame leaves its receive queue, and the pointer moves to the other port (R115). -/
def popRx (p : Port) (s : State) : State :=
  let s := setLink s p { link s p with rx := (link s p).rx.tail }
  s.setWire { s.wire with pointer := p.other }

/-- The classifier takes the frame it takes next, if it is one of those `row` names. -/
def takeNext (row : Port → Frame → Bool) (handle : Port → Frame → State → State) (s : State) : State :=
  match picked s with
  | none => s
  | some (p, f) => if row p f then handle p f (popRx p s) else s

/-! ## WIRE frames (R119, R120, R122, R123) -/

/-- One more on the counters of the classifier (R128). -/
def countWire (f : Classifier → Classifier) (s : State) : State := s.setWire (f s.wire)

/-- One more OWN_DROP (R128). -/
def incOwnDrop (c : Classifier) : Classifier := { c with ownDrop := satInc Config.max16 c.ownDrop }
/-- One more MISDIRECTED (R128). -/
def incMisdirected (c : Classifier) : Classifier := { c with misdirected := satInc Config.max16 c.misdirected }
/-- One more COLLAPSE (R128). -/
def incCollapse (c : Classifier) : Classifier := { c with collapse := satInc Config.max16 c.collapse }
/-- One more HOLD_OVERFLOW, with the hold-overflow flag (R123, R128). -/
def incHoldOverflow (c : Classifier) : Classifier :=
  { c with holdOverflow := satInc Config.max16 c.holdOverflow, overflowFlag := true }

/-- A count on the in-flight report, while one is open (R52, R123). -/
def onOpenReport (f : Report → Report) (s : State) : State :=
  if s.eng.inflight.isOpen then onReport f s else s

/-- One more collapse in the report. -/
def reportCollapse (r : Report) : Report := { r with holdCollapse := satInc Config.max8 r.holdCollapse }
/-- One more overflow in the report. -/
def reportOverflow (r : Report) : Report := { r with holdOverflow := satInc Config.max8 r.holdOverflow }

/-- The queue with the most recent entry of the same wire at the arriving level; none when it holds no
entry of the wire (R123). -/
def collapseInto (e : WireLevel) : List WireLevel → Option (List WireLevel)
  | [] => none
  | x :: xs =>
    match collapseInto e xs with
    | some ys => some (x :: ys)
    | none => if x.wire = e.wire then some (e :: xs) else none

/-- An entry is handed to the Hold Queue (R122, R123). -/
def holdEntry (e : WireLevel) (s : State) : State :=
  if s.wire.queue.length < Config.holdSlots then
    ensureDrain (s.setWire { s.wire with queue := s.wire.queue ++ [e] })
  else
    match collapseInto e s.wire.queue with
    | some q => onOpenReport reportCollapse (countWire incCollapse (s.setWire { s.wire with queue := q }))
    | none => onOpenReport reportOverflow (countWire incHoldOverflow s)

/-- Steps 1 and 2 of an accepted entry: the Wire State Table takes the level, and a changed Requested
Level is taken as a request event with the chain it sets going (R4, R119). -/
def recordEntry (e : WireLevel) (s : State) : State :=
  runChain (requestIfChanged (requested s) (setLevel e.wire e.level s))

/-- One entry of a WIRE frame that arrived on port `p`: the new state, and the entries forwarded so far
with this one where it is forwarded (R119). -/
def handleEntry (p : Port) (x : State × List WireLevel) (b : Byte) : State × List WireLevel :=
  let s := x.1
  let e := entryOf b
  let m := peek s.wire.map e.wire
  if b.getLsbD 7 then (countPort p incMalformed s, x.2)
  else
    match m.action with
    | .own => (countWire incOwnDrop s, x.2)
    | .pass => (recordEntry e s, x.2 ++ [e])
    | .track => if m.dir ≠ arrivesOn p then (countWire incMisdirected s, x.2) else (recordEntry e s, x.2 ++ [e])
    | .consume => if m.dir ≠ arrivesOn p then (countWire incMisdirected s, x.2) else (recordEntry e s, x.2)
    | .hold =>
      if m.dir ≠ arrivesOn p then (countWire incMisdirected s, x.2)
      else
        let s := recordEntry e s
        if s.wire.hold = false ∧ s.wire.queue = [] then (s, x.2 ++ [e]) else (holdEntry e s, x.2)

/-- A list with an element put in at a position. -/
def insertAt {α : Type} (n : Nat) (a : α) (l : List α) : List α := l.take n ++ a :: l.drop n

/-- The forwarded frame takes the slot kept for it. Where other internal frames than the drain's took slots of
the same queue meanwhile, its place among them is a free value (assumption 7). `start` is the queue's length
when the arriving frame was taken. -/
def sendForwarded (p : Port) (start : Nat) (f : Frame) (s : State) : State :=
  if (link s p).tx.length = start then queueTx p f s
  else
    let at_ := if Config.keptSlotKeepsPlace s.uses then start else (link s p).tx.length
    (setLink s p { link s p with tx := insertAt at_ f (link s p).tx }).setUses (s.uses + 1)

/-- The transmit slot kept for the outgoing frame (R120). -/
def keepSlot (k : Option Port) (s : State) : State := s.setWire { s.wire with kept := k }

/-- A WIRE frame is handled whole, and the internal frames that waited behind it are offered the slots that are
free (R119, R120, R146). -/
def handleWire (p : Port) (f : Frame) (s : State) : State :=
  let start := (link s p.other).tx.length
  let x := f.payload.foldl (handleEntry p) (keepSlot (some p.other) s, [])
  let s := keepSlot none x.1
  pump (if x.2 = [] then s else sendForwarded p.other start (wireFrame f.tag x.2) s)

/-- WIRE_FRAME_TAKEN (R119). -/
def execWireFrameTaken (s : State) : Host.Outcome State Fault Refusal :=
  whilePowered s (takeNext (fun _ f => decide (f.kind = .wire)) handleWire)

/-! ## DATA frames, misrouted frames and board WAKE frames (R110, R116) -/

/-- A DATA frame is forwarded unchanged, or dropped for its route (R116). -/
def handleData (p : Port) (f : Frame) (s : State) : State :=
  if f.route then countPort p incRouteErr s else queueTx p.other f s

/-- DATA_FRAME_TAKEN (R116). -/
def execDataFrameTaken (s : State) : Host.Outcome State Fault Refusal :=
  whilePowered s (takeNext (fun _ f => decide (f.kind = .data)) handleData)

/-- An MGMT_REQ frame with route 0, or a WAKE frame on the Hub Port (R116). -/
def misrouted (p : Port) (f : Frame) : Bool :=
  (decide (f.kind = .mgmtReq) && !f.route) || (decide (f.kind = .wake) && decide (p = .hub))

/-- MISROUTED_FRAME_DROP (R116). -/
def execMisroutedFrameDrop (s : State) : Host.Outcome State Fault Refusal :=
  whilePowered s (takeNext misrouted fun p _ s => countPort p incRouteErr s)

/-- Wake source of a board wake code 0 to 3 (R110). -/
def boardSource (code : Nat) : Fin 14 := Fin.ofNat 14 (9 + code)

/-- A WAKE frame from the Board Port is taken by the Wake Unit (R110). -/
def handleBoardWake (p : Port) (f : Frame) (s : State) : State :=
  match f.payload with
  | [b] => if b.toNat ≤ 3 then fire (boardSource b.toNat) s else countPort p incMalformed s
  | _ => countPort p incMalformed s

/-- BOARD_WAKE_FRAME (R110). -/
def execBoardWakeFrame (s : State) : Host.Outcome State Fault Refusal :=
  whilePowered s (takeNext (fun p f => decide (f.kind = .wake) && decide (p = .board)) handleBoardWake)

end Sys2Proof.Machine
end

