-- ==== Sys2Proof/Machine/Manage.lean ====
section
/-! DEFINITION. The meanings of the management requests (chapter 10): each is carried out whole when the
classifier takes its frame, and its response is created in the same event. -/

namespace Sys2Proof.Machine

/-! ## Requests and answers (R150, R151, R152) -/

/-- Status codes of a response (R151, R160). -/
inductive Status
  | ok
  | adjusted
  | busy
  | range
  | refused
  | unknownOp
  | badState
  deriving DecidableEq, Repr

/-- Code of a status (R160). -/
def statusCode : Status → Nat
  | .ok => 0
  | .adjusted => 1
  | .busy => 2
  | .range => 3
  | .refused => 4
  | .unknownOp => 5
  | .badState => 6

/-- What carrying out a request gives: the status, the data read and the state. -/
structure Answer where
  status : Status
  data   : List Byte
  state  : State

/-- An answer that changes nothing (R151). -/
def deny (st : Status) (s : State) : Answer := { status := st, data := [], state := s }

/-- An OK answer without data. -/
def done (s : State) : Answer := { status := .ok, data := [], state := s }

/-- The op code of a request payload; 0 for an empty one (R160). -/
def opOf (req : List Byte) : Nat := (byteAt req 0).toNat

/-- The op code is one of the four operations (R160). -/
def opKnown (req : List Byte) : Bool := decide (1 ≤ opOf req) && decide (opOf req ≤ 4)

/-- The agent serves a request: its response waits, on the port of the request (R150, R151). -/
def respond (p : Port) (f : Frame) (a : Answer) : State :=
  let r := responseFrame f.tag (byteAt f.payload 0 :: byteOf (statusCode a.status) :: a.data)
  a.state.setAgent (some { port := p, response := r })

/-- Checks 2 and 3 of R152, then the request itself. -/
def guarded (p : Port) (req : List Byte) (act : List Byte → State → Answer) (s : State) : Answer :=
  if s.psc.state = .loading then deny .busy s
  else if p = .board ∧ 3 ≤ opOf req then deny .refused s
  else act req s

/-- A management request of one row of the table: the frame the classifier takes next is an MGMT_REQ with
route 1 whose payload is of the row; it is carried out with every consequence, then answered (R150). -/
def serve (row : List Byte → Bool) (act : List Byte → State → Answer) (s : State) :
    Host.Outcome State Fault Refusal :=
  whilePowered s
    (takeNext (fun _ f => decide (f.kind = .mgmtReq) && f.route && opKnown f.payload && row f.payload)
      fun p f s =>
        let a := guarded p f.payload act s
        respond p f { a with state := runChain a.state })

/-- UNKNOWN_OP (R152): an empty payload or an unknown op code. -/
def execUnknownOp (s : State) : Host.Outcome State Fault Refusal :=
  whilePowered s
    (takeNext (fun _ f => decide (f.kind = .mgmtReq) && f.route && !opKnown f.payload)
      fun p f s => respond p f (deny .unknownOp s))

/-! ## Reading (R153, R154) -/

/-- The state after a read-out that may hold free values (assumption 4). -/
def used (s : State) : State := s.setUses (s.uses + 1)

/-- READ_STATUS (R153). -/
def readStatusAct (req : List Byte) (s : State) : Answer :=
  if req.length ≠ 1 then deny .range s else { status := .ok, data := statusRecord s, state := used s }

/-- READ_STATUS (R153). -/
def execReadStatus (s : State) : Host.Outcome State Fault Refusal :=
  serve (fun req => decide (opOf req = 1)) readStatusAct s

/-- READ_TABLE (R154). -/
def readTableAct (req : List Byte) (s : State) : Answer :=
  let id := (byteAt req 1).toNat
  let start := (byteAt req 2).toNat
  let count := (byteAt req 3).toNat
  if req.length ≠ 4 || !readOk id start count then deny .range s
  else { status := .ok, data := readData s id start count, state := used s }

/-- READ_TABLE (R154). -/
def execReadTable (s : State) : Host.Outcome State Fault Refusal :=
  serve (fun req => decide (opOf req = 2)) readTableAct s

/-! ## Writing (R152, R155, R156) -/

/-- A WRITE_TABLE request of a table's row: it names the table, or names none of the writable ones, which
the row of any table then answers. -/
def writesTo (t : Table) (req : List Byte) : Bool :=
  decide (opOf req = 3)
    && (match req[1]? with
        | none => true
        | some id => match tableOf id.toNat with
          | none => true
          | some t' => decide (t' = t))

/-- The access window of a table (R155). -/
def windowOpen (t : Table) (s : State) : Bool := decide (t = .wakesrc) || inLevelState s

/-- A slot's status after its record is rewritten (R56). -/
def rewrittenStat (r : RailRec) (st : RailStat) : RailStat :=
  { st with inCount := 0, overCount := 0, outCount := 0, lowCount := 0,
            mV := match r.sense with | .monitored _ => st.mV | .pgline => 0 | .timed _ _ => 0 }

/-- What a stored RAIL record sets going (R56). A changed polarity moves the line to the inactive level of
the new polarity, since the line stays deasserted. -/
def railWritten (slot : Fin 16) (r : RailRec) (s : State) : State :=
  setStat slot (rewrittenStat r (peek s.rails.stat slot)) s

/-- Step 2 of a WAKESRC write: a change of the active level sets the detector afresh from the most recent
sample (R99). -/
def resense (n : Fin 9) (old new : WakeSource) (s : State) : State :=
  if activeHigh old.mode = activeHigh new.mode then s
  else
    let d := setDetector new (peek s.wake.sample n)
    let s := s.setWake { s.wake with det := poke s.wake.det n d }
    if n.val = 8 ∧ d.active = false then s.setWake { s.wake with overrideT := none } else s

/-- Step 4 of a WAKESRC write: an arming change of a level-mode source whose detector is ACTIVE (R99, R103). -/
def rearm (n : Fin 9) (old new : WakeSource) (s : State) : State :=
  if !inMask old.mask s.wake.armed && inMask new.mask s.wake.armed && levelMode new.mode
      && (peek s.wake.det n).active then takeFire (lineSource n) s
  else s

/-- What a stored WAKESRC record sets going, `old` being the record before (R99). -/
def wakeWritten (src : Fin 14) (old new : WakeSource) (s : State) : State :=
  if h : src.val < 9 then rearm ⟨src.val, h⟩ old new (resense ⟨src.val, h⟩ old new s) else s

/-- An accepted write is stored and takes effect (R155). -/
def applyWrite (c : Checked) (s : State) : State :=
  let t := putRecord c s
  match c with
  | .rail slot r _ => railWritten slot r t
  | .wake src e => wakeWritten src (peek s.wake.table src) e t
  | .policy0 _ _ => requestIfChanged (requested s) t
  | .step _ _ => t
  | .trans _ _ => t
  | .wire _ _ => t
  | .policy1 _ => t

/-- The slot of a RAIL write has a verdict other than OFF (R56). -/
def railBusy (c : Checked) (s : State) : Bool :=
  match c with
  | .rail slot _ _ => decide ((peek s.rails.stat slot).verdict ≠ .off)
  | .step _ _ => false
  | .trans _ _ => false
  | .wire _ _ => false
  | .wake _ _ => false
  | .policy0 _ _ => false
  | .policy1 _ => false

/-- Checks 4 to 8 of R152 on a WRITE_TABLE request to a table, and the write. -/
def writeAct (t : Table) (req : List Byte) (s : State) : Answer :=
  let i := (byteAt req 2).toNat
  if tableOf (byteAt req 1).toNat ≠ some t || decide (req.length ≠ 3 + recLen t) || !indexOk t i then deny .range s
  else if !windowOpen t s then deny .busy s
  else
    match checkRecord s t i (req.drop 3) with
    | none => deny .range s
    | some c =>
      if railBusy c s then deny .busy s
      else { status := if c.clamped then .adjusted else .ok, data := [], state := applyWrite c s }

/-- WRITE_TABLE_RAIL (R56). -/
def execWriteTableRail (s : State) : Host.Outcome State Fault Refusal := serve (writesTo .rail) (writeAct .rail) s
/-- WRITE_TABLE_STEP (R23). -/
def execWriteTableStep (s : State) : Host.Outcome State Fault Refusal := serve (writesTo .step) (writeAct .step) s
/-- WRITE_TABLE_TRANSITION (R6). -/
def execWriteTableTransition (s : State) : Host.Outcome State Fault Refusal :=
  serve (writesTo .transition) (writeAct .transition) s
/-- WRITE_TABLE_WIREMAP (R117). -/
def execWriteTableWiremap (s : State) : Host.Outcome State Fault Refusal :=
  serve (writesTo .wiremap) (writeAct .wiremap) s
/-- WRITE_TABLE_WAKESRC (R99). -/
def execWriteTableWakesrc (s : State) : Host.Outcome State Fault Refusal :=
  serve (writesTo .wakesrc) (writeAct .wakesrc) s
/-- WRITE_TABLE_POLICY (R3). -/
def execWriteTablePolicy (s : State) : Host.Outcome State Fault Refusal :=
  serve (writesTo .policy) (writeAct .policy) s

/-! ## Control commands (R157, R158) -/

/-- A CONTROL request of a command's row: it carries the command code, or none of the eight codes, which
the row of any command then answers. -/
def controls (code : Nat) (req : List Byte) : Bool :=
  decide (opOf req = 4)
    && (match req[1]? with
        | none => true
        | some c => decide (c.toNat = code) || decide (c.toNat = 0) || decide (8 < c.toNat))

/-- Checks 4 and 5 of R152 on a CONTROL request, and the command. -/
def controlAct (code : Nat) (act : State → Answer) (req : List Byte) (s : State) : Answer :=
  if req.length ≠ 2 || decide ((byteAt req 1).toNat ≠ code) then deny .range s else act s

/-- HALT: halt-pending is set while the Normal channel is RUNNING (R49). -/
def haltAct (s : State) : Answer :=
  match s.psc.state with
  | .transit | .backout => done (s.setEng { s.eng with norm := { s.eng.norm with haltPending := true } })
  | .halted => done s
  | .loading | .working | .suspend | .hibernate | .softOff | .urgent => deny .badState s

/-- HALT (R49). -/
def execHalt (s : State) : Host.Outcome State Fault Refusal := serve (controls 1) (controlAct 1 haltAct) s

/-- The state a halted PSC returns to (R17). -/
def resumedState : Option HaltedFrom → PscState
  | some .backout => .backout
  | some .transit => .transit
  | none => .transit

/-- Step 2 of CONTINUE: the slot is cleared and its value taken as a request event (R17). -/
def continueSlot (s : State) : State :=
  match s.psc.slot with
  | none => s
  | some q => requestEvent q (s.setPsc { s.psc with slot := none })

/-- Step 3 of CONTINUE: unless back-out began, the run due begins (R17, R51). -/
def resumeRun (s : State) : State :=
  if s.eng.norm.st = .halted then
    s.setEng { s.eng with norm := { s.eng.norm with st := .running }, due := .beginRun s.eng.norm.rerunDue }
  else s

/-- CONTINUE (R17, R51). -/
def continueAct (s : State) : Answer :=
  if s.psc.state = .halted then
    let s := s.setPsc { s.psc with state := resumedState s.psc.haltedFrom, haltedFrom := none }
    done (resumeRun (continueSlot s))
  else deny .badState s

/-- CONTINUE (R51). -/
def execContinueRun (s : State) : Host.Outcome State Fault Refusal := serve (controls 2) (controlAct 2 continueAct) s

/-- Step mode turned on or off (R50). -/
def stepModeAct (on : Bool) (s : State) : Answer := done (s.setEng { s.eng with stepMode := on })

/-- STEP_MODE_ON (R50). -/
def execStepModeOn (s : State) : Host.Outcome State Fault Refusal :=
  serve (controls 3) (controlAct 3 (stepModeAct true)) s
/-- STEP_MODE_OFF (R50). -/
def execStepModeOff (s : State) : Host.Outcome State Fault Refusal :=
  serve (controls 4) (controlAct 4 (stepModeAct false)) s

/-- CLEAR_FAULT: the Fault Record and the latch are cleared (R18, R90). -/
def clearFaultAct (s : State) : Answer :=
  done (clearLatch (s.setFault { first := none, further := 0, urgentFails := 0 }))

/-- CLEAR_FAULT (R90). -/
def execClearFault (s : State) : Host.Outcome State Fault Refusal := serve (controls 5) (controlAct 5 clearFaultAct) s

/-- CLEAR_WAKES: the Pending Wake Queue is emptied (R108). -/
def clearWakesAct (s : State) : Answer := done (s.setWake { s.wake with queue := [] })

/-- CLEAR_WAKES (R108). -/
def execClearWakes (s : State) : Host.Outcome State Fault Refusal := serve (controls 6) (controlAct 6 clearWakesAct) s

/-- CLEAR_FLAGS (R158). -/
def clearFlagsAct (s : State) : Answer :=
  let s := s.setPsc { s.psc with unsupported := false }
  let s := s.setWake { s.wake with overflow := false }
  let s := s.setWire { s.wire with overflowFlag := false }
  let s := s.setClock { s.clock with fallback := false, soLost := s.clock.soLost && decide (s.clock.source = .rc) }
  done (s.setLoader { s.loader with imageBad := false })

/-- CLEAR_FLAGS (R158). -/
def execClearFlags (s : State) : Host.Outcome State Fault Refusal := serve (controls 7) (controlAct 7 clearFlagsAct) s

/-- CLEAR_COUNTERS (R158). -/
def clearCountersAct (s : State) : Answer :=
  let s := s.setHub { s.hub with counters := zeroCounters }
  let s := s.setBoard { s.board with counters := zeroCounters }
  let s := s.setWire { s.wire with misdirected := 0, ownDrop := 0, holdOverflow := 0, collapse := 0 }
  let s := s.setRails { s.rails with stat := s.rails.stat.map fun x => { x with lost := 0 } }
  let s := s.setWake { s.wake with missed := Vector.replicate 14 0 }
  let s := s.setClock { s.clock with lockChanges := 0 }
  done (s.setLoader { s.loader with warnings := 0 })

/-- CLEAR_COUNTERS (R158). -/
def execClearCounters (s : State) : Host.Outcome State Fault Refusal :=
  serve (controls 8) (controlAct 8 clearCountersAct) s

end Sys2Proof.Machine
end

