-- ==== Sys2Proof/Machine/Dispatch.lean ====
section
/-! DEFINITION. The meaning of each command, one arm per row of the opcode table. -/

namespace Sys2Proof.Machine

def exec (i : Instr) (s : State) : Host.Outcome State Fault Refusal :=
  match i with
  | .standbyPowerOnReset => Sys2Proof.Machine.execStandbyPowerOnReset s
  | .imageHeaderRead fmt countLo countHi => Sys2Proof.Machine.execImageHeaderRead fmt countLo countHi s
  | .imageRecordRead tid index data => Sys2Proof.Machine.execImageRecordRead tid index data s
  | .endOfTheLoad crcHi crcLo lines => Sys2Proof.Machine.execEndOfTheLoad crcHi crcLo lines s
  | .tickBoundary lines => Sys2Proof.Machine.execTickBoundary lines s
  | .soLoss rcPeriods lines => Sys2Proof.Machine.execSoLoss rcPeriods lines s
  | .soReturn p1 p2 p3 p4 lines => Sys2Proof.Machine.execSoReturn p1 p2 p3 p4 lines s
  | .loopWindowEnd count => Sys2Proof.Machine.execLoopWindowEnd count s
  | .scanPass slots => Sys2Proof.Machine.execScanPass slots s
  | .settleTimerExpiry slot => Sys2Proof.Machine.execSettleTimerExpiry slot s
  | .drainTimerExpiry slot => Sys2Proof.Machine.execDrainTimerExpiry slot s
  | .detectorSample source order => Sys2Proof.Machine.execDetectorSample source order s
  | .overrideTimerExpiry => Sys2Proof.Machine.execOverrideTimerExpiry s
  | .pfailSample => Sys2Proof.Machine.execPfailSample s
  | .stepTimerExpiry => Sys2Proof.Machine.execStepTimerExpiry s
  | .waitGoodCompletes => Sys2Proof.Machine.execWaitGoodCompletes s
  | .waitOffCompletes => Sys2Proof.Machine.execWaitOffCompletes s
  | .waitLineCompletes => Sys2Proof.Machine.execWaitLineCompletes s
  | .clockUpCompletes count => Sys2Proof.Machine.execClockUpCompletes count s
  | .releaseCompletes => Sys2Proof.Machine.execReleaseCompletes s
  | .endCompletes => Sys2Proof.Machine.execEndCompletes s
  | .frameReceptionBegins port rested => Sys2Proof.Machine.execFrameReceptionBegins port rested s
  | .frameArrival port bytes framingFault => Sys2Proof.Machine.execFrameArrival port bytes framingFault s
  | .sendCompletion port => Sys2Proof.Machine.execSendCompletion port s
  | .wireFrameTaken => Sys2Proof.Machine.execWireFrameTaken s
  | .dataFrameTaken => Sys2Proof.Machine.execDataFrameTaken s
  | .misroutedFrameDrop => Sys2Proof.Machine.execMisroutedFrameDrop s
  | .boardWakeFrame => Sys2Proof.Machine.execBoardWakeFrame s
  | .drainFrameTakesSlot => Sys2Proof.Machine.execDrainFrameTakesSlot s
  | .sendWireFrameTakesSlot => Sys2Proof.Machine.execSendWireFrameTakesSlot s
  | .internalFrameTakesSlot port => Sys2Proof.Machine.execInternalFrameTakesSlot port s
  | .mgmtResponseTakesSlot => Sys2Proof.Machine.execMgmtResponseTakesSlot s
  | .lrstAsserted endFirst => Sys2Proof.Machine.execLrstAsserted endFirst s
  | .lrstReleased wiresFirst => Sys2Proof.Machine.execLrstReleased wiresFirst s
  | .unknownOp => Sys2Proof.Machine.execUnknownOp s
  | .readStatus => Sys2Proof.Machine.execReadStatus s
  | .readTable => Sys2Proof.Machine.execReadTable s
  | .writeTableRail => Sys2Proof.Machine.execWriteTableRail s
  | .writeTableStep => Sys2Proof.Machine.execWriteTableStep s
  | .writeTableTransition => Sys2Proof.Machine.execWriteTableTransition s
  | .writeTableWiremap => Sys2Proof.Machine.execWriteTableWiremap s
  | .writeTableWakesrc => Sys2Proof.Machine.execWriteTableWakesrc s
  | .writeTablePolicy => Sys2Proof.Machine.execWriteTablePolicy s
  | .halt => Sys2Proof.Machine.execHalt s
  | .continueRun => Sys2Proof.Machine.execContinueRun s
  | .stepModeOn => Sys2Proof.Machine.execStepModeOn s
  | .stepModeOff => Sys2Proof.Machine.execStepModeOff s
  | .clearFault => Sys2Proof.Machine.execClearFault s
  | .clearWakes => Sys2Proof.Machine.execClearWakes s
  | .clearFlags => Sys2Proof.Machine.execClearFlags s
  | .clearCounters => Sys2Proof.Machine.execClearCounters s
  | .standbyPowerFall => Sys2Proof.Machine.execStandbyPowerFall s

end Sys2Proof.Machine
end

