-- ==== Sys2Proof/Machine/Step.lean ====
section
/-! DEFINITION. One step of the part: the command at the front of its queue, with the queue's rest. -/

namespace Sys2Proof.Machine

/-- One step: the command at the front of the queue is carried out with the rest of the queue waiting;
with an empty queue the part idles (assumption 2). -/
def step (s : State) : Host.Outcome State Fault Refusal :=
  match s.pending with
  | [] => .next s
  | c :: rest => exec c (s.setPending rest)

/-- The command a word of the opcode table spells, put at the front of the queue; the state unchanged
where the word spells none (assumption 1). -/
def State.withFetchWord (s : State) (nbits w : Nat) : State :=
  match decodeTableWord nbits w with
  | some c => s.setPending (c :: s.pending)
  | none => s

end Sys2Proof.Machine
end

