-- ==== Sys2Proof/Safety.lean ====
section
/-! DEFINITION. What the claims speak of: the part between two events, the invariants of its blocks,
and the state a step's end leaves in step mode. -/

namespace Sys2Proof.Machine

/-- The part between two events: standby power stands and the engine has nothing left to do (R25, R135). -/
abbrev AtRest (s : State) : Prop := s.powered = true ∧ s.eng.due = .nothing

/-! ## Clock Unit -/

/-- The Clock Unit's states that go together: the core clock mode with the loop and LOCKED (R133, R131), the
tick source with loss detection (R130), and a window only while the loop runs under the standby
oscillator; four good windows only with LOCKED (R131). -/
abbrev ClockInv (c : Clock) : Prop :=
  (c.mode = .fastLoop ↔ c.locked = true) ∧ (c.mode = .slow ↔ c.loop = .off) ∧
    (c.locked = true → c.loop = .tracking) ∧ (c.lossArmed = true ↔ c.source = .so) ∧
    (c.window.isSome = true → c.source = .so ∧ c.loop ≠ .off) ∧ c.good ≤ 4 ∧
    (c.locked = false → c.good ≤ 3) ∧ c.lockChanges ≤ 255

/-! ## Fault Record and Wake Unit -/

/-- The Fault Record's counts stay at most 255, and no further fault stands without a first one (R91). -/
abbrev FaultInv (f : FaultRecord) : Prop :=
  f.further ≤ 255 ∧ f.urgentFails ≤ 255 ∧ (f.first = none → f.further = 0)

/-- The Pending Wake Queue holds at most 8 entries, no two of one source, with counts 1 to 255; the missed
counts stay at most 255 (R108, R109). -/
abbrev WakeInv (w : Wake) : Prop :=
  w.queue.length ≤ 8 ∧ (w.queue.map WakeEntry.source).Nodup ∧
    (∀ e ∈ w.queue, 1 ≤ e.count ∧ e.count ≤ 255) ∧ ∀ n : Fin 14, peek w.missed n ≤ 255

/-! ## Ports and the Hold Queue -/

/-- A port's queues keep their capacities (R142, R145, R146), and are empty while `held` in reset (R147). -/
abbrev LinkInv (held : Bool) (l : Link) : Prop :=
  rxInUse l ≤ 4 ∧ l.tx.length ≤ 8 ∧ noticesWaiting l ≤ 16 ∧
    (held = true → l.rx = [] ∧ l.receiving = none ∧ l.tx = [] ∧ l.waiting = [])

/-- The queues of the link ports and of the Traffic Classifier between events: no slot is kept for a frame
being formed, the Hold Queue holds at most 16 entries (R122), and WAKE notices wait at the Hub Port only. -/
abbrev QueueInv (s : State) : Prop :=
  LinkInv (s.powered && s.lrst) s.hub ∧ LinkInv (s.powered && s.lrst) s.board ∧ noticesWaiting s.board = 0 ∧
    s.wire.kept = none ∧ s.wire.queue.length ≤ 16

/-! ## The PSC and the two channels (R1, R2, R42) -/

/-- Both channels IDLE, nothing awaited, hold lifted, the Hold Queue empty, the commit flag clear and the
next-request slot absent (R2, R42, R121, R122). -/
abbrev Settled (s : State) : Prop :=
  s.eng.norm.st = .idle ∧ s.eng.urg.running = false ∧ s.eng.wait = .none ∧ s.wire.hold = false ∧
    s.wire.queue = [] ∧ s.psc.commit = false ∧ s.psc.slot = none

/-- The Normal channel RUNNING at a waiting step, the Urgent channel IDLE, the gate open and a report open
(R1, R25). -/
abbrev NormalRuns (s : State) : Prop :=
  s.eng.norm.st = .running ∧ s.eng.urg.running = false ∧ s.eng.wait = .step ∧ s.psc.gateClosed = false ∧
    s.eng.inflight.isOpen = true

/-- What each PSC state says of the fields of the PSC and of the two channels (R1, R2, R42). -/
def stateRelation (s : State) : Prop :=
  match s.psc.state with
  | .loading =>
    Settled s ∧ s.psc.gateClosed = false ∧ ∀ n : Fin 16, (peek s.rails.stat n).verdict = .off
  | .working => Settled s ∧ s.psc.current = .working ∧ s.psc.target = .working ∧ s.psc.gateClosed = false
  | .suspend => Settled s ∧ s.psc.current = .suspend ∧ s.psc.target = .suspend ∧ s.psc.gateClosed = false
  | .hibernate => Settled s ∧ s.psc.current = .hibernate ∧ s.psc.target = .hibernate ∧ s.psc.gateClosed = false
  | .softOff => Settled s ∧ s.psc.current = .softOff ∧ s.psc.target = .softOff
  | .transit => NormalRuns s
  | .backout => NormalRuns s ∧ s.psc.commit = false
  | .urgent =>
    s.eng.norm.st = .idle ∧ s.eng.urg.running = true ∧ s.eng.urg.kind.isSome = true ∧ s.eng.wait ≠ .none ∧
      s.psc.gateClosed = true ∧ s.psc.target = .softOff ∧ s.psc.commit = false ∧ s.wire.hold = false ∧
      s.eng.inflight.isOpen = true
  | .halted =>
    s.eng.norm.st = .halted ∧ s.eng.urg.running = false ∧ s.eng.wait = .none ∧ s.psc.gateClosed = false ∧
      s.psc.haltedFrom.isSome = true ∧ s.eng.inflight.isOpen = true ∧
      (s.psc.haltedFrom = some .backout → s.psc.commit = false)

/-- The PSC and the channels between events: the engine at rest, the relation of the PSC state, LOADING
exactly while the image load is not finished, the halted-from state present only in HALTED, and a waiting
END with hold lifted (R1, R2, R28, R42). -/
def PscInv (s : State) : Prop :=
  s.eng.due = .nothing ∧ stateRelation s ∧ (s.psc.state = .loading ↔ s.loader.phase ≠ .done) ∧
    (s.psc.state ≠ .halted → s.psc.haltedFrom = none) ∧
    (s.eng.wait = .step → s.eng.cur.kind = .endList → s.wire.hold = false)

/-! ## Rails (R55, R57, R60, R61) -/

/-- The counts of a rail's status stay below the acting filter, and a count other than 0 stands only under the
verdict that uses it (R62, R64, R65, R77, R78, R79). -/
abbrev CountsInRange (f : Nat) (x : RailStat) : Prop :=
  (x.inCount < f ∧ x.overCount < f ∧ x.outCount < f ∧ x.lowCount < f) ∧
    (x.verdict ≠ .rising → x.inCount = 0 ∧ x.overCount = 0) ∧ (x.verdict ≠ .good → x.outCount = 0) ∧
    (x.verdict ≠ .draining → x.lowCount = 0)

/-- The rail has no sense input (R65). -/
def isNoneRail (r : RailRec) : Bool :=
  match r.sense with
  | .timed _ _ => true
  | .monitored _ => false
  | .pgline => false

/-- One rail between events: its enable line undriven exactly during the image load and asserted exactly under
RISING, GOOD and LOST (R57, R60, R61), a timer running exactly on a NONE rail under RISING or DRAINING (R62,
R65, R66), a NONE rail never LOST (R65), and its counts in range. -/
abbrev RailRelation (loading : Bool) (r : RailRec) (x : RailStat) : Prop :=
  (x.en = .undriven ↔ loading = true) ∧
    (x.en = .asserted ↔ x.verdict = .rising ∨ x.verdict = .good ∨ x.verdict = .lost) ∧
    (x.timer.isSome = true ↔ isNoneRail r = true ∧ (x.verdict = .rising ∨ x.verdict = .draining)) ∧
    (isNoneRail r = true → x.verdict ≠ .lost) ∧ CountsInRange (actingFilter r.filter) x ∧ x.lost ≤ 255

/-- Every rail between events. -/
def RailInv (s : State) : Prop :=
  ∀ n : Fin 16, RailRelation (decide (s.psc.state = .loading)) (peek s.rails.table n) (peek s.rails.stat n)

/-! ## A step's end in step mode -/

/-- The Normal channel waits in a step of kind `k` below index 255, in step mode, in a transition or a
back-out: the end of the step is then a halt (R48, R50). -/
abbrev SteppingIn (s : State) (k : StepKind) : Prop :=
  AtRest s ∧ s.eng.norm.st = .running ∧ s.eng.urg.running = false ∧ s.eng.wait = .step ∧ s.eng.cur.kind = k ∧
    s.eng.stepMode = true ∧ s.eng.norm.idx.val < 255 ∧ (s.psc.state = .transit ∨ s.psc.state = .backout)

/-- The index after the step in progress. -/
def nextIndex (s : State) : Fin 256 := Fin.ofNat 256 (s.eng.norm.idx.val + 1)

/-- The state in which a step of the Normal channel that leads on has ended in step mode: the step commits
where it carries the flag and stands in a main list (R14), and the channel is HALTED before the next
step (R17, R48). -/
def haltedAfter (s : State) : State :=
  let c := s.eng.cur.commit && decide (s.psc.state = .transit)
  let e := s.eng
  let n := e.norm
  (s.setEng { e with
      norm := { n with st := .halted, idx := nextIndex s, haltPending := false, rerunDue := false },
      wait := .none, due := .nothing,
      inflight := { e.inflight with committed := e.inflight.committed || c } }).setPsc
    { s.psc with state := .halted, commit := s.psc.commit || c,
                 haltedFrom := some (if s.psc.state = .backout then .backout else .transit) }

end Sys2Proof.Machine
end

