-- ==== Sys2Proof/Certificates/Slice0/Obligations.lean ====
section
/-! DEFINITION. The statements put to the provers, in the order of the manual's chapters after the part as
a whole: power, image, clocks, rails, wakes, steps, links, traffic, requests, and the invariants that every
step keeps. Each docstring names the rules a statement follows. -/

open Sys2Proof Sys2Proof.Machine

/-! ## Forms that several statements share -/

/-- A report with a failure at step `i` handled as CONTINUE: one warning more, and the first failure written if
none stands (R43). -/
def warned (i : Fin 256) (k : FailKind) (r : Report) : Report :=
  { r with warnings := min 255 (r.warnings + 1),
           firstFailure := if r.firstFailure.isSome then r.firstFailure else some { step := i, kind := k } }

/-- What a state in which an urgent list of kind `k` has just begun at index `i`, and waits there, holds, `s`
being the state before the trigger (R83, R85). -/
abbrev RunsUrgent (k : UrgKind) (i : Fin 256) (s t : State) : Prop :=
  t.psc.state = .urgent ∧ t.psc.target = .softOff ∧ t.psc.current = s.psc.current ∧ t.psc.gateClosed = true ∧
    t.psc.slot = s.psc.slot ∧ t.eng.urg.running = true ∧ t.eng.urg.kind = some k ∧ t.eng.urg.idx = i ∧
    t.eng.urg.start = s.clock.tick ∧ t.eng.wait = .step ∧ t.eng.cur = peek s.eng.steps i ∧ t.eng.due = .nothing ∧
    t.eng.inflight.isOpen = true ∧ t.eng.inflight.origin = .urgent k ∧ t.eng.inflight.steps = 1 ∧
    t.eng.steps = s.eng.steps ∧ t.rails = s.rails ∧ t.agent = s.agent ∧ t.loader = s.loader ∧
    t.wake.queue = s.wake.queue ∧ t.wake.armed = s.wake.armed

/-- A step record that waits for the whole of a duration other than 0. -/
abbrev LongDelay (r : StepRec) : Prop := r.kind = .delay ∧ r.time.value ≠ 0

/-- A WAKE notice created: none under LRST (R107, R113); one more NOTICE_LOST while 16 wait (R146); else in the Hub
Port's transmit queue where a slot is free, and behind the frames that wait where none is. -/
def noticed (src : Fin 14) (s : State) : State :=
  let l := s.hub
  if s.lrst then s
  else if 16 ≤ noticesWaiting l then
    s.setHub { l with counters := { l.counters with noticeLost := min 65535 (l.counters.noticeLost + 1) } }
  else if l.tx.length < 8 then s.setHub { l with tx := l.tx ++ [noticeFrame src] }
  else s.setHub { l with waiting := l.waiting ++ [.notice src] }

/-- What a fire of a source does at an Armed Level below WORKING, or discarded, or announced alone in WORKING: the
whole of R104, R105 and R106, with the notice of R107. -/
def fired (src : Fin 14) (s : State) : State :=
  let w := s.wake
  if (peek w.table src).mask.getLsbD (levelCode w.armed).val = false then s
  else if w.armed = .working then noticed src s
  else if src ∈ w.queue.map WakeEntry.source then
    s.setWake { w with queue := w.queue.map fun e =>
      if e.source = src then { e with count := min 255 (e.count + 1) } else e }
  else if w.queue.length < 8 then
    noticed src (s.setWake { w with queue := w.queue ++ [{ source := src, first := s.clock.tick, count := 1 }] })
  else
    s.setWake { w with missed := poke w.missed src (min 255 (peek w.missed src + 1)), overflow := true }

/-- No port has a free slot and a frame waiting for it at once: under LRST there is no free slot, and else every
frame that waits does so at a full transmit queue, no slot being kept (R146, R147). -/
abbrev SlotsOffered (s : State) : Prop :=
  s.lrst = true ∨ s.wire.kept = none ∧ (s.hub.waiting = [] ∨ 8 ≤ s.hub.tx.length) ∧
    (s.board.waiting = [] ∨ 8 ≤ s.board.tx.length)

/-- The Hub Port would give a free slot to a notice at once: LRST released, a slot free and none kept, and no
internal frame waiting at either port (R146). -/
abbrev HubOpen (s : State) : Prop :=
  s.lrst = false ∧ s.hub.tx.length < 8 ∧ s.wire.kept = none ∧ s.hub.waiting = [] ∧ s.board.waiting = []

/-- The Hold Queue with hold lifted whose entries, 1 to 8 of them, all go in direction `d`, its drain frame first
of the port's waiting frames at a free slot, and no frame waiting at the other port (R124, R146). That the frame
carries the entries that joined while it waited too is a DESIGN CHOICE (assumption 29). -/
abbrev LastDrain (s : State) (d : Direction) : Prop :=
  s.wire.hold = false ∧ s.wire.queue ≠ [] ∧ s.wire.queue.length ≤ 8 ∧ (∀ e ∈ s.wire.queue, wireDir s e.wire = d) ∧
    (link s (portOf d)).waiting = [.drain] ∧ (link s (portOf d)).tx.length < 8 ∧
    (link s (portOf d).other).waiting = [] ∧ s.lrst = false ∧ s.wire.kept = none

/-- The state once that drain frame has taken its slot: route 0, tag 0 and the entries in queue order, which
have left the queue (R124). -/
def drained (s : State) (d : Direction) : State :=
  let l := link s (portOf d)
  let f : Frame := { kind := .wire, route := false, bit6 := false, tag := 0, payload := s.wire.queue.map entryByte }
  (setLink s (portOf d) { l with waiting := [], tx := l.tx ++ [f] }).setWire { s.wire with queue := [] }

/-- The drain frame is first of the frames that wait at the port of the head entry's direction `d`, at a free slot, and is
the only one; the queue, with hold lifted, is `es` followed by `back`, where `es` is the head entry and the entries
after it for as long as each goes in direction `d`, up to 8 (R124, R146). That `es` takes in the entries that joined
while the frame waited is a DESIGN CHOICE (assumption 29). -/
abbrev DrainReady (s : State) (d : Direction) (es back : List WireLevel) : Prop :=
  s.wire.hold = false ∧ s.wire.queue = es ++ back ∧ es ≠ [] ∧ es.length ≤ 8 ∧ (∀ e ∈ es, wireDir s e.wire = d) ∧
    (es.length = 8 ∨ ∀ x ∈ back.head?, wireDir s x.wire ≠ d) ∧ (link s (portOf d)).waiting.head? = some .drain ∧
    Internal.drain ∉ (link s (portOf d)).waiting.tail ∧ Internal.drain ∉ (link s (portOf d).other).waiting ∧
    (link s (portOf d)).tx.length < 8 ∧ s.lrst = false ∧ s.wire.kept = none

/-- The state once that drain frame has taken its slot: route 0, tag 0 and the entries `es` in queue order, which have
left the queue, `back` staying in order; and while entries remain, a new drain frame waits behind the other frames
of the port of the new head's direction (R124, R146). -/
def drainedPart (s : State) (d : Direction) (es back : List WireLevel) : State :=
  let l := link s (portOf d)
  let f : Frame := { kind := .wire, route := false, bit6 := false, tag := 0, payload := es.map entryByte }
  let t := (setLink s (portOf d) { l with waiting := l.waiting.tail, tx := l.tx ++ [f] }).setWire
    { s.wire with queue := back }
  match back with
  | [] => t
  | x :: _ =>
    let p := portOf (wireDir s x.wire)
    setLink t p { link t p with waiting := (link t p).waiting ++ [.drain] }

/-- The state in which a request is refused: a report that opened and closed at once (R8, R53). -/
def refusedBy (l q : Level) (o : ReportOutcome) (s : State) : State :=
  let r := { emptyReport with
    origin := .entry (entryIndex l q), fromLevel := l, toLevel := q, outcome := some o,
    startTick := s.clock.tick, endTick := some s.clock.tick }
  s.setEng { s.eng with inflight := r, last := r }

/-- The state in which the transition from level `l` to level `q` has started, where the first step of its main
list waits: TRANSIT with hold active, a new report with one step executed, and the Normal channel at the
entry's main start from this tick (R9, R26, R52, R53). -/
def begun (l q : Level) (s : State) : State :=
  let i := entryIndex l q
  let x := (peek s.psc.trans i).mainStart
  ((s.setPsc { s.psc with state := .transit, target := q, commit := false }).setWire
    { s.wire with hold := true }).setEng
    { s.eng with
      cur := peek s.eng.steps x, wait := .step, due := .nothing,
      norm := { s.eng.norm with
        st := .running, origin := some { entry := i, backout := false }, idx := x, ran := x, retries := 0,
        start := s.clock.tick, rerunDue := false },
      inflight := { emptyReport with
        isOpen := true, origin := .entry i, fromLevel := l, toLevel := q, startTick := s.clock.tick, steps := 1 } }

/-- The entry of the Transition Table is present, and its main list begins with a DELAY. -/
abbrev EntryDelays (s : State) (l q : Level) : Prop :=
  (peek s.psc.trans (entryIndex l q)).present = true ∧
    LongDelay (peek s.eng.steps (peek s.psc.trans (entryIndex l q)).mainStart)

/-- The state in which back-out has begun from TRANSIT with no PULSE and no SEND_WIRE in progress, where the first step
of the back-out list waits: BACKOUT toward the from-level, the slot clear, hold, halt-pending and the report kept
but for one step more, and the Normal channel at the entry's back-out start from this tick (R11, R26, R52). -/
def backedOut (s : State) : State :=
  let i := entryIndex s.psc.current s.psc.target
  let x := (peek s.psc.trans i).backout.value
  (s.setPsc { s.psc with state := .backout, target := s.psc.current, slot := none }).setEng
    { s.eng with
      cur := peek s.eng.steps x, wait := .step, due := .nothing,
      norm := { s.eng.norm with
        st := .running, origin := some { entry := i, backout := true }, idx := x, ran := x, retries := 0,
        start := s.clock.tick, rerunDue := false },
      inflight := { s.eng.inflight with steps := min 65535 (s.eng.inflight.steps + 1) } }

/-- A request event with value `q` may begin back-out in TRANSIT (R10). -/
abbrev MayBackOut (s : State) (q : Level) : Prop :=
  q = s.psc.current ∧ s.psc.commit = false ∧
    (peek s.psc.trans (entryIndex s.psc.current s.psc.target)).backout.present = true

/-- A request event with value `q`, taken in state `s`, leads to the answer `answer` of the state the rules give: the
slot cleared or filled in TRANSIT, BACKOUT, URGENT and HALTED (R10, R12, R17); back-out, shown where its list begins
with a DELAY and no PULSE or SEND_WIRE is in progress (R11); and in a level state nothing for the level held, the
slot cleared behind a closed gate, a refusal with its report (R7, R8), or the start of the transition, shown where
its main list begins with a DELAY (R9). -/
abbrev RequestTaken (q : Level) (s : State) (answer : State → Prop) : Prop :=
  ((s.psc.state = .backout ∨ s.psc.state = .urgent ∨ s.psc.state = .halted ∨
      s.psc.state = .transit ∧ q ≠ s.psc.target ∧ ¬MayBackOut s q) →
    answer (s.setPsc { s.psc with slot := some q })) ∧
  (s.psc.state = .transit → q = s.psc.target → answer (s.setPsc { s.psc with slot := none })) ∧
  (s.psc.state = .transit → q ≠ s.psc.target → MayBackOut s q → s.eng.urg.running = false →
    (s.eng.wait = .none ∨ s.eng.cur.kind ≠ .pulse ∧ s.eng.cur.kind ≠ .sendWire) →
    LongDelay (peek s.eng.steps (peek s.psc.trans (entryIndex s.psc.current s.psc.target)).backout.value) →
    answer (backedOut s)) ∧
  ∀ l : Level, s.psc.state = levelState l →
    (s.psc.gateClosed = true → q ≠ .softOff → answer (s.setPsc { s.psc with slot := none })) ∧
    (s.psc.gateClosed = false → q = l → answer s) ∧
    (s.psc.gateClosed = false → q ≠ l → q = .working → s.psc.latch = true → answer (refusedBy l q .latched s)) ∧
    (s.psc.gateClosed = false → q ≠ l → ¬(q = .working ∧ s.psc.latch = true) →
      (peek s.psc.trans (entryIndex l q)).present = false →
      answer ((refusedBy l q .unsupported s).setPsc { s.psc with unsupported := true })) ∧
    (s.psc.gateClosed = false → q ≠ l → ¬(q = .working ∧ s.psc.latch = true) → EntryDelays s l q →
      s.eng.urg.running = false → answer (begun l q s))

/-- The state in which a list of the Normal channel has settled in its target level, other than WORKING, with an absent
slot and no source armed by the move: the channel is IDLE, the current level and the Armed Level are the target, the
report closes COMPLETED or BACKED_OUT and is copied to the last report, and a pending halt is cleared (R15, R49).
The absent origin of the IDLE channel is DEDUCED (assumption 16). -/
def settledNorm (s : State) : State :=
  let x := s.psc.target
  let report := { s.eng.inflight with
    isOpen := false, outcome := some (if s.psc.state = .backout then .backedOut else .completed),
    endTick := some s.clock.tick }
  ((s.setPsc
    { s.psc with state := levelState x, current := x, target := x, commit := false, haltedFrom := none,
                 slot := none }).setWake { s.wake with armed := x }).setEng
    { s.eng with
      wait := .none, due := .nothing, inflight := report, last := report,
      norm := { s.eng.norm with st := .idle, origin := none, idx := s.eng.norm.ran, haltPending := false } }

/-- The state in which the gate's closing or opening has recorded the off-notice wire of Policy at a level and
sent it in a one-entry WIRE frame of the Hub Port, with no other frame waiting: at once while a slot is free,
else the frame waits for one, and under LRST there is none (R19, R20, R125, R146, R147). -/
def offNoticed (b : Bool) (s : State) : State :=
  let o := s.psc.policy0.offNotice
  let t := s.setWire { s.wire with level := poke s.wire.level o.value b }
  let f : Frame :=
    { kind := .wire, route := false, bit6 := false, tag := 0, payload := [byteOf (o.value.val + if b then 64 else 0)] }
  if o.present = false then s
  else if s.lrst then t
  else if s.hub.tx.length < 8 then t.setHub { s.hub with tx := s.hub.tx ++ [f] }
  else t.setHub { s.hub with waiting := [.wires [{ wire := o.value, level := b }]] }

/-- The state after the restore action in SOFT_OFF, with an empty Pending Wake Queue: source 13 queued and announced
under POWER_ON, and under LAST_STATE when the restore-on mark is yes, and both marks cleared (R22). -/
def restored (s : State) : State :=
  let t := s.setPsc { s.psc with pendingRestore := false, restoreOn := false }
  if s.psc.policy0.restore = .powerOn ∨ s.psc.policy0.restore = .lastState ∧ s.psc.restoreOn = true then
    noticed 13 (t.setWake { s.wake with queue := [{ source := 13, first := s.clock.tick, count := 1 }] })
  else t

/-- The state in which the Urgent channel has settled in SOFT_OFF with outcome `o`, with an empty Pending Wake Queue and
no source armed by the move: the slot cleared unserved, the report closed and copied, the gate open with the
off-notice wire at level 0 exactly when SOFT_OFF is requested, and a pending restore action taken (R15, R16, R20,
R22, R89). Index and kind of the IDLE channel are DEDUCED (assumption 16). -/
def settledUrgent (o : ReportOutcome) (s : State) : State :=
  let report := { s.eng.inflight with isOpen := false, outcome := some o, endTick := some s.clock.tick }
  let ended := ((s.setPsc
    { s.psc with state := .softOff, current := .softOff, target := .softOff, commit := false, haltedFrom := none,
                 slot := none }).setWake { s.wake with armed := .softOff }).setEng
    { s.eng with
      wait := .none, due := .nothing, inflight := report, last := report,
      urg := { s.eng.urg with running := false, kind := none, idx := s.eng.urg.ran } }
  let gate := if requested s = .softOff then offNoticed false (ended.setPsc { ended.psc with gateClosed := false })
    else ended
  if s.psc.pendingRestore then restored gate else gate

/-- The Urgent channel waits for the drain: in an END step, in the wait of the built-in shutdown or in the runaway wait
(R25, R28, R86). -/
abbrev UrgentDrains (s : State) : Prop :=
  s.eng.wait = .step ∧ s.eng.cur.kind = .endList ∨ s.eng.wait = .builtin ∨ s.eng.wait = .runaway

/-- The outcome with which a list of the Urgent channel that waits for the drain closes its report (R25, R89). -/
def urgentOutcome (s : State) : ReportOutcome := if s.eng.wait = .runaway then .runaway else .completed

/-- The state in which a step run of the Urgent channel has led on and the next step, which waits, has begun (R25,
R52). -/
def urgentOn (s : State) : State :=
  let u := s.eng.urg
  let i := Fin.ofNat 256 (u.idx.val + 1)
  s.setEng
    { s.eng with
      cur := peek s.eng.steps i, wait := .step, due := .nothing,
      urg := { u with idx := i, ran := i, start := s.clock.tick },
      inflight := { s.eng.inflight with steps := min 65535 (s.eng.inflight.steps + 1) } }

/-- The state in which a step run of the Urgent channel has failed and the next step, which waits, has begun: the
failure recorded and counted, whatever the step's fail action (R46). -/
def urgentNext (k : FailKind) (s : State) : State :=
  urgentOn ((s.setEng { s.eng with inflight := warned s.eng.urg.idx k s.eng.inflight }).setFault
    { s.fault with urgentFails := min 255 (s.fault.urgentFails + 1) })

/-- The Urgent channel waits in a step of kind `k` below index 255, and the step after it is a DELAY. -/
abbrev UrgentIn (s : State) (k : StepKind) : Prop :=
  AtRest s ∧ s.eng.urg.running = true ∧ s.eng.wait = .step ∧ s.eng.cur.kind = k ∧ s.eng.urg.idx.val < 255 ∧
    LongDelay (peek s.eng.steps (Fin.ofNat 256 (s.eng.urg.idx.val + 1)))

/-- No rail that was scanned where the pass of this boundary began still owes its sample (R71). -/
abbrev PassTaken (s : State) : Prop :=
  s.boundary.passBegun = true → ∀ n : Fin 16, peek s.boundary.scanned n = true → peek s.boundary.rail n = false

/-! ## The part as a whole -/

/-- A step carries out the command at the front of the queue with the rest waiting. The second part, that an
empty queue leaves the part as it is, is the model's choice (assumption 2). -/
def Obligations.StepRunsFrontCommand : Prop :=
  (∀ (c : Instr) (rest : List Instr) (s : State), s.pending = c :: rest → step s = exec c (s.setPending rest)) ∧
    ∀ s : State, s.pending = [] → step s = .next s

/-- The values the manual gives after standby power-on reset, block by block: the PSC in LOADING with the
fields of R2, both channels IDLE (R42), every verdict OFF and every enable and output line undriven (R60,
R57, R34), the Fault Record empty (R90), the Wake Unit idle (R100, R102, R108), hold lifted and the queues
empty (R121, R122, R145), the clocks of R135, the ports not READY (R144), the blank tables (R139), every counter 0
(R69, R109, R128, R149) and every last code 0 (R70). The last clause: a bad image leaves the same blank tables. -/
def Obligations.ResetValues : Prop :=
  let s := State.reset
  (s.psc.state = .loading ∧ s.psc.current = .softOff ∧ s.psc.target = .softOff ∧ s.psc.commit = false ∧
      s.psc.slot = none ∧ s.psc.latch = false ∧ s.psc.gateClosed = false ∧ s.psc.restoreOn = false ∧
      s.psc.pendingRestore = false ∧ s.psc.unsupported = false ∧ s.psc.haltedFrom = none) ∧
    (s.eng.norm.st = .idle ∧ s.eng.urg.running = false ∧ s.eng.norm.origin = none ∧ s.eng.urg.kind = none ∧
      s.eng.norm.idx = 0 ∧ s.eng.urg.idx = 0 ∧ s.eng.norm.retries = 0 ∧ s.eng.norm.start = 0 ∧
      s.eng.urg.start = 0 ∧ s.eng.norm.haltPending = false ∧ s.eng.stepMode = false ∧
      s.eng.inflight.isOpen = false ∧ s.eng.last.isOpen = false) ∧
    ((∀ n : Fin 16, (peek s.rails.stat n).verdict = .off ∧ (peek s.rails.stat n).en = .undriven ∧
        (peek s.rails.table n).present = false) ∧ ∀ n : Fin 8, peek s.pins.out n = none) ∧
    (s.fault.first = none ∧ s.fault.further = 0 ∧ s.fault.urgentFails = 0) ∧
    (s.wake.armed = .softOff ∧ s.wake.queue = [] ∧ s.wake.overflow = false ∧ s.wake.overrideT = none ∧
      s.wake.pfail = { active := false, count := 0 } ∧
      ∀ n : Fin 9, peek s.wake.det n = { active := false, count := 0 }) ∧
    (s.wire.hold = false ∧ s.wire.queue = [] ∧ s.wire.pointer = .hub ∧ (∀ w : Fin 64, peek s.wire.level w = false) ∧
      s.hub.rx = [] ∧ s.hub.tx = [] ∧ s.board.rx = [] ∧ s.board.tx = [] ∧ s.agent = none ∧
      ready s .hub = false ∧ ready s .board = false) ∧
    (s.clock.tick = 0 ∧ s.clock.source = .rc ∧ s.clock.lossArmed = false ∧ s.clock.loop = .acquiring ∧
      s.clock.good = 0 ∧ s.clock.window = none ∧ s.clock.locked = false ∧ s.clock.lockChanges = 0 ∧
      s.clock.mode = .fastRc ∧ s.clock.fallback = false ∧ s.clock.soLost = false) ∧
    (s.loader.imageBad = false ∧ s.loader.warnings = 0) ∧
    ((∀ n : Fin 16, (peek s.rails.table n).activeLow = false ∧ (peek s.rails.table n).critical = false ∧
        (peek s.rails.table n).parent.present = false ∧
        (peek s.rails.table n).sense = .timed { value := 0, unit := .t1 } { value := 0, unit := .t1 }) ∧
      (∀ n : Fin 256, peek s.eng.steps n =
        { kind := .endList, opA := 0, opB := false, time := { value := 0, unit := .t1 }, action := .goOn, retry := 0,
          commit := false }) ∧
      (∀ n : Fin 16, (peek s.psc.trans n).present = false) ∧
      (∀ w : Fin 64, peek s.wire.map w =
        { dir := .down, action := if w.val ≤ 2 then .track else .pass, deflt := false }) ∧
      (∀ n : Fin 14, peek s.wake.table n = { mask := 0, mode := if n.val = 8 then .fall else .rise, width := 0 })) ∧
    (s.psc.policy0.reqSusp = 0 ∧ s.psc.policy0.reqHib = 1 ∧ s.psc.policy0.reqOff = 2 ∧
      s.psc.policy0.offNotice.present = false ∧ s.psc.policy0.restore = .stayOff ∧ s.psc.policy0.trip.present = false ∧
      s.psc.policy0.overrideFor = { value := 128, unit := .t1k } ∧ s.psc.policy0.pfailWidth = 4 ∧
      s.psc.policy0.outMask = 0 ∧ s.psc.policy1.powerfail.present = false ∧ s.psc.policy1.override.present = false ∧
      s.psc.policy1.fault.present = false) ∧
    ((∀ l ∈ [s.hub, s.board], [l.counters.overrun, l.counters.malformed, l.counters.crcErr, l.counters.unknown,
        l.counters.routeErr, l.counters.noticeLost] = [0, 0, 0, 0, 0, 0]) ∧
      [s.wire.misdirected, s.wire.ownDrop, s.wire.holdOverflow, s.wire.collapse] = [0, 0, 0, 0] ∧
      s.wire.overflowFlag = false ∧ (∀ n : Fin 14, peek s.wake.missed n = 0) ∧
      (∀ n : Fin 16, (peek s.rails.stat n).lost = 0 ∧ (peek s.rails.stat n).mV = 0 ∧
        [(peek s.rails.stat n).inCount, (peek s.rails.stat n).overCount, (peek s.rails.stat n).outCount,
          (peek s.rails.stat n).lowCount] = [0, 0, 0, 0]) ∧
      ∀ n : Fin 12, peek s.rails.lastCode n = 0) ∧
    ∀ u : State,
      let b := blankTables u
      b.rails.table = s.rails.table ∧ b.eng.steps = s.eng.steps ∧ b.psc.trans = s.psc.trans ∧
        b.psc.policy0 = s.psc.policy0 ∧ b.psc.policy1 = s.psc.policy1 ∧ b.wire.map = s.wire.map ∧
        b.wake.table = s.wake.table

/-- STANDBY_POWER_ON_RESET puts every block at its reset value, from every state (R135). The level at the LRST
input, the waiting commands and the use counter are kept, the model's choice (assumption 4); the input levels
of `pins` at reset, all low, are the model's choice too (assumption 8). -/
def Obligations.PowerOnResets : Prop :=
  ∀ s : State, ∃ t : State,
    exec .standbyPowerOnReset s = .next t ∧ t.psc = State.reset.psc ∧ t.eng = State.reset.eng ∧
      t.rails = State.reset.rails ∧ t.fault = State.reset.fault ∧ t.wake = State.reset.wake ∧
      t.wire = State.reset.wire ∧ t.hub = State.reset.hub ∧ t.board = State.reset.board ∧ t.agent = none ∧
      t.clock = State.reset.clock ∧ t.loader = State.reset.loader ∧ t.pins = State.reset.pins ∧
      t.boundary = State.reset.boundary ∧ t.powered = true ∧ t.lrst = s.lrst ∧ t.pending = s.pending ∧
      t.uses = s.uses

/-- STANDBY_POWER_FALL ends all activity of the part until the next standby power-on reset (R135). That every field
stays as it was without power, and that the two LRST rows then only move the level at the pin, is DEDUCED
(assumption 23); what a power-on reset keeps is the model's choice (assumption 4). -/
def Obligations.NothingActsWithoutPower : Prop :=
  (∀ s : State, exec .standbyPowerFall s = .next (s.setPowered false)) ∧
    ∀ (c : Instr) (s : State), s.powered = false →
      exec c s = .next
        (match c with
          | .standbyPowerOnReset => ((State.reset.setPending s.pending).setLrst s.lrst).setUses s.uses
          | .lrstAsserted _ => s.setLrst true
          | .lrstReleased _ => s.setLrst false
          | _ => s)

/-- The invariants of the last section hold right after reset. -/
def Obligations.InvariantsAtReset : Prop :=
  ClockInv State.reset.clock ∧ FaultInv State.reset.fault ∧ WakeInv State.reset.wake ∧
    QueueInv State.reset ∧ PscInv State.reset ∧ RailInv State.reset

/-! ## Power-up and the image load (chapter 8) -/

/-- IMAGE_HEADER_READ: a header with the format code and a record count of at most 400 is accepted, and the
records are read next; any other makes the image bad, with blank tables and IMAGE_BAD set. The loader has sent
the read command and two address bytes of 0 before it reads (R136, R138, R163). -/
def Obligations.HeaderRead : Prop :=
  ∀ (fmt lo hi : Byte) (s : State), AtRest s → s.loader.phase = .header →
    (fmt = 0xE6 → lo.toNat + 256 * hi.toNat ≤ 400 →
      exec (.imageHeaderRead fmt lo hi) s = .next (s.setLoader
        { s.loader with phase := .records (lo.toNat + 256 * hi.toNat), sent := [0x03, 0x00, 0x00],
                        crc := crc16 s.loader.crc [fmt, lo, hi] })) ∧
    ((fmt ≠ 0xE6 ∨ 400 < lo.toNat + 256 * hi.toNat) →
      exec (.imageHeaderRead fmt lo hi) s = .next ((blankTables s).setLoader
        { s.loader with phase := .bad, sent := [0x03, 0x00, 0x00], imageBad := true, chipSelect := false }))

/-- IMAGE_RECORD_READ: a record of a writable table that passes the checks is installed, with one warning
when it was clamped; one that fails them is skipped with one warning; a table id outside 1 to 6 makes the
image bad (R137, R138). Nothing but that table and the loader changes. -/
def Obligations.RecordRead : Prop :=
  ∀ (tid index : Byte) (data : Vector Byte 11) (n : Nat) (s : State), AtRest s → s.loader.phase = .records (n + 1) →
    ((tid.toNat = 0 ∨ 6 < tid.toNat) →
      exec (.imageRecordRead tid index data) s = .next ((blankTables s).setLoader
        { s.loader with phase := .bad, imageBad := true, chipSelect := false })) ∧
    ∀ t : Table, tableOf tid.toNat = some t →
      let bs := data.toList.take (recLen t)
      let l := { s.loader with phase := .records n, crc := crc16 s.loader.crc (tid :: index :: bs) }
      let warned := { l with warnings := min (l.warnings + 1) 400 }
      ((indexOk t index.toNat = false ∨ checkRecord s t index.toNat bs = none) →
        exec (.imageRecordRead tid index data) s = .next (s.setLoader warned)) ∧
      ∀ c : Checked, indexOk t index.toNat = true → checkRecord s t index.toNat bs = some c →
        exec (.imageRecordRead tid index data) s =
          .next ((putRecord c s).setLoader (if c.clamped then warned else l))

/-- END_OF_THE_LOAD with a matching trailer, or after a bad image, under restore policy STAY_OFF, or LAST_STATE
with the restore-on mark no (as it always is at standby power-up, R22): the enable
lines deasserted, the output lines at the mask, every wire at its default level, the detectors set from the
present levels, and the PSC settled in SOFT_OFF with the gate open (R140, R16). A trailer that does not
match ends the load as the bad image does (R138). -/
def Claims.LoadEndSettles : Prop :=
  (∀ (hi lo : Byte) (lines : Lines) (s : State), AtRest s →
    (s.loader.phase = .records 0 ∧ s.loader.crc = hi ++ lo ∨ s.loader.phase = .bad) →
    (s.psc.policy0.restore = .stayOff ∨ s.psc.policy0.restore = .lastState ∧ s.psc.restoreOn = false) →
    exec (.endOfTheLoad hi lo lines) s = .next
      (((((((s.setRails { s.rails with stat := s.rails.stat.map fun x => { x with en := .deasserted } }).setPins
          { now := lines, out := Vector.ofFn fun n : Fin 8 => some (s.psc.policy0.outMask.getLsbD n.val) }).setWire
          { s.wire with level := s.wire.map.map WireEntry.deflt }).setWake
          { s.wake with
            armed := .softOff, sample := Vector.ofFn fun n => lineLevel lines n,
            det := Vector.ofFn fun n : Fin 9 =>
              { active := decide (lineLevel lines n = activeHigh (peek s.wake.table (lineSource n)).mode), count := 0 },
            pfail := { active := !lines.pfail, count := 0 } }).setPsc
          { s.psc with
            state := .softOff, current := .softOff, target := .softOff, commit := false, gateClosed := false,
            slot := none, pendingRestore := false, restoreOn := false }).setLoader
          { s.loader with phase := .done, chipSelect := false }).setBoundary quietBoundary)) ∧
  ∀ (hi lo : Byte) (lines : Lines) (s : State), AtRest s → s.loader.phase = .records 0 → s.loader.crc ≠ hi ++ lo →
    exec (.endOfTheLoad hi lo lines) s = exec (.endOfTheLoad hi lo lines)
      ((blankTables s).setLoader { s.loader with phase := .bad, imageBad := true, chipSelect := false })

/-- END_OF_THE_LOAD under POWER_ON, or LAST_STATE with the restore-on mark yes, with an empty Pending Wake Queue:
source 13 is queued once and announced on the Hub Port, whatever its arm mask, unless LRST is asserted, and the
PSC is in SOFT_OFF (R22, R112, R140). Stated under the PSC's invariant, which rules out held wires in LOADING. -/
def Claims.LoadEndPowersOn : Prop :=
  ∀ (hi lo : Byte) (lines : Lines) (s : State), AtRest s → PscInv s →
    (s.loader.phase = .records 0 ∧ s.loader.crc = hi ++ lo ∨ s.loader.phase = .bad) →
    (s.psc.policy0.restore = .powerOn ∨ s.psc.policy0.restore = .lastState ∧ s.psc.restoreOn = true) →
    s.wake.queue = [] → s.hub = idleLink → s.wire.kept = none →
    ∃ t : State, exec (.endOfTheLoad hi lo lines) s = .next t ∧ t.psc.state = .softOff ∧
      t.wake.queue = [{ source := 13, first := s.clock.tick, count := 1 }] ∧
      t.hub.tx = (if s.lrst then [] else [noticeFrame 13]) ∧ t.clock = s.clock ∧ t.fault = s.fault ∧
      (ready t .hub = !s.lrst)

/-- END_OF_THE_LOAD under the restore policies STAY_OFF, POWER_ON and LAST_STATE, with a matching trailer, a wrong
one and a bad image (R16, R22, R112, R138, R140). -/
def Obligations.LoadEnds : Prop := Claims.LoadEndSettles ∧ Claims.LoadEndPowersOn

/-! ## Clocks (chapter 8) -/

/-- TICK_BOUNDARY adds 1 to the tick counter, wrapping at 32 bits, starts a window where the loop runs under
the standby oscillator without one, and makes the samples of the boundary due, in every clock mode; in
LOADING the Wake Unit and the Rail Monitor take none (R129, R131, R100, R135). That the samples are marked as
due here and that the levels of the boundary before become the most recent samples is DEDUCED (assumption 14).
Stated where no pass that has begun still owes a sample. -/
def Claims.TickCounts : Prop :=
  ∀ (lines : Lines) (s : State), AtRest s → PassTaken s →
    let c := s.clock
    let w := if c.loop ≠ .off ∧ c.source = .so ∧ c.window = none then some (c.tick + 1) else c.window
    let t := (s.setClock { c with tick := c.tick + 1, window := w }).setPins { s.pins with now := lines }
    exec (.tickBoundary lines) s = .next
      (if s.psc.state = .loading then t
       else (t.setWake { s.wake with sample := Vector.ofFn fun n => lineLevel s.pins.now n }).setBoundary
        { det := Vector.replicate 9 true, pfail := true, rail := Vector.replicate 16 true, passBegun := false,
          scanned := Vector.replicate 16 false })

/-- A pass that has begun samples every rail scanned where it began (R71): a TICK_BOUNDARY that finds some of them not
yet taken takes them first, as a SCAN_PASS of those slots would, and no other rail. That they come last at their
boundary is DEDUCED (assumption 14). -/
def Claims.TickFinishesPass : Prop :=
  ∀ (lines : Lines) (s t : State), AtRest s → s.boundary.passBegun = true →
    exec (.scanPass ((List.finRange 16).filter fun n => peek s.boundary.scanned n)) s = .next t → exec (.tickBoundary lines) s = exec (.tickBoundary lines) t

/-- TICK_BOUNDARY: the tick and what it starts, and the end of a pass that has begun (R71, R100, R129, R131, R135).
The due samples and their order are the model's reading (assumption 14). -/
def Obligations.TickBoundaryCounts : Prop := Claims.TickCounts ∧ Claims.TickFinishesPass

/-- SO_LOSS: after 1952 RC periods without an edge while detection is armed, ticks come from RC from this
boundary on, SO_LOST is set, detection is disarmed, a running loop goes to ACQUIRING, and LOCKED clears with
the move from FAST_LOOP to FAST_RC and the FALLBACK flag (R130, R132, R133). Nothing else changes but what
a tick boundary changes; that the loss takes its boundary with it is DEDUCED (assumption 14). -/
def Claims.OscillatorLoss : Prop :=
  ∀ (periods : Nat) (lines : Lines) (s : State), AtRest s → ClockInv s.clock → s.psc.state ≠ .loading → PassTaken s →
    s.clock.source = .so → 1952 ≤ periods →
    let c := s.clock
    exec (.soLoss periods lines) s = .next
      ((((s.setClock
        { tick := c.tick + 1, source := .rc, lossArmed := false, soLost := true, window := none, locked := false,
          loop := if c.loop = .off then .off else .acquiring, good := if c.loop = .off then c.good else 0,
          lockChanges := if c.locked then min 255 (c.lockChanges + 1) else c.lockChanges,
          mode := if c.mode = .fastLoop then .fastRc else c.mode,
          fallback := c.fallback || decide (c.mode = .fastLoop) }).setPins { s.pins with now := lines }).setWake
        { s.wake with sample := Vector.ofFn fun n => lineLevel s.pins.now n }).setBoundary freshBoundary)

/-- SO_RETURN: at the end of the fourth consecutive period of 439 to 537 RC periods, ticks come from the
standby oscillator from this boundary on and detection is armed; no flag changes (R130). -/
def Claims.OscillatorReturn : Prop :=
  ∀ (p1 p2 p3 p4 : Nat) (lines : Lines) (s : State), AtRest s → s.psc.state ≠ .loading → PassTaken s →
    s.clock.source = .rc →
    (∀ p ∈ [p1, p2, p3, p4], 439 ≤ p ∧ p ≤ 537) →
    exec (.soReturn p1 p2 p3 p4 lines) s = .next
      ((((s.setClock { s.clock with tick := s.clock.tick + 1, source := .so, lossArmed := true }).setPins
        { s.pins with now := lines }).setWake
        { s.wake with sample := Vector.ofFn fun n => lineLevel s.pins.now n }).setBoundary freshBoundary)

/-- SO_LOSS and SO_RETURN finish a pass that has begun, as TICK_BOUNDARY does (R71, assumption 14). -/
def Claims.OscillatorFinishesPass : Prop :=
  ∀ (n p1 p2 p3 p4 : Nat) (lines : Lines) (s t : State), AtRest s → s.boundary.passBegun = true →
    exec (.scanPass ((List.finRange 16).filter fun n => peek s.boundary.scanned n)) s = .next t →
    (s.clock.source = .so → s.clock.lossArmed = true → 1952 ≤ n →
      exec (.soLoss n lines) s = exec (.soLoss n lines) t) ∧
    (s.clock.source = .rc → (∀ p ∈ [p1, p2, p3, p4], 439 ≤ p ∧ p ≤ 537) →
      exec (.soReturn p1 p2 p3 p4 lines) s = exec (.soReturn p1 p2 p3 p4 lines) t)

/-- SO_LOSS and SO_RETURN (R71, R130, R132, R133). -/
def Obligations.OscillatorChanges : Prop :=
  Claims.OscillatorLoss ∧ Claims.OscillatorReturn ∧ Claims.OscillatorFinishesPass

/-- LOOP_WINDOW_END by loop state and window error, the whole table of R131 with the changes of LOCKED, of the
lock-change count and of the core clock mode that follow (R132, R133), where no CLOCK_UP step waits. The
next window starts at the same boundary, and nothing outside the Clock Unit changes. -/
def Obligations.LoopWindow : Prop :=
  ∀ (count : Nat) (start : Tick) (s : State), AtRest s → ClockInv s.clock → waitsIn s .clockUp = false →
    s.clock.loop ≠ .off → s.clock.source = .so → s.clock.window = some start →
    (s.clock.tick - start).toNat = 16 →
    let e := ((count : Int) - 8192).natAbs
    let c := { s.clock with window := some s.clock.tick }
    (s.clock.loop = .acquiring → e ≤ 163 →
      exec (.loopWindowEnd count) s = .next (s.setClock { c with loop := .tracking, good := 0 })) ∧
    (s.clock.loop = .acquiring → 163 < e → exec (.loopWindowEnd count) s = .next (s.setClock c)) ∧
    (s.clock.loop = .tracking → s.clock.locked = false → e ≤ 40 → c.good + 1 < 4 →
      exec (.loopWindowEnd count) s = .next (s.setClock { c with good := c.good + 1 })) ∧
    (s.clock.loop = .tracking → s.clock.locked = false → e ≤ 40 → 4 ≤ c.good + 1 →
      exec (.loopWindowEnd count) s = .next (s.setClock
        { c with good := c.good + 1, locked := true, lockChanges := min 255 (c.lockChanges + 1),
                 mode := if c.mode = .fastRc then .fastLoop else c.mode })) ∧
    (s.clock.loop = .tracking → s.clock.locked = false → 40 < e → e ≤ 163 →
      exec (.loopWindowEnd count) s = .next (s.setClock { c with good := 0 })) ∧
    (s.clock.loop = .tracking → s.clock.locked = true → e ≤ 163 →
      exec (.loopWindowEnd count) s = .next (s.setClock c)) ∧
    (s.clock.loop = .tracking → 163 < e →
      exec (.loopWindowEnd count) s = .next (s.setClock
        { c with loop := .acquiring, good := 0, locked := false,
                 lockChanges := if c.locked then min 255 (c.lockChanges + 1) else c.lockChanges,
                 mode := if c.mode = .fastLoop then .fastRc else c.mode,
                 fallback := c.fallback || decide (c.mode = .fastLoop) }))

/-! ## Rails and their measurement (chapters 3 and 4) -/

/-- The band classes and the two properties of a sample, with the relations the rule names: one class each,
OVER only with OUT_FAIL and never below the fail band, OVER-RANGE always OUT_FAIL and OVER and never
BELOW_DRAIN, BELOW_DRAIN with OUT_FAIL where the drain threshold lies below the fail band, and all three
determined by the rail voltage and the record, for every stored gain (R76). -/
def Obligations.BandClasses : Prop :=
  ∀ (b : Bands) (code : BitVec 10), b.tolGood ≤ b.tolFail → b.tolFail ≤ 250 →
    let v : Int := railMv code b.gain
    let nom : Int := b.nominal
    let dg : Int := b.nominal * b.tolGood / 1000
    let df : Int := b.nominal * b.tolFail / 1000
    let drain : Int := b.nominal * b.drain / 1000
    let full := code.toNat = 1023
    (bandClass b code = .inGood ↔ ¬full ∧ nom - dg ≤ v ∧ v ≤ nom + dg) ∧
    (bandClass b code = .hyst ↔
      ¬full ∧ (nom - df ≤ v ∧ v ≤ nom + df) ∧ ¬(nom - dg ≤ v ∧ v ≤ nom + dg)) ∧
    (bandClass b code = .outFail ↔ full ∨ ¬(nom - df ≤ v ∧ v ≤ nom + df)) ∧
    (isOver b code = true ↔ full ∨ nom + df < v) ∧
    (belowDrain b code = true ↔ ¬full ∧ v < drain) ∧
    (isOver b code = true → bandClass b code = .outFail) ∧
    (¬full → v < nom - df → isOver b code = false) ∧
    (full → bandClass b code = .outFail ∧ isOver b code = true ∧ belowDrain b code = false) ∧
    (drain < nom - df → belowDrain b code = true → bandClass b code = .outFail) ∧
    ∀ other : BitVec 10, 256 ≤ b.gain → railMv other b.gain = railMv code b.gain →
      bandClass b other = bandClass b code ∧ isOver b other = isOver b code ∧ belowDrain b other = belowDrain b code

/-- The arithmetic of a sample: the code of a pin voltage in millivolts, full scale from the top of the range
on (R70), and the rail voltage of a code by the formula of R74, between 0 and 19181 mV for every stored
gain. -/
def Claims.RailVoltage : Prop :=
  (∀ mV : Nat, (adcCode mV).toNat = min 1023 (mV * 1024 / 1200)) ∧
  (∀ mV : Nat, 1199 ≤ mV → (adcCode mV).toNat = 1023) ∧
  (∀ (code : BitVec 10) (gain : Nat), railMv code gain = (code.toNat * 1200 * gain + 131072) / 262144) ∧
  (∀ (code : BitVec 10) (gain : Nat), 256 ≤ gain → gain ≤ 4096 → railMv code gain ≤ 19181) ∧
  railMv 1023 4096 = 19181 ∧ railMv 0 4096 = 0

/-- The clamping of the MONITORED fields puts every field in its range, tol_fail at least at tol_good, leaves a group
that is in its ranges as it is, and moves each field that is not to the nearer end of its range (R81). -/
def Claims.BandClamping : Prop :=
  ∀ b : Bands,
    let c := clampBands b
    (256 ≤ c.gain ∧ c.gain ≤ 4096) ∧ (100 ≤ c.nominal ∧ c.nominal ≤ 19000) ∧ (5 ≤ c.tolGood ∧ c.tolGood ≤ 200) ∧
      (c.tolGood ≤ c.tolFail ∧ c.tolFail ≤ 250) ∧ (10 ≤ c.drain ∧ c.drain ≤ 500) ∧ clampBands c = c ∧
      ((256 ≤ b.gain ∧ b.gain ≤ 4096) → c.gain = b.gain) ∧
      ((100 ≤ b.nominal ∧ b.nominal ≤ 19000) → c.nominal = b.nominal) ∧
      ((5 ≤ b.tolGood ∧ b.tolGood ≤ 200) → c.tolGood = b.tolGood) ∧
      ((c.tolGood ≤ b.tolFail ∧ b.tolFail ≤ 250) → c.tolFail = b.tolFail) ∧
      ((10 ≤ b.drain ∧ b.drain ≤ 500) → c.drain = b.drain) ∧
      ((b.gain < 256 → c.gain = 256) ∧ (4096 < b.gain → c.gain = 4096)) ∧
      ((b.nominal < 100 → c.nominal = 100) ∧ (19000 < b.nominal → c.nominal = 19000)) ∧
      ((b.tolGood < 5 → c.tolGood = 5) ∧ (200 < b.tolGood → c.tolGood = 200)) ∧
      ((b.tolFail < c.tolGood → c.tolFail = c.tolGood) ∧ (250 < b.tolFail → c.tolFail = 250)) ∧
      ((b.drain < 10 → c.drain = 10) ∧ (500 < b.drain → c.drain = 500))

/-- The arithmetic of a sample and the clamping of the MONITORED fields (R70, R74, R81). -/
def Obligations.RailArithmetic : Prop := Claims.RailVoltage ∧ Claims.BandClamping

/-- This boundary carries a scan pass: one has begun, or the core clock mode and the tick counter give it one (R71,
R72). -/
abbrev PassHere (s : State) : Prop :=
  s.boundary.passBegun = true ∨ s.clock.mode ≠ .slow ∨ s.clock.tick.toNat % 32 = 0

/-- The rails scanned where the pass of this boundary begins, or began: the record present with a sense input and the
verdict RISING, GOOD or DRAINING (R63, R70, R71). That a pass begins with its first row is DEDUCED (assumption
14). -/
def passScanned (s : State) : Vector Bool 16 :=
  if s.boundary.passBegun then s.boundary.scanned
  else
    Vector.ofFn fun n =>
      let r := peek s.rails.table n
      let v := (peek s.rails.stat n).verdict
      let sensed := match r.sense with | .monitored _ => true | .pgline => true | .timed _ _ => false
      r.present && sensed && decide (v = .rising ∨ v = .good ∨ v = .draining)

/-- The state in which the pass of this boundary has begun and has taken the event of a slot (R71). -/
def sampledAt (s : State) (slot : Fin 16) : State :=
  s.setBoundary
    { s.boundary with passBegun := true, scanned := passScanned s, rail := poke s.boundary.rail slot false }

/-- No running channel waits in a WAIT_GOOD or a WAIT_OFF on the rail of a slot. -/
abbrev NotAwaited (s : State) (slot : Fin 16) : Prop :=
  channelRuns s = false ∨ s.eng.wait ≠ .step ∨ slotOf s.eng.cur ≠ slot ∨
    s.eng.cur.kind ≠ .waitGood ∧ s.eng.cur.kind ≠ .waitOff

/-- What the three statements on MONITORED rails start from: a pass at this boundary, the slot's sample still
due, and a present rail of the sense group `b` with the given verdict. -/
abbrev Sampled (s : State) (slot : Fin 16) (r : RailRec) (b : Bands) (v : Verdict) : Prop :=
  AtRest s ∧ PassHere s ∧ peek s.boundary.rail slot = true ∧
    peek s.rails.table slot = r ∧ r.present = true ∧ r.sense = .monitored b ∧ (peek s.rails.stat slot).verdict = v

/-- The state in which a scan pass has taken the sample of one MONITORED rail, but for its status record: the
pass has begun, the sample is no longer due and the channel's last code is stored (R70, R71). -/
def converted (s : State) (slot : Fin 16) (r : RailRec) : State :=
  (sampledAt s slot).setRails
    { s.rails with lastCode := poke s.rails.lastCode (channelOf r) (codeAt s r) }

/-- A state with the status record of a slot replaced. -/
def withStat (s : State) (slot : Fin 16) (x : RailStat) : State :=
  s.setRails { s.rails with stat := poke s.rails.stat slot x }

/-- A status record as a verdict change leaves it, no timer running: every count 0 (R62). -/
def moved (st : RailStat) (v : Verdict) : RailStat :=
  { st with verdict := v, inCount := 0, overCount := 0, outCount := 0, lowCount := 0, timer := none }

/-- A state with the rail good time of a slot written where a report is open: the ticks from its start, at
most 16,777,215 (R54). -/
def withGoodTime (s : State) (slot : Fin 16) : State :=
  let r := s.eng.inflight
  if r.isOpen then
    s.setEng { s.eng with inflight := { r with
      goodTimes := poke r.goodTimes slot (some (min 16777215 (s.clock.tick - r.startTick).toNat)) } }
  else s

/-- SCAN_PASS on a RISING MONITORED rail: the in count rises on IN_GOOD and is set to 0 by every other sample,
the over count rises on OVER and is set to 0 by every other; at F in-count samples the rail is GOOD and its
good time is written, at F over-count samples a non-critical rail is LOST and its lost count rises, where no
step waits on the rail (R74, R77, R80, R54, R68). -/
def Claims.ScanRising : Prop :=
  ∀ (s : State) (slot : Fin 16) (r : RailRec) (b : Bands), Sampled s slot r b .rising →
    let code := codeAt s r
    let st := { peek s.rails.stat slot with mV := railMv code b.gain }
    let up := if bandClass b code = .inGood then st.inCount + 1 else 0
    let ov := if isOver b code then st.overCount + 1 else 0
    let f := max 1 r.filter.val
    let t := converted s slot r
    (up < f → ov < f →
      exec (.scanPass [slot]) s = .next (withStat t slot { st with inCount := up, overCount := ov })) ∧
    (f ≤ up → NotAwaited s slot →
      exec (.scanPass [slot]) s = .next (withGoodTime (withStat t slot (moved st .good)) slot)) ∧
    (f ≤ ov → up < f → NotAwaited s slot → r.critical = false →
      exec (.scanPass [slot]) s =
        .next (withStat t slot { moved st .lost with lost := min 255 (st.lost + 1) }))

/-- SCAN_PASS on a GOOD MONITORED rail: the out count rises on OUT_FAIL and is set to 0 by HYST and IN_GOOD; at
F of them a non-critical rail is LOST, where no step waits on it, with its enable line as it was (R78, R80, R68). -/
def Claims.ScanGood : Prop :=
  ∀ (s : State) (slot : Fin 16) (r : RailRec) (b : Bands), Sampled s slot r b .good →
    let code := codeAt s r
    let st := { peek s.rails.stat slot with mV := railMv code b.gain }
    let out := if bandClass b code = .outFail then st.outCount + 1 else 0
    let f := max 1 r.filter.val
    let t := converted s slot r
    (out < f → exec (.scanPass [slot]) s = .next (withStat t slot { st with outCount := out })) ∧
    (f ≤ out → NotAwaited s slot → r.critical = false →
      exec (.scanPass [slot]) s =
        .next (withStat t slot { moved st .lost with lost := min 255 (st.lost + 1) }))

/-- SCAN_PASS on a DRAINING MONITORED rail: the low count rises on BELOW_DRAIN and is set to 0 by every other
sample; at F of them the rail is OFF (R79, R80), where no step waits on it. -/
def Claims.ScanDraining : Prop :=
  ∀ (s : State) (slot : Fin 16) (r : RailRec) (b : Bands), Sampled s slot r b .draining →
    let code := codeAt s r
    let st := { peek s.rails.stat slot with mV := railMv code b.gain }
    let low := if belowDrain b code then st.lowCount + 1 else 0
    let f := max 1 r.filter.val
    let t := converted s slot r
    (low < f → exec (.scanPass [slot]) s = .next (withStat t slot { st with lowCount := low })) ∧
    (f ≤ low → NotAwaited s slot →
      exec (.scanPass [slot]) s = .next (withStat t slot (moved st .off)))

/-- What the loss of a critical rail leaves where the Urgent channel is IDLE, `s` being the state with the rail
LOST: the FAULT list runs, the latch is set, the Fault Record names the rail, and a step that waited in the
Normal channel was cut, the report closing STOPPED without a failure (R67, R83, R91). -/
abbrev LossStartsFault (slot : Fin 16) (s t : State) : Prop :=
  RunsUrgent .fault s.psc.policy1.fault.value s t ∧ t.psc.latch = true ∧
    t.fault.first = some
      { cause := .rail, subject := Fin.ofNat 256 slot.val, psc := s.psc.state, level := s.psc.current,
        tick := s.clock.tick } ∧
    (s.eng.norm.st ≠ .idle →
      t.eng.last.outcome = some .stopped ∧ t.eng.last.firstFailure = s.eng.inflight.firstFailure)

/-- The Urgent channel is IDLE, the Fault Record has no first fault, and the FAULT list begins with a DELAY. -/
abbrev FaultListReady (s : State) : Prop :=
  s.eng.urg.running = false ∧ s.fault.first = none ∧ s.psc.policy1.fault.present = true ∧
    LongDelay (peek s.eng.steps s.psc.policy1.fault.value)

/-- A status record of a rail as its loss leaves it, one loss more (R62, R68). -/
def lostStat (st : RailStat) : RailStat := { moved st .lost with lost := min 255 (st.lost + 1) }

/-- The loss of a critical MONITORED rail, at F over-count samples while RISING and at F out-count samples while
GOOD, starts the FAULT list, whatever channel or step waits (R67, R77, R78, R80). While the Urgent channel
runs, the trigger is only recorded, and a WAIT_GOOD that waits on the rail there fails with LOST (R46, R67). -/
def Claims.CriticalLoss : Prop :=
  ∀ (s : State) (slot : Fin 16) (r : RailRec) (b : Bands) (v : Verdict), Sampled s slot r b v → r.critical = true →
    let code := codeAt s r
    let st := { peek s.rails.stat slot with mV := railMv code b.gain }
    let f := max 1 r.filter.val
    let up := if bandClass b code = .inGood then st.inCount + 1 else 0
    let ov := if isOver b code then st.overCount + 1 else 0
    let out := if bandClass b code = .outFail then st.outCount + 1 else 0
    let t := withStat (converted s slot r) slot (lostStat st)
    (v = .rising ∧ up < f ∧ f ≤ ov ∨ v = .good ∧ f ≤ out) →
    (FaultListReady s → ∃ u : State, exec (.scanPass [slot]) s = .next u ∧ LossStartsFault slot t u) ∧
    (UrgentIn s .waitGood → slotOf s.eng.cur = slot → s.fault.first.isSome = true →
      exec (.scanPass [slot]) s =
        .next (urgentNext .lost (t.setFault { s.fault with further := min 255 (s.fault.further + 1) })))

/-- A verdict change is handed to the step that waits on the rail, shown in the Normal channel in step mode: GOOD
ends a WAIT_GOOD with success, the loss of a non-critical rail fails it with LOST, recorded and counted under
CONTINUE, and OFF ends a WAIT_OFF with success (R31, R32, R43, R62, R68). -/
def Claims.MonitoredEndsWait : Prop :=
  ∀ (s : State) (r : RailRec) (b : Bands) (v : Verdict),
    let slot := slotOf s.eng.cur
    Sampled s slot r b v →
    let code := codeAt s r
    let st := { peek s.rails.stat slot with mV := railMv code b.gain }
    let f := max 1 r.filter.val
    let up := if bandClass b code = .inGood then st.inCount + 1 else 0
    let ov := if isOver b code then st.overCount + 1 else 0
    let low := if belowDrain b code then st.lowCount + 1 else 0
    let t := converted s slot r
    (v = .rising → SteppingIn s .waitGood → f ≤ up →
      exec (.scanPass [slot]) s = .next (haltedAfter (withGoodTime (withStat t slot (moved st .good)) slot))) ∧
    (v = .rising → SteppingIn s .waitGood → s.eng.cur.action = .goOn → r.critical = false → up < f → f ≤ ov →
      exec (.scanPass [slot]) s = .next (haltedAfter ((withStat t slot (lostStat st)).setEng
        { s.eng with inflight := warned s.eng.norm.idx .lost s.eng.inflight }))) ∧
    (v = .draining → SteppingIn s .waitOff → f ≤ low →
      exec (.scanPass [slot]) s = .next (haltedAfter (withStat t slot (moved st .off))))

/-- SCAN_PASS takes the events of the rails that it names, each at most once at a boundary, and leaves the others due;
with its first row the pass begins, and the rails scanned then are kept (R71). A rail whose event comes while it is
OFF or LOST takes no sample at this boundary (R63, R70, R73). At a boundary that carries no pass the row changes
nothing. That a row takes the slots it names is a DESIGN CHOICE (assumption 3); that events stand as due, and where
a pass begins, is DEDUCED (assumption 14), and so is the row without effect (assumption 10). -/
def Claims.ScanTakesSlots : Prop :=
  (∀ (slots : List (Fin 16)) (s : State), AtRest s →
    (PassHere s →
      ∃ t : State, exec (.scanPass slots) s = .next t ∧ t.boundary.passBegun = true ∧
        t.boundary.scanned = passScanned s ∧
        ∀ n : Fin 16, peek t.boundary.rail n = (peek s.boundary.rail n && decide (n ∉ slots))) ∧
    (¬PassHere s → exec (.scanPass slots) s = .next s)) ∧
  ∀ (slot : Fin 16) (s : State), AtRest s → PassHere s →
    ((peek s.rails.stat slot).verdict = .off ∨ (peek s.rails.stat slot).verdict = .lost →
      exec (.scanPass [slot]) s = .next (sampledAt s slot)) ∧
    (peek s.boundary.rail slot = false → exec (.scanPass [slot]) s = .next (sampledAt s slot))

/-- The built-in shutdown that the loss of a critical rail starts within a pass, and the sampling of another rail in
that pass, may be taken in either order, shown of a LOST rail: sampled first, it takes no sample, and the shutdown
leaves it DRAINING with count 0; after the shutdown, it counts its first sample as a DRAINING rail (R63, R73, R79,
R86). That the order is that of the rows is a DESIGN CHOICE (assumption 3). -/
def Claims.ShutdownInPass : Prop :=
  ∀ (s : State) (slot other : Fin 16) (r x : RailRec) (b c : Bands), slot ≠ other → Sampled s slot r b .good →
    Sampled s other x c .lost → r.critical = true → (peek s.rails.stat other).en = .asserted →
    s.eng.urg.running = false → s.psc.policy1.fault.present = false →
    bandClass b (codeAt s r) = .outFail → max 1 r.filter.val ≤ (peek s.rails.stat slot).outCount + 1 →
    let down := { moved (peek s.rails.stat other) .draining with en := .deasserted }
    let read := { down with mV := railMv (codeAt s x) c.gain }
    let low := if belowDrain c (codeAt s x) then 1 else 0
    (∃ t : State, exec (.scanPass [other]) s = .next t ∧
      ∃ u : State, exec (.scanPass [slot]) t = .next u ∧ peek u.rails.stat other = down) ∧
    ∃ t : State, exec (.scanPass [slot]) s = .next t ∧ peek t.rails.stat other = down ∧
      ∃ u : State, exec (.scanPass [other]) t = .next u ∧
        peek u.rails.stat other =
          if max 1 x.filter.val ≤ low then moved read .off else { read with lowCount := low }

/-- SCAN_PASS on a MONITORED rail, by verdict: RISING, GOOD and DRAINING, with the loss of a critical rail, the step
that waits on the rail and the built-in shutdown within a pass (R67, R71, R73, R74, R77, R78, R79, R80, R86, R54,
R68). The operand of the row is assumption 3, the due events and the rails of a pass assumption 14, a row without
effect assumption 10. -/
def Obligations.ScanMonitored : Prop :=
  Claims.ScanRising ∧ Claims.ScanGood ∧ Claims.ScanDraining ∧ Claims.CriticalLoss ∧ Claims.MonitoredEndsWait ∧
    Claims.ScanTakesSlots ∧ Claims.ShutdownInPass

/-- SCAN_PASS on a PGLINE rail: the counts of R64 by verdict and level of the power-good line, and the verdict
changes at F, where no step waits on the rail; a critical rail's loss stands in the next claim (R63, R64, R62). -/
def Claims.ScanPgline : Prop :=
  ∀ (s : State) (slot : Fin 16) (r : RailRec), AtRest s →
    PassHere s → peek s.boundary.rail slot = true →
    peek s.rails.table slot = r → r.present = true → r.sense = .pgline → r.line.val < 8 →
    let st := peek s.rails.stat slot
    let high := s.pins.now.pg.getLsbD r.line.val
    let f := max 1 r.filter.val
    let t := sampledAt s slot
    (st.verdict = .rising →
      let n := if high then st.inCount + 1 else 0
      (n < f → exec (.scanPass [slot]) s = .next (withStat t slot { st with inCount := n })) ∧
      (f ≤ n → NotAwaited s slot →
        exec (.scanPass [slot]) s = .next (withGoodTime (withStat t slot (moved st .good)) slot))) ∧
    (st.verdict = .good →
      let n := if high then 0 else st.outCount + 1
      (n < f → exec (.scanPass [slot]) s = .next (withStat t slot { st with outCount := n })) ∧
      (f ≤ n → NotAwaited s slot → r.critical = false →
        exec (.scanPass [slot]) s =
          .next (withStat t slot { moved st .lost with lost := min 255 (st.lost + 1) }))) ∧
    (st.verdict = .draining →
      let n := if high then 0 else st.lowCount + 1
      (n < f → exec (.scanPass [slot]) s = .next (withStat t slot { st with lowCount := n })) ∧
      (f ≤ n → NotAwaited s slot → exec (.scanPass [slot]) s = .next (withStat t slot (moved st .off)))) ∧
    ((st.verdict = .off ∨ st.verdict = .lost) → exec (.scanPass [slot]) s = .next t)

/-- The verdict changes of a PGLINE rail reach the step that waits on it, and the loss of a critical one starts the
FAULT list, or fails the WAIT_GOOD of the Urgent channel with LOST (R31, R32, R46, R62, R64, R67). -/
def Claims.PglineHandsOn : Prop :=
  ∀ (s : State) (slot : Fin 16) (r : RailRec), AtRest s →
    PassHere s → peek s.boundary.rail slot = true →
    peek s.rails.table slot = r → r.present = true → r.sense = .pgline → r.line.val < 8 →
    let st := peek s.rails.stat slot
    let high := s.pins.now.pg.getLsbD r.line.val
    let f := max 1 r.filter.val
    let t := sampledAt s slot
    (st.verdict = .rising → high = true → f ≤ st.inCount + 1 → SteppingIn s .waitGood → slotOf s.eng.cur = slot →
      exec (.scanPass [slot]) s = .next (haltedAfter (withGoodTime (withStat t slot (moved st .good)) slot))) ∧
    (st.verdict = .draining → high = false → f ≤ st.lowCount + 1 → SteppingIn s .waitOff → slotOf s.eng.cur = slot →
      exec (.scanPass [slot]) s = .next (haltedAfter (withStat t slot (moved st .off)))) ∧
    (st.verdict = .good → high = false → f ≤ st.outCount + 1 → r.critical = true →
      (FaultListReady s →
        ∃ u : State, exec (.scanPass [slot]) s = .next u ∧ LossStartsFault slot (withStat t slot (lostStat st)) u) ∧
      (UrgentIn s .waitGood → slotOf s.eng.cur = slot → s.fault.first.isSome = true →
        exec (.scanPass [slot]) s = .next (urgentNext .lost ((withStat t slot (lostStat st)).setFault
          { s.fault with further := min 255 (s.fault.further + 1) }))))

/-- SCAN_PASS on a PGLINE rail, with the loss of a critical rail and the step that waits on the rail (R62, R63, R64,
R67). -/
def Obligations.ScanPowerGood : Prop := Claims.ScanPgline ∧ Claims.PglineHandsOn

/-- SETTLE_TIMER_EXPIRY and DRAIN_TIMER_EXPIRY: at the boundary at which the count of a NONE rail's timer
equals its settle or drain time, the verdict becomes GOOD or OFF, the timer stops, and a good time is
written into an open report, where no step waits on the rail (R65, R66, R54). -/
def Obligations.NoneRailTimers : Prop :=
  ∀ (s : State) (slot : Fin 16) (settle drain : TimeField) (start : Tick), AtRest s → NotAwaited s slot →
    (peek s.rails.table slot).sense = .timed settle drain → (peek s.rails.stat slot).timer = some start →
    let st := peek s.rails.stat slot
    (st.verdict = .rising → (s.clock.tick - start).toNat = settle.value.val * unitTicks settle.unit →
      exec (.settleTimerExpiry slot) s = .next (withGoodTime (withStat s slot (moved st .good)) slot)) ∧
    (st.verdict = .draining → (s.clock.tick - start).toNat = drain.value.val * unitTicks drain.unit →
      exec (.drainTimerExpiry slot) s = .next (withStat s slot (moved st .off)))

/-- A RAIL_ON whose rail is present and whose parent, where it has one, is GOOD asserts the line of an OFF or
DRAINING rail and makes it RISING, and a RAIL_OFF with no child asserted deasserts the line of a RISING,
GOOD or LOST rail and makes it DRAINING; both end with success, and the checks that fail end with ABSENT
or DEPENDENCY and touch no line (R29, R30, R58, R59, R61). Stated of rails with a sense input. -/
def Claims.SensedRailSteps : Prop :=
  ∀ (s : State) (r : StepRec), s.eng.wait = .none → (∀ t d, (peek s.rails.table (slotOf r)).sense ≠ .timed t d) →
    let slot := slotOf r
    let st := peek s.rails.stat slot
    let present := (peek s.rails.table slot).present
    (present = false → beginRailOn r s = failWith .absent s ∧ beginRailOff r s = failWith .absent s) ∧
    (present = true → parentGood s slot = false → beginRailOn r s = failWith .dependency s) ∧
    (present = true → childAsserted s slot = true → beginRailOff r s = failWith .dependency s) ∧
    (present = true → parentGood s slot = true → (st.verdict = .off ∨ st.verdict = .draining) →
      beginRailOn r s = succeed (withStat s slot (moved { st with en := .asserted } .rising))) ∧
    (present = true → parentGood s slot = true → (st.verdict = .rising ∨ st.verdict = .good ∨ st.verdict = .lost) →
      beginRailOn r s = succeed s) ∧
    (present = true → childAsserted s slot = false → (st.verdict = .rising ∨ st.verdict = .good ∨ st.verdict = .lost) →
      beginRailOff r s = succeed (withStat s slot (moved { st with en := .deasserted } .draining))) ∧
    (present = true → childAsserted s slot = false → (st.verdict = .off ∨ st.verdict = .draining) →
      beginRailOff r s = succeed s)

/-- RAIL_ON and RAIL_OFF on a NONE rail: the same checks and line changes, the settle timer started with RISING and
the drain timer with DRAINING, and a duration of 0 going straight to GOOD, its good time written into an open
report, or to OFF, with no timer left running (R29, R30, R54, R61, R65, R66). -/
def Claims.TimedRailSteps : Prop :=
  ∀ (s : State) (r : StepRec) (settle drain : TimeField), s.eng.wait = .none →
    (peek s.rails.table (slotOf r)).sense = .timed settle drain →
    let slot := slotOf r
    let st := peek s.rails.stat slot
    let on := { st with en := .asserted }
    let off := { st with en := .deasserted }
    let present := (peek s.rails.table slot).present
    (present = false → beginRailOn r s = failWith .absent s ∧ beginRailOff r s = failWith .absent s) ∧
    (present = true → parentGood s slot = false → beginRailOn r s = failWith .dependency s) ∧
    (present = true → childAsserted s slot = true → beginRailOff r s = failWith .dependency s) ∧
    (present = true → parentGood s slot = true →
      ((st.verdict = .off ∨ st.verdict = .draining) → settle.value ≠ 0 →
        beginRailOn r s = succeed (withStat s slot { moved on .rising with timer := some s.clock.tick })) ∧
      ((st.verdict = .off ∨ st.verdict = .draining) → settle.value = 0 →
        beginRailOn r s = succeed (withGoodTime (withStat s slot (moved on .good)) slot)) ∧
      ((st.verdict = .rising ∨ st.verdict = .good ∨ st.verdict = .lost) → beginRailOn r s = succeed s)) ∧
    (present = true → childAsserted s slot = false →
      ((st.verdict = .rising ∨ st.verdict = .good ∨ st.verdict = .lost) → drain.value ≠ 0 →
        beginRailOff r s = succeed (withStat s slot { moved off .draining with timer := some s.clock.tick })) ∧
      ((st.verdict = .rising ∨ st.verdict = .good ∨ st.verdict = .lost) → drain.value = 0 →
        beginRailOff r s = succeed (withStat s slot (moved off .off))) ∧
      ((st.verdict = .off ∨ st.verdict = .draining) → beginRailOff r s = succeed s))

/-- RAIL_ON and RAIL_OFF on rails of every sense kind (R29, R30, R54, R58, R59, R61, R65, R66). -/
def Obligations.RailSteps : Prop := Claims.SensedRailSteps ∧ Claims.TimedRailSteps

/-! ## Faults, override and power failure (chapter 5) -/

/-- A FAULT trigger writes the Fault Record whether or not it starts a list: the first-fault fields from the
state before the trigger's effects where they are absent, else one further fault, saturating at 255. It
sets the latch exactly when it starts a FAULT list, and with the Urgent channel RUNNING it does nothing
more (R91, R87). -/
def Obligations.FaultTriggerRecords : Prop :=
  ∀ (cause : FaultCause) (subject : Fin 256) (s : State),
    let t := triggerFault cause subject s
    let first : FirstFault :=
      { cause := cause, subject := subject, psc := s.psc.state, level := s.psc.current, tick := s.clock.tick }
    (s.fault.first = none → t.fault = { s.fault with first := some first }) ∧
    (s.fault.first.isSome = true → t.fault = { s.fault with further := min 255 (s.fault.further + 1) }) ∧
    (s.eng.urg.running = true → t.psc = s.psc ∧ t.eng = s.eng ∧ t.rails = s.rails ∧ t.clock = s.clock ∧
      t.wire = s.wire ∧ t.hub = s.hub ∧ t.board = s.board ∧ t.pins = s.pins) ∧
    (s.eng.urg.running = false → t.psc.latch = true ∧ t.psc.state = .urgent) ∧
    (t.wake = s.wake ∧ t.agent = s.agent ∧ t.loader = s.loader ∧ t.boundary = s.boundary)

/-- An urgent start from any state in which the Urgent channel is IDLE: the PSC enters URGENT with the target
SOFT_OFF, the commit flag clear, the halted-from state absent and the gate closed, the current level, the
slot and the latch kept; the Normal channel is IDLE with no pending halt; hold is lifted; a SLOW core is
forced to FAST_RC with the loop in ACQUIRING and any other core is left; the report of the kind opens from
the current level to SOFT_OFF; and the Urgent channel runs the kind (R19, R83, R84, R53). -/
def Claims.UrgentStartEffects : Prop :=
  ∀ (k : UrgKind) (s : State), s.eng.urg.running = false →
    let t := urgentStart k s
    t.psc = { s.psc with state := .urgent, target := .softOff, commit := false, haltedFrom := none, gateClosed := true } ∧
      t.eng.norm.st = .idle ∧ t.eng.norm.haltPending = false ∧ t.eng.urg.running = true ∧ t.eng.urg.kind = some k ∧
      t.eng.stepMode = s.eng.stepMode ∧ t.wire.hold = false ∧
      t.clock = (if s.clock.mode = .slow then
        { s.clock with mode := .fastRc, loop := .acquiring, good := 0, window := none } else s.clock) ∧
      (t.eng.inflight.isOpen = true ∧ t.eng.inflight.origin = .urgent k ∧ t.eng.inflight.fromLevel = s.psc.current ∧
        t.eng.inflight.toLevel = .softOff ∧ t.eng.inflight.startTick = s.clock.tick ∧ t.eng.inflight.steps = 0) ∧
      (s.eng.norm.st ≠ .idle → t.eng.last.outcome = some .stopped ∧ t.eng.last.endTick = some s.clock.tick) ∧
      (s.eng.norm.st = .idle → t.eng.last = s.eng.last) ∧
      t.fault = s.fault ∧ t.wake = s.wake ∧ t.agent = s.agent ∧ t.loader = s.loader ∧ t.boundary = s.boundary

/-- An urgent start whose list is present begins it and leaves every rail as it is; one whose list is absent
takes down every rail whose line is asserted, each to DRAINING, or to OFF for a NONE rail with drain time
0, and leaves the others (R83, R85, R86). -/
def Claims.UrgentListOrShutdown : Prop :=
  ∀ (k : UrgKind) (s : State), s.eng.urg.running = false →
    let t := urgentStart k s
    let start := urgentStartOf s.psc.policy1 k
    (start.present = true → t.eng.urg.idx = start.value ∧ t.eng.due = .beginRun false ∧ t.rails = s.rails) ∧
    (start.present = false →
      t.eng.urg.idx = 0 ∧ t.rails.table = s.rails.table ∧
      ∀ n : Fin 16,
        let x := peek s.rails.stat n
        let y := peek t.rails.stat n
        (x.en ≠ .asserted → y = x) ∧
        (x.en = .asserted → x.verdict = .rising ∨ x.verdict = .good ∨ x.verdict = .lost →
          y.en = .deasserted ∧ y.lost = x.lost ∧ y.mV = x.mV ∧
          (y.verdict = .draining ∨
            y.verdict = .off ∧ ∃ a d : TimeField, (peek s.rails.table n).sense = .timed a d ∧ d.value = 0)))

/-- An urgent start that closes the gate records the off-notice wire at level 1 and sends it toward the Hub Port;
one that finds the gate closed, or no off-notice wire in Policy, leaves the wires and the Hub Port as they are
(R19, R125). Stated with no internal frame waiting and nothing to drain. -/
def Claims.GateCloses : Prop :=
  ∀ (k : UrgKind) (s : State), s.eng.urg.running = false → s.hub.waiting = [] → s.board.waiting = [] →
    s.wire.queue = [] → s.wire.kept = none →
    let t := urgentStart k s
    (s.psc.gateClosed = false → t.hub = (offNoticed true s).hub ∧ t.wire.level = (offNoticed true s).wire.level) ∧
    (s.psc.gateClosed = true → t.hub = s.hub ∧ t.wire.level = s.wire.level) ∧ t.board = s.board

/-- An urgent start: the PSC, the channels, hold, clock and report, the list or the built-in shutdown, and the
off-notice wire (R19, R53, R83, R84, R85, R86, R125). -/
def Obligations.UrgentStart : Prop :=
  Claims.UrgentStartEffects ∧ Claims.UrgentListOrShutdown ∧ Claims.GateCloses

/-- OVERRIDE_TIMER_EXPIRY in SOFT_OFF, HIBERNATE and LOADING, or while an OVERRIDE or POWERFAIL list runs: the
timer becomes IDLE and nothing else changes (R94, R87). -/
def Claims.OverrideExpiryIgnored : Prop :=
  ∀ (s : State) (o : OverrideTimer), AtRest s → s.wake.overrideT = some o →
    (s.clock.tick - o.start).toNat = o.duration →
    (s.psc.state = .softOff ∨ s.psc.state = .hibernate ∨ s.psc.state = .loading ∨
      s.psc.state = .urgent ∧ s.eng.urg.running = true ∧
        (s.eng.urg.kind = some .override ∨ s.eng.urg.kind = some .powerfail)) →
    exec .overrideTimerExpiry s = .next (s.setWake { s.wake with overrideT := none })

/-- OVERRIDE_TIMER_EXPIRY in WORKING, SUSPEND, TRANSIT, BACKOUT and HALTED starts the OVERRIDE list, shown where
that list begins with a DELAY: the timer is IDLE, the list waits in its first step, and the latch and the
Fault Record are as they were (R94, R83). -/
def Claims.OverrideStartsList : Prop :=
  ∀ (s : State) (o : OverrideTimer), AtRest s → s.wake.overrideT = some o →
    (s.clock.tick - o.start).toNat = o.duration → s.eng.urg.running = false →
    (s.psc.state = .working ∨ s.psc.state = .suspend ∨ s.psc.state = .transit ∨ s.psc.state = .backout ∨
      s.psc.state = .halted) →
    s.psc.policy1.override.present = true → LongDelay (peek s.eng.steps s.psc.policy1.override.value) →
    ∃ t : State, exec .overrideTimerExpiry s = .next t ∧ RunsUrgent .override s.psc.policy1.override.value s t ∧
      t.wake.overrideT = none ∧ t.psc.latch = s.psc.latch ∧ t.fault = s.fault

/-- What a preemption leaves, `s` being the state before the trigger: the higher kind's list runs, and the report of
the list it stopped is closed STOPPED with no failure added; latch and Fault Record are as they were (R87). -/
abbrev Preempted (k : UrgKind) (i : Fin 256) (s t : State) : Prop :=
  RunsUrgent k i s t ∧ t.psc.latch = s.psc.latch ∧ t.fault = s.fault ∧
    t.eng.last.outcome = some .stopped ∧ t.eng.last.endTick = some s.clock.tick ∧
    t.eng.last.origin = s.eng.inflight.origin ∧ t.eng.last.firstFailure = s.eng.inflight.firstFailure

/-- OVERRIDE_TIMER_EXPIRY while a FAULT list runs: the OVERRIDE list, of higher rank, preempts it, shown where it
begins with a DELAY (R82, R87, R94). -/
def Claims.OverridePreempts : Prop :=
  ∀ (s : State) (o : OverrideTimer), AtRest s → s.wake.overrideT = some o →
    (s.clock.tick - o.start).toNat = o.duration → s.psc.state = .urgent → s.psc.target = .softOff →
    s.psc.gateClosed = true → s.eng.urg.running = true → s.eng.urg.kind = some .fault →
    s.psc.policy1.override.present = true → LongDelay (peek s.eng.steps s.psc.policy1.override.value) →
    ∃ t : State, exec .overrideTimerExpiry s = .next t ∧ Preempted .override s.psc.policy1.override.value s t ∧
      t.wake.overrideT = none

/-- OVERRIDE_TIMER_EXPIRY by PSC state, the table of R94, with the preemption of a FAULT list (R83, R87). -/
def Obligations.OverrideExpiry : Prop :=
  Claims.OverrideExpiryIgnored ∧ Claims.OverrideStartsList ∧ Claims.OverridePreempts

/-- PFAIL_SAMPLE outside LOADING: a sample that agrees with the AC-fail detector sets its count to 0, one that
does not raises it, until it reaches the filter width; then the detector goes ACTIVE as an AC loss, which
starts the POWERFAIL list with the restore-on mark of R21, or goes INACTIVE as an AC restore, which defers
the restore action while a POWERFAIL list runs and under STAY_OFF else only clears the two marks (R95, R96,
R97, R21, R22). -/
def Claims.PfailCounts : Prop :=
  ∀ s : State, AtRest s → s.psc.state ≠ .loading → s.boundary.pfail = true →
    let active := !s.pins.now.pfail
    let d := s.wake.pfail
    let w := max 1 s.psc.policy0.pfailWidth.val
    let t := s.setBoundary { s.boundary with pfail := false }
    (d.active = active →
      exec .pfailSample s = .next (t.setWake { s.wake with pfail := { d with count := 0 } })) ∧
    (d.active ≠ active → d.count + 1 < w →
      exec .pfailSample s = .next (t.setWake { s.wake with pfail := { d with count := d.count + 1 } })) ∧
    (d.active = false → active = true → w ≤ d.count + 1 → s.eng.urg.running = false →
      s.psc.policy1.powerfail.present = true → LongDelay (peek s.eng.steps s.psc.policy1.powerfail.value) →
      ∃ u : State, exec .pfailSample s = .next u ∧ RunsUrgent .powerfail s.psc.policy1.powerfail.value s u ∧
        u.wake.pfail = { active := true, count := 0 } ∧ u.fault = s.fault ∧ u.psc.latch = s.psc.latch ∧
        u.psc.restoreOn =
          !(decide (s.psc.state = .suspend) || decide (s.psc.state = .hibernate) || decide (s.psc.state = .softOff))) ∧
    (d.active = true → active = false → w ≤ d.count + 1 → s.eng.urg.running = true →
      s.eng.urg.kind = some .powerfail →
      exec .pfailSample s = .next ((t.setWake { s.wake with pfail := { active := false, count := 0 } }).setPsc
        { s.psc with pendingRestore := true })) ∧
    (d.active = true → active = false → w ≤ d.count + 1 → s.eng.urg.running = false →
      s.psc.policy0.restore = .stayOff →
      exec .pfailSample s = .next ((t.setWake { s.wake with pfail := { active := false, count := 0 } }).setPsc
        { s.psc with pendingRestore := false, restoreOn := false }))

/-- PFAIL_SAMPLE at the filter width while an urgent list runs: an AC loss preempts a FAULT or an OVERRIDE list by
the POWERFAIL list, shown where that begins with a DELAY, with the restore-on mark yes, and during a POWERFAIL
list only clears the pending-restore flag; an AC restore while another kind runs takes the restore action at
once, shown under STAY_OFF (R21, R22, R87, R96, R97). -/
def Claims.PfailInUrgent : Prop :=
  ∀ s : State, AtRest s → s.boundary.pfail = true → s.psc.state = .urgent → s.psc.target = .softOff →
    s.psc.gateClosed = true → s.eng.urg.running = true →
    let active := !s.pins.now.pfail
    let d := s.wake.pfail
    let t := s.setBoundary { s.boundary with pfail := false }
    max 1 s.psc.policy0.pfailWidth.val ≤ d.count + 1 →
    (d.active = false → active = true → (s.eng.urg.kind = some .fault ∨ s.eng.urg.kind = some .override) →
      s.psc.policy1.powerfail.present = true → LongDelay (peek s.eng.steps s.psc.policy1.powerfail.value) →
      ∃ u : State, exec .pfailSample s = .next u ∧ Preempted .powerfail s.psc.policy1.powerfail.value s u ∧
        u.wake.pfail = { active := true, count := 0 } ∧ u.psc.restoreOn = true) ∧
    (d.active = false → active = true → s.eng.urg.kind = some .powerfail →
      exec .pfailSample s = .next ((t.setWake { s.wake with pfail := { active := true, count := 0 } }).setPsc
        { s.psc with pendingRestore := false })) ∧
    (d.active = true → active = false → (s.eng.urg.kind = some .fault ∨ s.eng.urg.kind = some .override) →
      s.psc.policy0.restore = .stayOff →
      exec .pfailSample s = .next ((t.setWake { s.wake with pfail := { active := false, count := 0 } }).setPsc
        { s.psc with pendingRestore := false, restoreOn := false }))

/-- PFAIL_SAMPLE: the counting, AC loss and AC restore, with the preemption of a running list (R21, R22, R87, R95,
R96, R97). -/
def Obligations.PfailSamples : Prop := Claims.PfailCounts ∧ Claims.PfailInUrgent

/-! ## Wake sources (chapter 6) -/

/-- DETECTOR_SAMPLE that makes no change to ACTIVE: the line's level becomes the most recent sample; a sample
that agrees with the detector sets its count to 0, one that does not raises it, and at the filter width an
ACTIVE detector goes INACTIVE, which for the power button stops the override timer (R99, R100, R101, R93). -/
def Obligations.DetectorCounts : Prop :=
  ∀ (src : Fin 9) (order : EffectOrder) (s : State), AtRest s → s.psc.state ≠ .loading →
    peek s.boundary.det src = true →
    let m := peek s.wake.table (lineSource src)
    let level := lineLevel s.pins.now src
    let active := decide (level = true ↔ (m.mode = .rise ∨ m.mode = .high))
    let d := peek s.wake.det src
    let w := max 1 m.width.val
    let sampled := { s.wake with sample := poke s.wake.sample src level }
    let t := s.setBoundary { s.boundary with det := poke s.boundary.det src false }
    (d.active = active →
      exec (.detectorSample src order) s = .next (t.setWake
        { sampled with det := poke s.wake.det src { d with count := 0 } })) ∧
    (d.active ≠ active → d.count + 1 < w →
      exec (.detectorSample src order) s = .next (t.setWake
        { sampled with det := poke s.wake.det src { d with count := d.count + 1 } })) ∧
    (d.active = true → active = false → w ≤ d.count + 1 →
      exec (.detectorSample src order) s = .next (t.setWake
        { sampled with
          det := poke s.wake.det src { active := false, count := 0 },
          overrideT := if src.val = 8 then none else s.wake.overrideT }))

/-- DETECTOR_SAMPLE by which a source that is neither the power button nor the trip line goes ACTIVE: a fire of
the source and nothing more, with its notice sent, waiting, lost, or under LRST not created (R100, R101, R104,
R105, R106, R107, R113, R146). -/
def Obligations.DetectorFires : Prop :=
  ∀ (src : Fin 9) (order : EffectOrder) (s : State), AtRest s → s.psc.state ≠ .loading →
    peek s.boundary.det src = true → SlotsOffered s → src.val < 8 →
    ¬(s.psc.policy0.trip.present = true ∧ s.psc.policy0.trip.value.val = src.val) →
    let m := peek s.wake.table (lineSource src)
    let level := lineLevel s.pins.now src
    (peek s.wake.det src).active = false → level = activeHigh m.mode →
    max 1 m.width.val ≤ (peek s.wake.det src).count + 1 →
    exec (.detectorSample src order) s = .next (fired (lineSource src)
      ((s.setBoundary { s.boundary with det := poke s.boundary.det src false }).setWake
        { s.wake with
          sample := poke s.wake.sample src level, det := poke s.wake.det src { active := true, count := 0 } }))

/-- A press of the power button, its detector going ACTIVE in WORKING while source 8 is not armed: the fault
latch is cleared, the override hold timer starts with the Policy override time, and nothing else changes
(R18, R93, R101, R111). -/
def Claims.PressInWorking : Prop :=
  ∀ (order : EffectOrder) (s : State), AtRest s → s.psc.state = .working → peek s.boundary.det 8 = true →
    let m := peek s.wake.table 8
    let level := s.pins.now.pwrbtn
    m.mask = 0 → s.wake.overrideT = none → s.psc.policy0.overrideFor.value ≠ 0 →
    (peek s.wake.det 8).active = false → level = activeHigh m.mode →
    max 1 m.width.val ≤ (peek s.wake.det 8).count + 1 →
    exec (.detectorSample 8 order) s = .next
      (((s.setBoundary { s.boundary with det := poke s.boundary.det 8 false }).setPsc { s.psc with latch := false }).setWake
        { s.wake with
          sample := poke s.wake.sample 8 level, det := poke s.wake.det 8 { active := true, count := 0 },
          overrideT := some { start := s.clock.tick, duration := duration s.psc.policy0.overrideFor } })

/-- A press in a level state below WORKING that clears the latch while WORKING is requested and the gate is open
takes the request again: it starts the transition, shown where its main list begins with a DELAY, or is refused
UNSUPPORTED where the entry is absent; with the gate closed, or another level requested, only the latch is
cleared. The override timer starts in each case, whatever the order of the effects (R18, R93, R101). -/
def Claims.PressRetries : Prop :=
  ∀ (order : EffectOrder) (l : Level) (s : State), AtRest s → s.psc.state = levelState l → l ≠ .working →
    peek s.boundary.det 8 = true → s.eng.urg.running = false →
    let m := peek s.wake.table 8
    let level := s.pins.now.pwrbtn
    m.mask = 0 → s.wake.overrideT = none → s.psc.policy0.overrideFor.value ≠ 0 →
    (peek s.wake.det 8).active = false → level = activeHigh m.mode →
    max 1 m.width.val ≤ (peek s.wake.det 8).count + 1 → s.psc.latch = true →
    let t := ((s.setBoundary { s.boundary with det := poke s.boundary.det 8 false }).setPsc
      { s.psc with latch := false }).setWake
        { s.wake with
          sample := poke s.wake.sample 8 level, det := poke s.wake.det 8 { active := true, count := 0 },
          overrideT := some { start := s.clock.tick, duration := duration s.psc.policy0.overrideFor } }
    ((s.psc.gateClosed = true ∨ requested s ≠ .working) → exec (.detectorSample 8 order) s = .next t) ∧
    (s.psc.gateClosed = false → requested s = .working →
      (EntryDelays s l .working → exec (.detectorSample 8 order) s = .next (begun l .working t)) ∧
      ((peek s.psc.trans (entryIndex l .working)).present = false →
        exec (.detectorSample 8 order) s = .next ((refusedBy l .working .unsupported t).setPsc
          { t.psc with unsupported := true })))

/-- A press of the power button in WORKING, and below it with the latch set (R18, R93, R101, R111). -/
def Obligations.ButtonPress : Prop := Claims.PressInWorking ∧ Claims.PressRetries

/-- The trip line going ACTIVE is a FAULT trigger with cause TRIP and the line as subject, whatever the arm mask,
shown with the source not armed and a FAULT list that begins with a DELAY: the first fault is written, the
latch set and the list waits in its first step (R92, R91, R83). -/
def Obligations.TripStartsFault : Prop :=
  ∀ (src : Fin 9) (order : EffectOrder) (s : State), AtRest s → s.psc.state ≠ .loading →
    peek s.boundary.det src = true → src.val < 8 → s.eng.urg.running = false →
    s.psc.policy0.trip.present = true → s.psc.policy0.trip.value.val = src.val →
    (peek s.wake.table (lineSource src)).mask = 0 → s.fault.first = none →
    (peek s.wake.det src).active = false →
    lineLevel s.pins.now src = activeHigh (peek s.wake.table (lineSource src)).mode →
    max 1 (peek s.wake.table (lineSource src)).width.val ≤ (peek s.wake.det src).count + 1 →
    s.psc.policy1.fault.present = true → LongDelay (peek s.eng.steps s.psc.policy1.fault.value) →
    ∃ t : State, exec (.detectorSample src order) s = .next t ∧ RunsUrgent .fault s.psc.policy1.fault.value s t ∧
      t.psc.latch = true ∧
      t.fault.first = some
        { cause := .trip, subject := Fin.ofNat 256 src.val, psc := s.psc.state, level := s.psc.current, tick := s.clock.tick }

/-! ## The Sequence Engine (chapter 2) -/

/-- A DELAY step ends with success at its start when its duration is 0 and else waits, in either channel and
whatever its fail action; waiting, it ends with success at the boundary at which the count of its timer
equals its duration, and in no other way but a cut, which records nothing (R33, R47). That an expiry row which is
not due leaves the state as it is, is DEDUCED (assumption 10). -/
def Obligations.DelaySteps : Prop :=
  (∀ (r : StepRec) (s : State), r.kind = .delay →
    (duration r.time = 0 → runKind r s = succeed s) ∧ (duration r.time ≠ 0 → runKind r s = awaitStep s)) ∧
  (∀ s : State, AtRest s → waitsIn s .delay = true → elapsed s (runStart s) = duration s.eng.cur.time →
    exec .stepTimerExpiry s = .next (runChain (succeed s))) ∧
  (∀ s : State, AtRest s → waitsIn s .delay = true → elapsed s (runStart s) ≠ duration s.eng.cur.time →
    exec .stepTimerExpiry s = .next s) ∧
  ∀ s : State, waitsIn s .delay = true → cutStep s = s.setEng { s.eng with wait := .none, due := .nothing }

/-- A MARK step writes its mark code, replacing any earlier mark, into the in-flight report and ends with
success (R41). -/
def Obligations.MarkSteps : Prop :=
  ∀ (r : StepRec) (s : State), r.kind = .mark →
    runKind r s = succeed (s.setEng { s.eng with inflight := { s.eng.inflight with lastMark := some r.opA } })

/-- The instant steps LINE_SET, CLOCK_DOWN and ARM_WAKE act and end with success, and a PULSE of duration 0
leaves its line at the opposite level (R34, R35, R39, R40, R134). -/
def Claims.StepsAct : Prop :=
  ∀ (r : StepRec) (s : State),
    (r.kind = .lineSet →
      runKind r s = succeed (s.setPins { s.pins with out := poke s.pins.out (lineOf r) (some r.opB) })) ∧
    (r.kind = .pulse → duration r.time = 0 →
      runKind r s = succeed (s.setPins { s.pins with out := poke s.pins.out (lineOf r) (some (!r.opB)) })) ∧
    (r.kind = .pulse → duration r.time ≠ 0 →
      runKind r s = awaitStep (s.setPins { s.pins with out := poke s.pins.out (lineOf r) (some r.opB) })) ∧
    (r.kind = .clockDown → s.clock.mode = .slow → runKind r s = succeed s) ∧
    (r.kind = .clockDown → s.clock.mode ≠ .slow →
      ∃ c : Clock, runKind r s = succeed (s.setClock c) ∧ c.mode = .slow ∧ c.loop = .off ∧ c.locked = false ∧
        c.good = 0 ∧ c.window = none ∧ c.tick = s.clock.tick ∧ c.source = s.clock.source ∧
        c.fallback = s.clock.fallback ∧ c.soLost = s.clock.soLost ∧
        c.lockChanges = (if s.clock.locked then min 255 (s.clock.lockChanges + 1) else s.clock.lockChanges)) ∧
    (r.kind = .armWake → ∀ l : Level, r.opA.val = (levelCode l).val → runKind r s = succeed (setArmed l s))

/-- The line sources that fire when the Armed Level moves to `new`: those in level mode whose detector is ACTIVE and
whose mask includes the new level and not the old one, in ascending order (R103). -/
def armedBy (new : Level) (s : State) : List (Fin 14) :=
  ((List.finRange 9).filter fun n =>
      let m := peek s.wake.table (lineSource n)
      decide (m.mask.getLsbD (levelCode s.wake.armed).val = false ∧ m.mask.getLsbD (levelCode new).val = true ∧
        (m.mode = .high ∨ m.mode = .low) ∧ (peek s.wake.det n).active = true)).map lineSource

/-- A move of the Armed Level fires those sources one by one in ascending order (R40, R102, R103). With room in the
Pending Wake Queue and in the Hub Port's transmit queue, each not yet queued is queued at this tick and announced
below WORKING, and in WORKING each is announced alone (R105, R106). -/
def Claims.ArmingFires : Prop :=
  (∀ (new : Level) (s : State), SlotsOffered s →
    setArmed new s = (armedBy new s).foldl (fun t n => fired n t) (s.setWake { s.wake with armed := new })) ∧
  ∀ (new : Level) (s : State), HubOpen s → s.hub.tx.length + (armedBy new s).length ≤ 8 →
    let sent := s.setHub { s.hub with tx := s.hub.tx ++ (armedBy new s).map noticeFrame }
    (new = .working → setArmed new s = sent.setWake { s.wake with armed := .working }) ∧
    (new ≠ .working → s.wake.queue.length + (armedBy new s).length ≤ 8 →
      (∀ n ∈ armedBy new s, n ∉ s.wake.queue.map WakeEntry.source) →
      setArmed new s = sent.setWake
        { s.wake with
          armed := new,
          queue := s.wake.queue ++ (armedBy new s).map fun n => { source := n, first := s.clock.tick, count := 1 } })

/-- WAIT_GOOD, WAIT_OFF, WAIT_LINE and CLOCK_UP as their runs begin, by their checks in order; a run that has to wait
fails with TIMEOUT at once where its duration is 0 (R26, R31, R32, R36, R39). -/
def Claims.WaitsBegin : Prop :=
  ∀ (r : StepRec) (s : State), s.eng.wait = .none →
    let v := (peek s.rails.stat (slotOf r)).verdict
    let present := (peek s.rails.table (slotOf r)).present
    let sample := peek s.wake.sample (Fin.castLE (by decide) (lineOf r))
    let waits (t : State) : State := if duration r.time = 0 then failWith .timeout t else awaitStep t
    (r.kind = .waitGood →
      (present = false → runKind r s = failWith .absent s) ∧
      (present = true → v = .good → runKind r s = succeed s) ∧
      (present = true → v = .lost → runKind r s = failWith .lost s) ∧
      (present = true → v ≠ .good → v ≠ .lost → runKind r s = waits s)) ∧
    (r.kind = .waitOff →
      (present = false → runKind r s = failWith .absent s) ∧ (present = true → v = .off → runKind r s = succeed s) ∧
      (present = true → v ≠ .off → runKind r s = waits s)) ∧
    (r.kind = .waitLine →
      (sample = r.opB → runKind r s = succeed s) ∧ (sample ≠ r.opB → runKind r s = waits s)) ∧
    (r.kind = .clockUp →
      (s.clock.mode = .fastLoop → runKind r s = succeed s) ∧ (s.clock.mode = .fastRc → runKind r s = waits s) ∧
      (s.clock.mode = .slow → runKind r s = waits
        (s.setClock { s.clock with mode := .fastRc, loop := .acquiring, good := 0, window := none })))

/-- SEND_WIRE as its run begins in the running channel: NOT_OWN for a wire that is not OWN, with nothing sent; with a
free slot and no earlier frame waiting at the port of the wire's direction, its frame takes the slot, the level is
recorded and the step succeeds; else its frame waits behind the others, or with a duration of 0 is withdrawn and
the step fails with TIMEOUT; and under LRST no frame joins (R37, R146, R147). -/
def Claims.SendWireBegins : Prop :=
  ∀ (r : StepRec) (s : State), r.kind = .sendWire → s.eng.wait = .none → s.eng.cur = r → channelRuns s = true →
    let m := peek s.wire.map r.opA
    let e : WireLevel := { wire := r.opA, level := r.opB }
    let l := link s (portOf m.dir)
    let f : Frame :=
      { kind := .wire, route := false, bit6 := false, tag := 0,
        payload := [byteOf (r.opA.val + if r.opB then 64 else 0)] }
    (m.action ≠ .own → runKind r s = failWith .notOwn s) ∧
    (m.action = .own → SlotsOffered s → (∀ x ∈ s.hub.waiting ++ s.board.waiting, isSendWire x = false) →
      (s.lrst = false → l.tx.length < 8 →
        runKind r s = succeed ((setLink s (portOf m.dir) { l with tx := l.tx ++ [f] }).setWire
          { s.wire with level := poke s.wire.level r.opA r.opB })) ∧
      ((s.lrst = true ∨ 8 ≤ l.tx.length) → duration r.time = 0 → runKind r s = failWith .timeout s) ∧
      (s.lrst = false → 8 ≤ l.tx.length → duration r.time ≠ 0 →
        runKind r s = awaitStep (setLink s (portOf m.dir) { l with waiting := l.waiting ++ [.sendWire e] })) ∧
      (s.lrst = true → duration r.time ≠ 0 → runKind r s = awaitStep s))

/-- END as its run begins: it lifts hold, and ends at once with an empty Hold Queue. With the drain in progress it waits.
With hold active and the entries all in one frame, the drain frame takes a free slot in the same event, which ends
the step (DEDUCED, assumption 13); with the port's queue full it waits (R28, R121, R124). -/
def Claims.EndBegins : Prop :=
  ∀ (r : StepRec) (s : State) (d : Direction), r.kind = .endList → s.eng.wait = .none → s.hub.waiting = [] →
    s.board.waiting = [] → s.lrst = false → s.wire.kept = none →
    let l := link s (portOf d)
    let t := s.setWire { s.wire with hold := false }
    (s.wire.queue = [] → runKind r s = succeed t) ∧
    (s.wire.queue ≠ [] → s.wire.hold = false → runKind r s = awaitStep s) ∧
    (s.wire.queue ≠ [] → s.wire.hold = true → (∀ e ∈ s.wire.queue, wireDir s e.wire = d) → s.wire.queue.length ≤ 8 →
      (l.tx.length < 8 → runKind r s = succeed (drained t d)) ∧
      (8 ≤ l.tx.length → runKind r s = awaitStep (setLink t (portOf d) { l with waiting := [.drain] })))

/-- The steps as their runs begin, but for the rail steps, DELAY, RELEASE and MARK: LINE_SET, PULSE, CLOCK_DOWN and
ARM_WAKE, with the fires of an arming change, and WAIT_GOOD, WAIT_OFF, WAIT_LINE, CLOCK_UP, SEND_WIRE and END (R28,
R31, R32, R34, R35, R36, R37, R39, R40, R103, R134). -/
def Obligations.InstantSteps : Prop :=
  Claims.StepsAct ∧ Claims.ArmingFires ∧ Claims.WaitsBegin ∧ Claims.SendWireBegins ∧ Claims.EndBegins

/-- STEP_TIMER_EXPIRY at the boundary at which the count equals the duration, in the Normal channel in step
mode: DELAY ends with success, PULSE drives its line to the opposite level and ends with success, and
either leads on to a halt before the next step, committing where the step carries the commit flag (R26,
R33, R35, R14, R48, R50). -/
def Claims.ExpirySucceeds : Prop :=
  ∀ s : State, elapsed s s.eng.norm.start = duration s.eng.cur.time →
    (SteppingIn s .delay → exec .stepTimerExpiry s = .next (haltedAfter s)) ∧
    (SteppingIn s .pulse → exec .stepTimerExpiry s = .next (haltedAfter
      (s.setPins { s.pins with out := poke s.pins.out (lineOf s.eng.cur) (some (!s.eng.cur.opB)) })))

/-- STEP_TIMER_EXPIRY of a WAIT_GOOD, WAIT_OFF, WAIT_LINE, RELEASE, CLOCK_UP or SEND_WIRE: the step fails with
TIMEOUT. With fail action CONTINUE in step mode the failure is recorded and counted, and the channel halts
before the next step; a SEND_WIRE frame is withdrawn, the wire's level as it was (R26, R27, R31, R32, R36,
R37, R38, R39, R43). -/
def Claims.TimeoutFailsStep : Prop :=
  ∀ (k : StepKind) (s : State), SteppingIn s k → elapsed s s.eng.norm.start = duration s.eng.cur.time →
    s.eng.cur.action = .goOn →
    let e := { s.eng with inflight := warned s.eng.norm.idx .timeout s.eng.inflight }
    (k ∈ [StepKind.waitGood, .waitOff, .waitLine, .release, .clockUp] →
      exec .stepTimerExpiry s = .next (haltedAfter (s.setEng e))) ∧
    (k = .sendWire →
      exec .stepTimerExpiry s = .next (haltedAfter ((((s.setEng e).setHub
        { s.hub with waiting := s.hub.waiting.filter fun f => !isSendWire f }).setBoard
        { s.board with waiting := s.board.waiting.filter fun f => !isSendWire f }))))

/-- The Normal channel waits in a step of kind `k` below index 255, outside step mode, in a transition or a back-out,
and the step after it is a DELAY. -/
abbrev RunningIn (s : State) (k : StepKind) : Prop :=
  AtRest s ∧ s.eng.norm.st = .running ∧ s.eng.urg.running = false ∧ s.eng.wait = .step ∧ s.eng.cur.kind = k ∧
    s.eng.stepMode = false ∧ s.eng.norm.idx.val < 255 ∧ (s.psc.state = .transit ∨ s.psc.state = .backout) ∧
    LongDelay (peek s.eng.steps (nextIndex s))

/-- The state in which a step run of the Normal channel has led on and the next step, which waits, has begun: the step
that ended commits where it carries the flag and stands in a main list (R14), and the next run is counted, with
its own start tick and no retries used (R25, R26, R44, R52). -/
def normalOn (s : State) : State :=
  let c := s.eng.cur.commit && decide (s.psc.state = .transit)
  let r := s.eng.inflight
  let i := nextIndex s
  (s.setEng
    { s.eng with
      cur := peek s.eng.steps i, wait := .step, due := .nothing,
      norm := { s.eng.norm with idx := i, ran := i, start := s.clock.tick, retries := 0, rerunDue := false },
      inflight := { r with committed := r.committed || c, steps := min 65535 (r.steps + 1) } }).setPsc
    { s.psc with commit := s.psc.commit || c }

/-- The state in which the step's end has driven the line of a PULSE to the opposite level (R35). -/
def pulsed (s : State) : State :=
  s.setPins { s.pins with out := poke s.pins.out (lineOf s.eng.cur) (some (!s.eng.cur.opB)) }

/-- Outside step mode, STEP_TIMER_EXPIRY of a Normal step that succeeds, or that fails under CONTINUE, begins the next
step in the same event, shown where that is a DELAY; with a halt pending the channel halts before it instead (R14,
R25, R26, R33, R35, R43, R48). -/
def Claims.ExpiryLeadsOn : Prop :=
  ∀ (k : StepKind) (s : State), RunningIn s k → elapsed s s.eng.norm.start = duration s.eng.cur.time →
    let on (t : State) : State := if s.eng.norm.haltPending then haltedAfter t else normalOn t
    (k = .delay → exec .stepTimerExpiry s = .next (on s)) ∧
    (k = .pulse → exec .stepTimerExpiry s = .next (on (pulsed s))) ∧
    (k ∈ [StepKind.waitGood, .waitOff, .waitLine, .release, .clockUp] → s.eng.cur.action = .goOn →
      exec .stepTimerExpiry s =
        .next (on (s.setEng { s.eng with inflight := warned s.eng.norm.idx .timeout s.eng.inflight })))

/-- STEP_TIMER_EXPIRY of a DELAY or a PULSE in the Urgent channel ends the step with success and begins the next one in
the same event, shown where that is a DELAY; a commit flag is not acted on (R14, R25, R33, R35). -/
def Claims.UrgentLeadsOn : Prop :=
  ∀ (k : StepKind) (s : State), UrgentIn s k → elapsed s s.eng.urg.start = duration s.eng.cur.time →
    (k = .delay → exec .stepTimerExpiry s = .next (urgentOn s)) ∧
    (k = .pulse → exec .stepTimerExpiry s = .next (urgentOn (pulsed s)))

/-- STEP_TIMER_EXPIRY, for the kinds that succeed and for the kinds that fail with TIMEOUT, in step mode and outside it,
and in the Urgent channel (R14, R25, R26, R27, R33, R35, R43, R48). -/
def Obligations.ExpiryEndsStep : Prop :=
  Claims.ExpirySucceeds ∧ Claims.TimeoutFailsStep ∧ Claims.ExpiryLeadsOn ∧ Claims.UrgentLeadsOn

/-- The fail actions of a Normal step that has failed: the first failure is recorded whatever the action;
RETRY runs the step again while retries used is below the retry count, a stored 0 acting as 1; BACKOUT and
an exhausted RETRY lead to back-out under the three conditions, and else, with FAULT, end the list with
outcome FAILED_TO_FAULT and a FAULT trigger of cause STEP (R43, R44, R45, R11). -/
def Claims.NormalFailures : Prop :=
  ∀ (k : FailKind) (s : State), s.eng.urg.running = false → s.fault.first = none →
    let i := s.eng.norm.idx
    let limit := if s.eng.cur.retry.val = 0 then 1 else s.eng.cur.retry.val
    let can := s.psc.state = .transit ∧ s.psc.commit = false ∧
      (peek s.psc.trans (entryIndex s.psc.current s.psc.target)).backout.present = true
    let t := failNorm k s
    let ff := if s.eng.inflight.firstFailure.isSome then s.eng.inflight.firstFailure else some { step := i, kind := k }
    (s.eng.cur.action = .retry → s.eng.norm.retries.val < limit → s.eng.stepMode = false →
      s.eng.norm.haltPending = false →
      t.eng.due = .beginRun true ∧ t.eng.norm.idx = i ∧ t.eng.norm.retries = s.eng.norm.retries + 1 ∧
        t.eng.inflight.firstFailure = ff ∧ t.psc = s.psc) ∧
    ((s.eng.cur.action = .backout ∨ s.eng.cur.action = .retry ∧ limit ≤ s.eng.norm.retries.val) → can →
      t.psc = { s.psc with state := .backout, target := s.psc.current, slot := none } ∧
        t.eng.norm.idx = (peek s.psc.trans (entryIndex s.psc.current s.psc.target)).backout.value ∧
        t.eng.norm.retries = 0 ∧ t.eng.norm.haltPending = s.eng.norm.haltPending ∧ t.eng.due = .beginRun false ∧
        t.eng.inflight.firstFailure = ff ∧ t.eng.inflight.isOpen = s.eng.inflight.isOpen ∧ t.wire.hold = s.wire.hold) ∧
    ((s.eng.cur.action = .fault ∨
        (s.eng.cur.action = .backout ∨ s.eng.cur.action = .retry ∧ limit ≤ s.eng.norm.retries.val) ∧ ¬can) →
      t.psc.state = .urgent ∧ t.psc.latch = true ∧ t.eng.norm.st = .idle ∧
        t.eng.last.outcome = some .failedToFault ∧ t.eng.last.firstFailure = ff ∧
        t.fault.first = some { cause := .step, subject := i, psc := s.psc.state, level := s.psc.current, tick := s.clock.tick })

/-- A failed step run of the Urgent channel leads on whatever its fail action: the failure is recorded in the report
and counted as a warning and as an urgent step failure, saturating at 255, and the next step begins at once,
shown at a timeout and where the next step is a DELAY (R26, R27, R46). -/
def Claims.UrgentFailures : Prop :=
  ∀ (k : StepKind) (s : State), UrgentIn s k → k ∈ [StepKind.waitGood, .waitOff, .waitLine, .release, .clockUp] →
    elapsed s s.eng.urg.start = duration s.eng.cur.time → exec .stepTimerExpiry s = .next (urgentNext .timeout s)

/-- A run of the Normal channel past index 255: a DELAY that ends there, or another wait that fails with TIMEOUT there
under CONTINUE, ends the list with outcome RUNAWAY and a FAULT trigger of cause RUNAWAY, shown where the FAULT list
begins with a DELAY (R25, R43, R91). Whether a committing step commits there is a free value (assumption 6). -/
def Claims.NormalRunsAway : Prop :=
  ∀ (k : StepKind) (s : State), AtRest s → s.eng.norm.st = .running → s.eng.wait = .step → s.eng.cur.kind = k →
    s.eng.norm.idx = 255 → elapsed s s.eng.norm.start = duration s.eng.cur.time → FaultListReady s →
    (k = .delay ∨ k ∈ [StepKind.waitGood, .waitOff, .waitLine, .release, .clockUp] ∧ s.eng.cur.action = .goOn) →
    let r := if k = .delay then s.eng.inflight else warned 255 .timeout s.eng.inflight
    ∃ t : State, exec .stepTimerExpiry s = .next t ∧ RunsUrgent .fault s.psc.policy1.fault.value s t ∧
      t.psc.latch = true ∧ t.eng.norm.st = .idle ∧ t.eng.last.outcome = some .runaway ∧
      t.eng.last.endTick = some s.clock.tick ∧ t.eng.last.firstFailure = r.firstFailure ∧
      t.eng.last.warnings = r.warnings ∧
      t.fault.first = some
        { cause := .runaway, subject := 255, psc := s.psc.state, level := s.psc.current, tick := s.clock.tick }

/-- What follows a failed step run in either channel, and a run of the Normal channel past index 255 (R11, R25, R43,
R44, R45, R46). -/
def Obligations.FailActions : Prop := Claims.NormalFailures ∧ Claims.UrgentFailures ∧ Claims.NormalRunsAway

/-- WAIT_GOOD_COMPLETES: the settle expiry that makes the awaited NONE rail GOOD ends the step with success; the
channel halts in step mode before the next step, and the good time is written (R31, R65, R54, R62). That the
row carries out the settle expiry itself is DEDUCED (assumption 9). -/
def Claims.WaitGoodEnds : Prop :=
  ∀ (s : State) (settle drain : TimeField) (start : Tick), SteppingIn s .waitGood →
    let slot := slotOf s.eng.cur
    let st := peek s.rails.stat slot
    (peek s.rails.table slot).sense = .timed settle drain → st.verdict = .rising → st.timer = some start →
    elapsed s start = duration settle →
    exec .waitGoodCompletes s = .next (haltedAfter (withGoodTime (withStat s slot (moved st .good)) slot))

/-- WAIT_OFF_COMPLETES: the drain expiry that makes the awaited NONE rail OFF ends the step with success (R32,
R66). That the row carries out the drain expiry itself is DEDUCED (assumption 9). -/
def Claims.WaitOffEnds : Prop :=
  ∀ (s : State) (settle drain : TimeField) (start : Tick), SteppingIn s .waitOff →
    let slot := slotOf s.eng.cur
    let st := peek s.rails.stat slot
    (peek s.rails.table slot).sense = .timed settle drain → st.verdict = .draining → st.timer = some start →
    elapsed s start = duration drain →
    exec .waitOffCompletes s = .next (haltedAfter (withStat s slot (moved st .off)))

/-- WAIT_GOOD_COMPLETES and WAIT_OFF_COMPLETES on an awaited MONITORED rail: where the sample takes the rail to GOOD, to
LOST or to OFF, the row does all that the SCAN_PASS of the rail does, for the loss of a critical rail too, which in
the Normal channel cuts the step by an urgent start (R31, R32, R67). Shown in step mode, there with fail action
CONTINUE for a loss, and for critical rails where the FAULT list, or the next step of the urgent list, is a DELAY.
A sample that leaves the verdict ends no wait, and the row changes nothing. The row's part in the sample is DEDUCED
(assumption 9). -/
def Claims.WaitRowsSample : Prop :=
  ∀ (s : State) (r : RailRec) (b : Bands) (v : Verdict),
    let slot := slotOf s.eng.cur
    Sampled s slot r b v →
    let code := codeAt s r
    let st := peek s.rails.stat slot
    let f := max 1 r.filter.val
    let up := if bandClass b code = .inGood then st.inCount + 1 else 0
    let ov := if isOver b code then st.overCount + 1 else 0
    let low := if belowDrain b code then st.lowCount + 1 else 0
    (v = .rising → waitsIn s .waitGood = true →
      (SteppingIn s .waitGood → f ≤ up → exec .waitGoodCompletes s = exec (.scanPass [slot]) s) ∧
      (SteppingIn s .waitGood → r.critical = false → s.eng.cur.action = .goOn → up < f → f ≤ ov →
        exec .waitGoodCompletes s = exec (.scanPass [slot]) s) ∧
      ((FaultListReady s ∨ UrgentIn s .waitGood) → r.critical = true → up < f → f ≤ ov →
        exec .waitGoodCompletes s = exec (.scanPass [slot]) s) ∧
      (up < f → ov < f → exec .waitGoodCompletes s = .next s)) ∧
    (v = .draining → waitsIn s .waitOff = true →
      (SteppingIn s .waitOff → f ≤ low → exec .waitOffCompletes s = exec (.scanPass [slot]) s) ∧
      (low < f → exec .waitOffCompletes s = .next s))

/-- What a WAIT_GOOD_COMPLETES that loses a critical rail leaves in the Normal channel where the FAULT list is absent,
the report of the transition closed STOPPED with no failure added: the built-in shutdown takes the rail down, with
one loss counted (R31, R67, R68, R83, R86, R91). Stated with entries in the Hold Queue that find no free slot, so
that the shutdown waits. -/
def Claims.CriticalWaitCut : Prop :=
  ∀ (s : State) (r : RailRec) (b : Bands),
    let slot := slotOf s.eng.cur
    Sampled s slot r b .rising → r.critical = true → waitsIn s .waitGood = true → s.eng.urg.running = false →
    s.psc.policy1.fault.present = false → s.fault.first = none → (peek s.rails.stat slot).en = .asserted →
    let code := codeAt s r
    let st := peek s.rails.stat slot
    let f := max 1 r.filter.val
    (if bandClass b code = .inGood then st.inCount + 1 else 0) < f →
    f ≤ (if isOver b code then st.overCount + 1 else 0) → s.wire.queue ≠ [] → s.wire.hold = false → SlotsOffered s →
    ∃ t : State, exec .waitGoodCompletes s = .next t ∧ t.psc.state = .urgent ∧ t.psc.latch = true ∧
      t.eng.urg.running = true ∧ t.eng.urg.kind = some .fault ∧ t.eng.wait = .builtin ∧ t.eng.norm.st = .idle ∧
      t.eng.last.outcome = some .stopped ∧ t.eng.last.firstFailure = s.eng.inflight.firstFailure ∧
      (peek t.rails.stat slot).verdict = .draining ∧ (peek t.rails.stat slot).en = .deasserted ∧
      (peek t.rails.stat slot).lost = min 255 (st.lost + 1) ∧
      t.fault.first = some
        { cause := .rail, subject := Fin.ofNat 256 slot.val, psc := s.psc.state, level := s.psc.current,
          tick := s.clock.tick }

/-- WAIT_GOOD_COMPLETES and WAIT_OFF_COMPLETES, on NONE and on MONITORED rails (R31, R32, R54, R62, R65, R66, R67, R86;
the rows' part in the rail's event is DEDUCED, assumption 9). -/
def Obligations.RailWaitsEnd : Prop :=
  Claims.WaitGoodEnds ∧ Claims.WaitOffEnds ∧ Claims.WaitRowsSample ∧ Claims.CriticalWaitCut

/-- WAIT_LINE_COMPLETES: the raw sample of the awaited line at this boundary ends the step when it has the
awaited level (R36). That the row takes the sample, and that it becomes the most recent one in either case, is
DEDUCED (assumption 9). -/
def Obligations.WaitLineEnds : Prop :=
  ∀ s : State, SteppingIn s .waitLine →
    let n : Fin 9 := Fin.castLE (by decide) (lineOf s.eng.cur)
    let level := s.pins.now.ins.getLsbD (lineOf s.eng.cur).val
    let t := s.setWake { s.wake with sample := poke s.wake.sample n level }
    (level = s.eng.cur.opB → exec .waitLineCompletes s = .next (haltedAfter t)) ∧
    (level ≠ s.eng.cur.opB → exec .waitLineCompletes s = .next t)

/-- CLOCK_UP_COMPLETES: the fourth good window sets LOCKED and moves the core from FAST_RC to FAST_LOOP, and the
waiting step ends with success (R39, R131, R133). That the row is the end of the window is DEDUCED (assumption
9). -/
def Obligations.ClockUpEnds : Prop :=
  ∀ (count : Nat) (start : Tick) (s : State), SteppingIn s .clockUp → s.clock.mode = .fastRc →
    s.clock.loop = .tracking → s.clock.locked = false → s.clock.good = 3 → s.clock.source = .so →
    s.clock.window = some start → elapsed s start = 16 → 8152 ≤ count → count ≤ 8232 →
    exec (.clockUpCompletes count) s = .next (haltedAfter (s.setClock
      { s.clock with good := 4, window := some s.clock.tick, locked := true, mode := .fastLoop,
                     lockChanges := min 255 (s.clock.lockChanges + 1) }))

/-- RELEASE_COMPLETES: the drain frame that empties the Hold Queue takes its slot, and the waiting step ends with
success (R38, R124). That the row is the drain frame's taking of its slot is DEDUCED (assumption 9). -/
def Claims.ReleaseDrains : Prop :=
  ∀ (s : State) (d : Direction), SteppingIn s .release → LastDrain s d →
    exec .releaseCompletes s = .next (haltedAfter (drained s d))

/-- RELEASE begins: it succeeds at once with an empty Hold Queue; with entries in the queue it lifts hold, and a
duration of 0 fails with TIMEOUT at once while any other waits (R38). With hold active and the entries all in one
frame, the drain frame takes a free slot in the same event (DEDUCED, assumption 13), which ends a step that has a
duration; with the port's queue full, the drain frame waits. -/
def Claims.ReleaseBegins : Prop :=
  ∀ (r : StepRec) (s : State) (d : Direction), r.kind = .release → s.eng.wait = .none → s.hub.waiting = [] →
    s.board.waiting = [] → s.lrst = false → s.wire.kept = none →
    let l := link s (portOf d)
    let t := s.setWire { s.wire with hold := false }
    (s.wire.queue = [] → runKind r s = succeed t) ∧
    (s.wire.queue ≠ [] → s.wire.hold = false →
      (duration r.time = 0 → runKind r s = failWith .timeout s) ∧ (duration r.time ≠ 0 → runKind r s = awaitStep s)) ∧
    (s.wire.queue ≠ [] → s.wire.hold = true → (∀ e ∈ s.wire.queue, wireDir s e.wire = d) → s.wire.queue.length ≤ 8 →
      (l.tx.length < 8 → duration r.time = 0 → runKind r s = failWith .timeout (drained t d)) ∧
      (l.tx.length < 8 → duration r.time ≠ 0 → runKind r s = succeed (drained t d)) ∧
      (8 ≤ l.tx.length → duration r.time = 0 →
        runKind r s = failWith .timeout (setLink t (portOf d) { l with waiting := [.drain] })) ∧
      (8 ≤ l.tx.length → duration r.time ≠ 0 →
        runKind r s = awaitStep (setLink t (portOf d) { l with waiting := [.drain] })))

/-- RELEASE: its start and its end (R38, R124; assumptions 9, 13 and 29). -/
def Obligations.ReleaseEnds : Prop := Claims.ReleaseDrains ∧ Claims.ReleaseBegins

/-- END_COMPLETES in the Normal channel: the drain frame that empties the Hold Queue takes its slot and the list
settles in its target level, shown with an absent slot, no source armed by the move and a target other
than WORKING: the channel is IDLE, the current level and the Armed Level are the target, the report closes
COMPLETED or BACKED_OUT and is copied to the last report, and a pending halt is cleared (R28, R15, R16,
R49). That the row is the drain frame's taking of its slot is DEDUCED (assumption 9), and so is the absent
origin of the IDLE channel (assumption 16). -/
def Claims.NormalEndSettles : Prop :=
  ∀ (s : State) (d : Direction), AtRest s → s.eng.norm.st = .running → s.eng.urg.running = false →
    s.eng.wait = .step → s.eng.cur.kind = .endList → (s.psc.state = .transit ∨ s.psc.state = .backout) →
    LastDrain s d → s.psc.slot = none → s.psc.target ≠ .working → (∀ n : Fin 9, (peek s.wake.det n).active = false) →
    exec .endCompletes s = .next (settledNorm (drained s d))

/-- END_COMPLETES in the Normal channel with a level in the slot, its drain and settle as in the claim before: the level
settled in, or any level behind a closed gate, only clears the slot, and another level is then taken as a request
event in the settled level (R15, R16). -/
def Claims.SettleServesSlot : Prop :=
  ∀ (q : Level) (s : State) (d : Direction), AtRest s → s.eng.norm.st = .running → s.eng.urg.running = false →
    s.eng.wait = .step → s.eng.cur.kind = .endList → (s.psc.state = .transit ∨ s.psc.state = .backout) →
    LastDrain s d → s.psc.slot = some q → s.psc.target ≠ .working → (∀ n : Fin 9, (peek s.wake.det n).active = false) →
    let t := settledNorm (drained s d)
    ((q = s.psc.target ∨ s.psc.gateClosed = true) → exec .endCompletes s = .next t) ∧
    (q ≠ s.psc.target → s.psc.gateClosed = false → RequestTaken q t fun u => exec .endCompletes s = .next u)

/-- The settle in any level serves its slot last: the slot is cleared, and where the gate is open and it held another
level, that level is taken as a request event of the state the settle with an absent slot leaves (R15, R16). -/
def Claims.SlotServedLast : Prop :=
  ∀ (x q : Level) (o : ReportOutcome) (s : State), s.psc.slot = some q →
    let t := settle x o (s.setPsc { s.psc with slot := none })
    ((q = x ∨ s.psc.gateClosed = true) → settle x o s = t) ∧
    (q ≠ x → s.psc.gateClosed = false → settle x o s = requestEvent q t)

/-- END_COMPLETES in the Urgent channel, for an END step, the drain wait of the built-in shutdown and the runaway wait:
the list settles in SOFT_OFF with the slot cleared unserved and the report closed COMPLETED or RUNAWAY; the gate
opens, with the off-notice wire at level 0, exactly when SOFT_OFF is requested; and a pending restore action is
taken (R15, R16, R20, R22, R89). Shown with no source armed by the move, an empty Pending Wake Queue and slots
free at the Hub Port; the latch and the rails are left. The row's part in the drain is assumption 9, the index and
origin of the IDLE channel assumption 16. -/
def Claims.UrgentEndSettles : Prop :=
  ∀ (s : State) (d : Direction), AtRest s → s.eng.urg.running = true →
    UrgentDrains s → LastDrain s d → s.psc.gateClosed = true → (∀ n : Fin 9, (peek s.wake.det n).active = false) →
    s.wake.queue = [] → s.hub.tx.length ≤ 5 →
    exec .endCompletes s = .next (settledUrgent (urgentOutcome s) (drained s d))

/-- A run of the Urgent channel past index 255: a DELAY that ends there, or another wait that fails with TIMEOUT there
whatever its fail action, leads on to the runaway wait while the Hold Queue holds entries, and else to the urgent
end with outcome RUNAWAY. Only the failure itself is recorded and counted, and no FAULT trigger is raised (R25,
R46). Shown with hold lifted, and for the end with the conditions of the claim before. What index and start tick
read during the wait is a DESIGN CHOICE (assumption 28). -/
def Claims.UrgentRunsAway : Prop :=
  ∀ (k : StepKind) (s : State), AtRest s → s.eng.urg.running = true → s.eng.wait = .step → s.eng.cur.kind = k →
    s.eng.urg.idx = 255 → k ∈ [StepKind.delay, .waitGood, .waitOff, .waitLine, .release, .clockUp] →
    elapsed s s.eng.urg.start = duration s.eng.cur.time → s.wire.hold = false →
    let t := if k = .delay then s
      else (s.setEng { s.eng with inflight := warned 255 .timeout s.eng.inflight }).setFault
        { s.fault with urgentFails := min 255 (s.fault.urgentFails + 1) }
    (s.wire.queue ≠ [] → exec .stepTimerExpiry s = .next (t.setEng { t.eng with wait := .runaway })) ∧
    (s.wire.queue = [] → s.psc.gateClosed = true → (∀ n : Fin 9, (peek s.wake.det n).active = false) →
      s.wake.queue = [] → HubOpen s → s.hub.tx.length ≤ 5 →
      exec .stepTimerExpiry s = .next (settledUrgent .runaway t))

/-- END_COMPLETES in either channel, the slot served at the settle, and the runaway of an urgent list (R15, R16, R20,
R22, R25, R28, R49, R89; assumptions 9, 16, 28 and 29). -/
def Obligations.EndSettles : Prop :=
  Claims.NormalEndSettles ∧ Claims.SettleServesSlot ∧ Claims.SlotServedLast ∧ Claims.UrgentEndSettles ∧
    Claims.UrgentRunsAway

/-- The settle in WORKING copies the source numbers of the Pending Wake Queue, in queue order, into the wake list
of the report that closes, and empties the queue; in any other level it leaves the queue and the wake list
(R15, R108). Stated of the settle whose slot is absent and whose move arms no source. -/
def Claims.SettleCopies : Prop :=
  ∀ (x : Level) (o : ReportOutcome) (s : State), s.psc.slot = none → (∀ n : Fin 9, (peek s.wake.det n).active = false) →
    let t := settle x o s
    t.wake.queue = (if x = .working then [] else s.wake.queue) ∧
      t.eng.last.wakeList = (if x = .working then s.wake.queue.map WakeEntry.source else s.eng.inflight.wakeList) ∧
      t.eng.last.outcome = some o ∧ t.eng.last.endTick = some s.clock.tick ∧ t.eng.last.isOpen = false ∧
      t.eng.inflight = t.eng.last ∧ t.psc.state = levelState x ∧ t.psc.current = x ∧ t.psc.target = x ∧
      t.psc.commit = false ∧ t.wake.armed = x ∧ t.rails = s.rails ∧ t.wire = s.wire ∧ t.clock = s.clock

/-- The move of the Armed Level, with the fires of its arming change, comes before the copy: what the settle copies in
WORKING and keeps elsewhere is the Pending Wake Queue those fires leave, and their notices stand (R15, R103). -/
def Claims.SettleArmsFirst : Prop :=
  ∀ (x : Level) (o : ReportOutcome) (s : State), s.psc.slot = none →
    let a := setArmed x s
    let t := settle x o s
    t.wake.queue = (if x = .working then [] else a.wake.queue) ∧
      t.eng.last.wakeList = (if x = .working then a.wake.queue.map WakeEntry.source else s.eng.inflight.wakeList) ∧
      t.wake.missed = a.wake.missed ∧ t.wake.overflow = a.wake.overflow ∧ t.wake.det = s.wake.det ∧
      t.wake.armed = x ∧ t.hub = a.hub ∧ t.board = a.board

/-- The settle, the wakes it takes and the sources it arms (R15, R103, R108). -/
def Obligations.SettleTakesWakes : Prop := Claims.SettleCopies ∧ Claims.SettleArmsFirst

/-! ## The PSC (chapter 1) -/

/-- A request event in a level state, the whole of R7 and R8 with the start of R9: with the gate closed it opens
the gate for SOFT_OFF and else only clears the slot; with the gate open it does nothing for the level held,
is refused LATCHED or UNSUPPORTED with a report that opens and closes at once, or starts the transition of
the entry: TRANSIT, hold active, a new report, and the channel at the entry's main start. -/
def Claims.LevelRequest : Prop :=
  ∀ (l q : Level) (s : State), s.psc.state = levelState l →
    let t := requestEvent q s
    let i := entryIndex l q
    let refused (o : ReportOutcome) : State :=
      let r := { emptyReport with
        origin := .entry i, fromLevel := l, toLevel := q, outcome := some o, startTick := s.clock.tick,
        endTick := some s.clock.tick }
      s.setEng { s.eng with inflight := r, last := r }
    (s.psc.gateClosed = true → q ≠ .softOff → t = s.setPsc { s.psc with slot := none }) ∧
    (s.psc.gateClosed = true → q = .softOff →
      t.psc = { s.psc with gateClosed := false } ∧ t.eng.inflight = s.eng.inflight ∧ t.eng.last = s.eng.last) ∧
    (s.psc.gateClosed = false → q = l → t = s) ∧
    (s.psc.gateClosed = false → q ≠ l → q = .working → s.psc.latch = true → t = refused .latched) ∧
    (s.psc.gateClosed = false → q ≠ l → ¬(q = .working ∧ s.psc.latch = true) → (peek s.psc.trans i).present = false →
      t = (refused .unsupported).setPsc { s.psc with unsupported := true }) ∧
    (s.psc.gateClosed = false → q ≠ l → ¬(q = .working ∧ s.psc.latch = true) → (peek s.psc.trans i).present = true →
      t = ((s.setPsc { s.psc with state := .transit, target := q, commit := false }).setWire
        { s.wire with hold := true }).setEng
        { s.eng with
          norm := { s.eng.norm with
            st := .running, origin := some { entry := i, backout := false }, idx := (peek s.psc.trans i).mainStart,
            retries := 0, rerunDue := false },
          wait := .none, due := .beginRun false,
          inflight := { emptyReport with
            isOpen := true, origin := .entry i, fromLevel := l, toLevel := q, startTick := s.clock.tick } })

/-- The opening of the gate records the off-notice wire at level 0 and sends it toward the Hub Port, and does nothing
more (R7, R20, R125). Stated with no internal frame waiting. -/
def Claims.GateOpens : Prop :=
  ∀ (l : Level) (s : State), s.psc.state = levelState l → s.psc.gateClosed = true → s.hub.waiting = [] →
    s.board.waiting = [] → s.wire.kept = none →
    requestEvent .softOff s = offNoticed false (s.setPsc { s.psc with gateClosed := false })

/-- A request event in a level state, with the off-notice wire at the gate's opening (R7, R8, R9, R20, R125). -/
def Obligations.RequestInLevelState : Prop := Claims.LevelRequest ∧ Claims.GateOpens

/-- A request event outside the level states: in TRANSIT the target clears the slot, the from-level begins
back-out where the transition is uncommitted and has a back-out list, and any other goes into the slot; in
BACKOUT, URGENT and HALTED it goes into the slot; in LOADING none is taken (R4, R10, R11, R12). -/
def Obligations.RequestOutsideLevelState : Prop :=
  ∀ (q : Level) (s : State),
    let t := requestEvent q s
    let e := peek s.psc.trans (entryIndex s.psc.current s.psc.target)
    let back := q = s.psc.current ∧ s.psc.commit = false ∧ e.backout.present = true
    (s.psc.state = .loading → t = s) ∧
    ((s.psc.state = .backout ∨ s.psc.state = .urgent ∨ s.psc.state = .halted) → t = s.setPsc { s.psc with slot := some q }) ∧
    (s.psc.state = .transit → q = s.psc.target → t = s.setPsc { s.psc with slot := none }) ∧
    (s.psc.state = .transit → q ≠ s.psc.target → ¬back → t = s.setPsc { s.psc with slot := some q }) ∧
    (s.psc.state = .transit → q ≠ s.psc.target → back →
      t.psc = { s.psc with state := .backout, target := s.psc.current, slot := none } ∧
        t.eng.norm.st = .running ∧ t.eng.norm.idx = e.backout.value ∧ t.eng.norm.retries = 0 ∧
        t.eng.norm.haltPending = s.eng.norm.haltPending ∧ t.eng.wait = .none ∧ t.eng.due = .beginRun false ∧
        t.eng.inflight = s.eng.inflight ∧ t.wire = s.wire ∧ t.rails = s.rails ∧ t.wake = s.wake ∧ t.clock = s.clock)

/-! ## Link ports (chapter 9) -/

/-- FRAME_RECEPTION_BEGINS: outside LRST, with no frame in reception and the line rested where the release of LRST
asks for it, the reception begins, with a receive slot exactly when the port is READY; under LRST, or before
that rest, the start bit is ignored (R142, R144, R147, R148). -/
def Obligations.ReceptionBegins : Prop :=
  ∀ (port : Port) (rested : Bool) (s : State), AtRest s →
    let l := link s port
    (s.lrst = false → l.receiving = none → (l.needRest = false ∨ rested = true) →
      exec (.frameReceptionBegins port rested) s = .next (setLink s port
        { l with receiving := some (decide (l.rx.length < 4) && decide (s.psc.state ≠ .loading)), needRest := false })) ∧
    ((s.lrst = true ∨ l.needRest = true ∧ rested = false) →
      exec (.frameReceptionBegins port rested) s = .next s)

/-- FRAME_ARRIVAL: the five checks in order, each dropping the frame with its one count, and a frame that passes
them entering the receive queue at its tail, whatever its route bit; with the CRC-8 of polynomial
x^8 + x^2 + x + 1 and initial value 0 (R143). -/
def Obligations.FrameArrives : Prop :=
  (crc8 [] = 0 ∧ ∀ (bs : List Byte) (b : Byte), crc8 (bs ++ [b]) =
    (List.range 8).foldl (fun c _ => if c.getLsbD 7 then (c <<< 1) ^^^ 0x07 else c <<< 1) (crc8 bs ^^^ b)) ∧
  ∀ (port : Port) (bytes : List Byte) (framing slot : Bool) (s : State), AtRest s →
    (link s port).receiving = some slot →
    let l := { link s port with receiving := none }
    let k := l.counters
    let n := bytes.length
    let kind := (byteAt bytes 0).toNat / 16
    let fault := framing = true ∨ 18 < n ∨ n < 3
    let crcOk := crc8 (bytes.take (n - 1)) = byteAt bytes (n - 1)
    let lengthOk := (byteAt bytes 0).toNat % 16 + 3 = n
    let answer (x : Link) : Prop := exec (.frameArrival port bytes framing) s = .next (setLink s port x)
    (slot = false → answer { l with counters := { k with overrun := min 65535 (k.overrun + 1) } }) ∧
    (slot = true → fault → answer { l with counters := { k with malformed := min 65535 (k.malformed + 1) } }) ∧
    (slot = true → ¬fault → ¬crcOk → answer { l with counters := { k with crcErr := min 65535 (k.crcErr + 1) } }) ∧
    (slot = true → ¬fault → crcOk → ¬lengthOk →
      answer { l with counters := { k with malformed := min 65535 (k.malformed + 1) } }) ∧
    (slot = true → ¬fault → crcOk → lengthOk → (kind = 0 ∨ 4 < kind) →
      answer { l with counters := { k with unknown := min 65535 (k.unknown + 1) } }) ∧
    ∀ fk : FrameKind, slot = true → ¬fault → crcOk → lengthOk → fk ≠ .mgmtRsp → frameCode fk = kind →
      answer { l with rx := l.rx ++ [{
        kind := fk, route := (byteAt bytes 1).getLsbD 7, bit6 := (byteAt bytes 1).getLsbD 6,
        tag := (byteAt bytes 1).setWidth 6, payload := (bytes.take (n - 1)).drop 2 }] }

/-- DRAIN_FRAME_TAKES_SLOT: the drain frame carries the head entry and those after it of its direction, at most 8, and
they leave the queue. While entries remain, a new drain frame waits at the port of the new head's direction, and
whatever the engine waits for goes on; that it waits for its own row is DEDUCED (assumption 13), and that a frame takes
entries that joined while it waited a DESIGN CHOICE (assumption 29). The last frame ends
a RELEASE or what waits for the drain at the end of a list, as the rows RELEASE_COMPLETES and END_COMPLETES do, and
no other step (R124, R28, R38). -/
def Claims.DrainProceeds : Prop :=
  ∀ (d : Direction) (es back : List WireLevel) (s : State), AtRest s → DrainReady s d es back →
    (back ≠ [] → exec .drainFrameTakesSlot s = .next (drainedPart s d es back)) ∧
    (back = [] → (s.eng.wait = .none ∨ s.eng.wait = .step ∧ s.eng.cur.kind ≠ .endList ∧ s.eng.cur.kind ≠ .release) →
      exec .drainFrameTakesSlot s = .next (drainedPart s d es back)) ∧
    (back = [] → waitsIn s .release = true → exec .drainFrameTakesSlot s = exec .releaseCompletes s) ∧
    (back = [] → (waitsIn s .endList = true ∨ s.eng.wait = .runaway ∨ s.eng.wait = .builtin) →
      exec .drainFrameTakesSlot s = exec .endCompletes s)

/-- The rows by which frames leave and take transmit slots: SEND_COMPLETION frees the head's slot;
INTERNAL_FRAME_TAKES_SLOT moves the oldest waiting notice or wire frame into a free slot; the frame of a
SEND_WIRE step records its level and ends its step; the drain frame takes its entries from the Hold Queue, as the
claim before says; and the management response takes a slot only when no internal frame waits and no forwarded frame is due,
which leaves the agent IDLE (R145, R146, R37, R124, R150). That SEND_COMPLETION only frees the slot while internal
frames wait is DEDUCED (assumption 13), and so is that the response's row changes nothing where the response
gives way (assumption 10). -/
def Obligations.SlotsTaken : Prop :=
  (∀ (p : Port) (s : State), AtRest s →
    exec (.sendCompletion p) s = .next (setLink s p { link s p with tx := (link s p).tx.tail })) ∧
  (∀ (p : Port) (rest : List Internal) (s : State), AtRest s → s.lrst = false → s.wire.kept = none →
    (link s p).tx.length < 8 →
    (∀ src : Fin 14, (link s p).waiting = .notice src :: rest →
      exec (.internalFrameTakesSlot p) s = .next (setLink s p
        { link s p with waiting := rest, tx := (link s p).tx ++ [noticeFrame src] })) ∧
    ∀ es : List WireLevel, (link s p).waiting = .wires es :: rest →
      exec (.internalFrameTakesSlot p) s = .next (setLink s p
        { link s p with waiting := rest, tx := (link s p).tx ++ [wireFrame 0 es] })) ∧
  (∀ (p : Port) (e : WireLevel) (rest : List Internal) (s : State), SteppingIn s .sendWire → s.lrst = false →
    s.wire.kept = none → (link s p).tx.length < 8 → (link s p).waiting = .sendWire e :: rest →
    (link s p.other).waiting = [] →
    exec .sendWireFrameTakesSlot s = .next (haltedAfter ((setLink s p
      { link s p with waiting := rest, tx := (link s p).tx ++ [wireFrame 0 [e]] }).setWire
      { s.wire with level := poke s.wire.level e.wire e.level }))) ∧
  Claims.DrainProceeds ∧
  ∀ (a : Service) (s : State), AtRest s → s.agent = some a → s.lrst = false → s.wire.kept = none →
    (link s a.port).tx.length < 8 → (link s a.port).waiting = [] →
    ((∀ f ∈ (link s a.port.other).rx.head?, f.kind ≠ .wire ∧ (f.kind = .data → f.route = true)) →
      exec .mgmtResponseTakesSlot s = .next ((setLink s a.port
        { link s a.port with tx := (link s a.port).tx ++ [a.response] }).setAgent none)) ∧
    ∀ f ∈ (link s a.port.other).rx.head?, (f.kind = .wire ∨ f.kind = .data ∧ f.route = false) →
      exec .mgmtResponseTakesSlot s = .next s

/-- The state at the assertion of LRST, before any request event or step's end: the ports, the agent and the Hold
Queue emptied, the pointer at the Hub Port, the port counters 0, and outside LOADING every wire that is not
OWN at its default level; the Wire Map, the OWN levels, hold and the classifier's counters kept (R115, R126,
R147, R149, R150). -/
def linkReset (s : State) : State :=
  let off (l : Link) : Link := { l with rx := [], receiving := none, tx := [], waiting := [], counters := zeroCounters }
  ((((s.setLrst true).setHub (off s.hub)).setBoard (off s.board)).setAgent none).setWire
    { s.wire with
      queue := [], pointer := .hub, kept := none,
      level := if s.psc.state = .loading then s.wire.level
        else Vector.ofFn fun w =>
          if (peek s.wire.map w).action = .own then peek s.wire.level w else (peek s.wire.map w).deflt }

/-- LRST_ASSERTED where the new levels ask for the level asked for before: the link reset alone, with no step waiting or
with one that waits for anything but the drain (a SEND_WIRE keeps its claim, R37), and with a waiting RELEASE ended
with success, whichever order is taken (R126, R147, R38, R4). Asserted already, it changes nothing: DEDUCED
(assumption 22). -/
def Claims.LinkResetAlone : Prop :=
  ∀ (endFirst : Bool) (s : State), AtRest s →
    (s.lrst = true → exec (.lrstAsserted endFirst) s = .next s) ∧
    (s.lrst = false → requested (linkReset s) = requested s →
      ((s.eng.wait = .none ∨ s.eng.wait = .step ∧ s.eng.cur.kind ≠ .endList ∧ s.eng.cur.kind ≠ .release) →
        exec (.lrstAsserted endFirst) s = .next (linkReset s)) ∧
      (SteppingIn s .release → exec (.lrstAsserted endFirst) s = .next (haltedAfter (linkReset s))))

/-- LRST_ASSERTED ends an END that waits for the drain, and the drain waits of the Urgent channel, since the Hold Queue is
emptied: the list settles as it does at END_COMPLETES (R25, R28, R86, R126). Stated where the new levels ask for the
level asked for before, with an absent slot, no source armed by the move, and a target other than WORKING in the
Normal channel; the origin and index of the IDLE channel are assumption 16. The Policy's wires keep their
constraints against the Wire Map, as every checked write and the blank tables keep them (R3, R5, R117, R139). -/
def Claims.LinkResetEnds : Prop :=
  ∀ (endFirst : Bool) (s : State), AtRest s → s.lrst = false → requested (linkReset s) = requested s →
    policyWiresOk s.wire.map s.psc.policy0 = true →
    (∀ n : Fin 9, (peek s.wake.det n).active = false) →
    (s.eng.norm.st = .running → s.eng.urg.running = false → s.eng.wait = .step → s.eng.cur.kind = .endList →
      (s.psc.state = .transit ∨ s.psc.state = .backout) → s.psc.slot = none → s.psc.target ≠ .working →
      exec (.lrstAsserted endFirst) s = .next (settledNorm (linkReset s))) ∧
    (s.eng.urg.running = true → UrgentDrains s → s.psc.state = .urgent → s.psc.gateClosed = true → s.wake.queue = [] →
      exec (.lrstAsserted endFirst) s = .next (settledUrgent (urgentOutcome s) (linkReset s)))

/-- LRST_ASSERTED where the new levels ask for another level: one request event with the new value, taken after the link
reset, with no step waiting or one that waits for anything but the drain (R4, R126). -/
def Claims.LinkResetRequests : Prop :=
  ∀ (endFirst : Bool) (s : State), AtRest s → s.lrst = false → s.psc.state ≠ .loading →
    let q := requested (linkReset s)
    q ≠ requested s →
    (s.eng.wait = .none ∨ s.eng.wait = .step ∧ s.eng.cur.kind ≠ .endList ∧ s.eng.cur.kind ≠ .release) →
    RequestTaken q (linkReset s) fun t => exec (.lrstAsserted endFirst) s = .next t

/-- LRST_ASSERTED: the link reset, the waits it ends, and its request event (R4, R25, R28, R37, R38, R115, R126, R147,
R149, R150; assumptions 16 and 22). -/
def Obligations.LinkResetAsserts : Prop :=
  Claims.LinkResetAlone ∧ Claims.LinkResetEnds ∧ Claims.LinkResetRequests

/-- LRST_RELEASED: READY is no longer held low, each port waits for a rest of its line, every OWN wire is sent
again at its level, packed in ascending order up to 8 to a frame by direction, and below WORKING each queued
wake is announced once in queue order; nothing else changes. Stated with empty transmit queues, the two sets
apart (R113, R127, R148). -/
def Claims.LinkResetReturns : Prop :=
  ∀ (wiresFirst : Bool) (s : State), AtRest s → s.lrst = true → s.wire.kept = none → s.hub.tx = [] → s.board.tx = [] →
    s.hub.waiting = [] → s.board.waiting = [] → waitsIn s .sendWire = false →
    let t := (s.setLrst false)
    (s.psc.state = .loading → exec (.lrstReleased wiresFirst) s = .next
      ((t.setHub { s.hub with needRest := true }).setBoard { s.board with needRest := true })) ∧
    ((s.psc.state = .working ∨ s.psc.state = .transit ∨ s.psc.state = .backout ∨ s.psc.state = .urgent ∨
        s.psc.state = .halted) →
      exec (.lrstReleased wiresFirst) s = .next
        ((t.setHub { s.hub with needRest := true, tx := (packFrames (ownLevels s .up)).map (wireFrame 0) }).setBoard
          { s.board with needRest := true, tx := (packFrames (ownLevels s .down)).map (wireFrame 0) })) ∧
    ((s.psc.state = .suspend ∨ s.psc.state = .hibernate ∨ s.psc.state = .softOff) →
      (∀ w : Fin 64, (peek s.wire.map w).action ≠ .own) → s.wake.queue.length ≤ 8 →
      exec (.lrstReleased wiresFirst) s = .next
        ((t.setHub { s.hub with needRest := true, tx := s.wake.queue.map fun e => noticeFrame e.source }).setBoard
          { s.board with needRest := true }))

/-- The frame that a waiting internal frame becomes as it takes a slot, but for the drain frame, which carries what the
Hold Queue then gives (R107, R125, R127). -/
def frameOf : Internal → Frame
  | .notice src => noticeFrame src
  | .wires es => wireFrame 0 es
  | .sendWire e => wireFrame 0 [e]
  | .drain => wireFrame 0 []

/-- The internal frames created at the Hub Port by a release of LRST, in creation order: the OWN wires of direction UP
and, in SUSPEND, HIBERNATE and SOFT_OFF, the queued wakes (R113, R127). -/
def releasedFrames (wiresFirst : Bool) (s : State) : List Internal :=
  let wires := (packFrames (ownLevels s .up)).map .wires
  let wakes := if s.psc.state = .suspend ∨ s.psc.state = .hibernate ∨ s.psc.state = .softOff then
    s.wake.queue.map fun e => .notice e.source else []
  if wiresFirst then wires ++ wakes else wakes ++ wires

/-- A port with empty queues once frames have been created at it: the first eight in its transmit queue, the others
waiting (R145, R146). -/
def offered8 (fs : List Internal) (l : Link) : Link :=
  { l with needRest := true, tx := (fs.take 8).map frameOf, waiting := fs.drop 8 }

/-- LRST_RELEASED after the load, the OWN wires and the queued wakes together in the order of the operand: what does not
fit in the transmit queues waits. The frame of a SEND_WIRE that waited through the reset comes last at its port: it
takes a slot where one is left, which records its level and ends the step, and else waits (R37, R113, R127, R148).
That the operand gives the order is a DESIGN CHOICE (assumption 3). -/
def Claims.LinkResetReannounces : Prop :=
  ∀ (wiresFirst : Bool) (s : State), AtRest s → s.lrst = true → s.psc.state ≠ .loading → s.wire.kept = none →
    s.hub.tx = [] → s.board.tx = [] → s.hub.waiting = [] → s.board.waiting = [] → s.wake.queue.length ≤ 8 →
    let hub := releasedFrames wiresFirst s
    let board := (packFrames (ownLevels s .down)).map .wires
    let t := ((s.setLrst false).setHub (offered8 hub s.hub)).setBoard (offered8 board s.board)
    (waitsIn s .sendWire = false → exec (.lrstReleased wiresFirst) s = .next t) ∧
    (SteppingIn s .sendWire →
      let d := (peek s.wire.map s.eng.cur.opA).dir
      let e : WireLevel := { wire := s.eng.cur.opA, level := s.eng.cur.opB }
      let p := portOf d
      let l := link t p
      (l.tx.length < 8 → exec (.lrstReleased wiresFirst) s = .next (haltedAfter
        ((setLink t p { l with tx := l.tx ++ [frameOf (.sendWire e)] }).setWire
          { s.wire with level := poke s.wire.level e.wire e.level }))) ∧
      (8 ≤ l.tx.length → exec (.lrstReleased wiresFirst) s = .next
        (setLink t p { l with waiting := l.waiting ++ [.sendWire e] })))

/-- LRST_RELEASED: the OWN wires, the queued wakes and the frame of a waiting SEND_WIRE (R37, R113, R127, R148; the
order of the operand is assumption 3). -/
def Obligations.LinkResetReleases : Prop := Claims.LinkResetReturns ∧ Claims.LinkResetReannounces

/-! ## The Traffic Classifier (chapter 7) -/

/-- The state after the classifier has taken the head frame of a port: the frame gone from its receive queue and
the pointer at the other port (R115). -/
def taken (p : Port) (s : State) : State :=
  (setLink s p { link s p with rx := (link s p).rx.tail }).setWire { s.wire with pointer := p.other }

/-- A state with a frame put in the transmit queue of a port. -/
def sentOn (p : Port) (f : Frame) (s : State) : State := setLink s p { link s p with tx := (link s p).tx ++ [f] }

/-- A state with the counters of a port changed. -/
def counted (p : Port) (f : PortCounters → PortCounters) (s : State) : State :=
  setLink s p { link s p with counters := f (link s p).counters }

/-- The classifier between two frames, no internal frame waiting: the frame it takes next is `f`, from port `p`. -/
abbrev Takes (s : State) (p : Port) (f : Frame) : Prop :=
  AtRest s ∧ picked s = some (p, f) ∧ s.wire.kept = none ∧ s.hub.waiting = [] ∧ s.board.waiting = []

/-- WIRE_FRAME_TAKEN with one entry that leaves the Requested Level as it is, by the checks of R119 in order: a set
spare bit is MALFORMED, an OWN wire an OWN_DROP, a TRACK, HOLD or CONSUME wire on the wrong port MISDIRECTED;
else the Wire State Table takes the level, and the entry is forwarded with the frame's tag and route 0,
consumed, or appended to the Hold Queue while hold is active (R118, R119, R120, R122, R128). -/
def Claims.OneWireEntry : Prop :=
  ∀ (p : Port) (f : Frame) (b : Byte) (s : State), Takes s p f → f.kind = .wire → f.payload = [b] →
    let w : Fin 64 := Fin.ofNat 64 b.toNat
    let e : WireLevel := { wire := w, level := b.getLsbD 6 }
    let m := peek s.wire.map w
    let s0 := taken p s
    let recorded := s0.setWire { s0.wire with level := poke s.wire.level w e.level }
    let checked := m.action = .track ∨ m.action = .hold ∨ m.action = .consume
    let goes := m.dir = (match p with | .hub => Direction.down | .board => .up)
    let out : Frame := { kind := .wire, route := false, bit6 := false, tag := f.tag, payload := [b] }
    let answer (t : State) : Prop := exec .wireFrameTaken s = .next t
    requestedOf s.psc.policy0 (poke s.wire.level w e.level) = requested s →
    (b.getLsbD 7 = true → answer (counted p (fun c => { c with malformed := min 65535 (c.malformed + 1) }) s0)) ∧
    (b.getLsbD 7 = false → m.action = .own →
      answer (s0.setWire { s0.wire with ownDrop := min 65535 (s.wire.ownDrop + 1) })) ∧
    (b.getLsbD 7 = false → checked → ¬goes →
      answer (s0.setWire { s0.wire with misdirected := min 65535 (s.wire.misdirected + 1) })) ∧
    (b.getLsbD 7 = false → (m.action = .pass ∨ m.action = .track ∧ goes) → answer (sentOn p.other out recorded)) ∧
    (b.getLsbD 7 = false → m.action = .consume → goes → answer recorded) ∧
    (b.getLsbD 7 = false → m.action = .hold → goes → s.wire.hold = false → s.wire.queue = [] →
      answer (sentOn p.other out recorded)) ∧
    (b.getLsbD 7 = false → m.action = .hold → goes → s.wire.hold = true → s.wire.queue.length < 16 →
      answer (recorded.setWire { recorded.wire with queue := s.wire.queue ++ [e] }))

/-- The end of a wire entry that arrives on port `p`, by the checks of R119 in order. -/
inductive EntryEnd
  | spare
  | ownDrop
  | misdirected
  | accepted (a : WireAction)
  deriving DecidableEq, Repr

/-- The end of an entry byte that arrives on port `p` (R119). -/
def entryEnd (s : State) (p : Port) (b : Byte) : EntryEnd :=
  let m := peek s.wire.map (Fin.ofNat 64 b.toNat)
  if b.getLsbD 7 then .spare
  else if m.action = .own then .ownDrop
  else if m.action ≠ .pass ∧ m.dir ≠ (match p with | .hub => Direction.down | .board => .up) then .misdirected
  else .accepted m.action

/-- A counter that saturates at 65535, `n` events later (R128, R149). -/
def countUp (n c : Nat) : Nat := if n = 0 then c else min 65535 (c + n)

/-- WIRE_FRAME_TAKEN with any number of entries, handled in order: each that is dropped is counted by its check, each
other is recorded; the forwarded ones, of PASS and TRACK wires and with hold lifted and the Hold Queue empty of HOLD
wires too, leave together in one frame with the arriving frame's tag and in their order; while hold is active the
HOLD entries join the Hold Queue in order; and a frame that forwards none sends none (R119, R120, R122, R128).
Stated of accepted entries none of which is on a request wire. -/
def Claims.WireEntries : Prop :=
  ∀ (p : Port) (f : Frame) (s : State), Takes s p f → f.kind = .wire →
    let w (b : Byte) : Fin 64 := Fin.ofNat 64 b.toNat
    let ends (x : EntryEnd) : List Byte := f.payload.filter fun b => decide (entryEnd s p b = x)
    let good := f.payload.filter fun b =>
      decide (entryEnd s p b ∉ [EntryEnd.spare, .ownDrop, .misdirected])
    let free := s.wire.hold = false
    let sent := f.payload.filter fun b =>
      decide (entryEnd s p b ∈ [EntryEnd.accepted .pass, .accepted .track] ∨ entryEnd s p b = .accepted .hold ∧ free)
    let held := if free then [] else ends (.accepted .hold)
    (∀ b ∈ good, w b ∉ [s.psc.policy0.reqSusp, s.psc.policy0.reqHib, s.psc.policy0.reqOff]) →
    (s.wire.hold = true ∨ s.wire.queue = []) → s.wire.queue.length + held.length ≤ 16 →
    let s0 := counted p (fun c => { c with malformed := countUp (ends .spare).length c.malformed }) (taken p s)
    let t := s0.setWire { s0.wire with
      ownDrop := countUp (ends .ownDrop).length s.wire.ownDrop,
      misdirected := countUp (ends .misdirected).length s.wire.misdirected,
      level := good.foldl (fun v b => poke v (w b) (b.getLsbD 6)) s.wire.level,
      queue := s.wire.queue ++ held.map fun b => { wire := w b, level := b.getLsbD 6 } }
    exec .wireFrameTaken s = .next (if sent = [] then t
      else sentOn p.other { kind := .wire, route := false, bit6 := false, tag := f.tag, payload := sent } t)

/-- WIRE_FRAME_TAKEN with one HOLD entry while the queue drains, the drain frame waiting at the full port it came from:
the entry joins the tail behind the entries still held, and no frame is sent (R119, R122, R124). -/
def Claims.HoldJoinsDrain : Prop :=
  ∀ (p : Port) (f : Frame) (b : Byte) (s : State), AtRest s → picked s = some (p, f) → s.wire.kept = none →
    f.kind = .wire → f.payload = [b] → (link s p.other).waiting = [] → .drain ∈ (link s p).waiting →
    8 ≤ (link s p).tx.length → s.wire.hold = false → s.wire.queue ≠ [] → s.wire.queue.length < 16 →
    let w : Fin 64 := Fin.ofNat 64 b.toNat
    let m := peek s.wire.map w
    b.getLsbD 7 = false → m.action = .hold → m.dir = (match p with | .hub => Direction.down | .board => .up) →
    w ∉ [s.psc.policy0.reqSusp, s.psc.policy0.reqHib, s.psc.policy0.reqOff] →
    let s0 := taken p s
    exec .wireFrameTaken s = .next (s0.setWire { s0.wire with
      level := poke s.wire.level w (b.getLsbD 6),
      queue := s.wire.queue ++ [{ wire := w, level := b.getLsbD 6 }] })

/-- WIRE_FRAME_TAKEN whose entries start back-out, the back-out list being one END, while hold is active and the Hold
Queue has entries of the frame's own direction: the entries of one wire leave in their arrival order. The entry
forwarded before the request leaves in the frame's own slot first, the entry after it joins the held ones, and the
drain frame with all of them takes the next slot; the END then settles in the from-level (R11, R28, R119, R120, R124;
the order of the two frames is DEDUCED, assumption 13, and the origin of the IDLE channel assumption 16; that the
entry that joins goes in the drain frame that waits is a DESIGN CHOICE, assumption 29). Stated of a frame of three
entries, the first on a PASS wire and the last on a HOLD wire. -/
def Claims.DrainKeepsOrder : Prop :=
  ∀ (p : Port) (f : Frame) (a b c : Byte) (s : State), Takes s p f → f.kind = .wire → f.payload = [a, b, c] →
    s.psc.state = .transit → s.eng.norm.st = .running → s.eng.urg.running = false → s.eng.wait = .step →
    s.eng.cur.kind ≠ .pulse → s.eng.cur.kind ≠ .sendWire → s.wire.hold = true → s.wire.queue ≠ [] →
    s.wire.queue.length < 8 → (link s p.other).tx.length < 7 → (∀ n : Fin 9, (peek s.wake.det n).active = false) →
    s.psc.current ≠ .working →
    let d : Direction := match p with | .hub => .down | .board => .up
    let w (x : Byte) : Fin 64 := Fin.ofNat 64 x.toNat
    let m (x : Byte) : WireEntry := peek s.wire.map (w x)
    let e (x : Byte) : WireLevel := { wire := w x, level := x.getLsbD 6 }
    let i := entryIndex s.psc.current s.psc.target
    let x := (peek s.psc.trans i).backout.value
    let one (es : List WireLevel) (tag : BitVec 6) : Frame :=
      { kind := .wire, route := false, bit6 := false, tag := tag, payload := es.map entryByte }
    let reqs := [s.psc.policy0.reqSusp, s.psc.policy0.reqHib, s.psc.policy0.reqOff]
    (∀ y ∈ s.wire.queue, wireDir s y.wire = d) →
    a.getLsbD 7 = false → (m a).action = .pass → w a ∉ reqs → b.getLsbD 7 = false → (m b).action = .consume →
    (m b).dir = d → c.getLsbD 7 = false → (m c).action = .hold → (m c).dir = d → w c ∉ reqs →
    requestedOf s.psc.policy0 (poke (poke s.wire.level (w a) (a.getLsbD 6)) (w b) (b.getLsbD 6)) = s.psc.current →
    requested s ≠ s.psc.current → s.psc.current ≠ s.psc.target → MayBackOut s s.psc.current →
    (peek s.eng.steps x).kind = .endList →
    let s0 := taken p s
    let l := link s0 p.other
    let t := (setLink s0 p.other { l with tx := l.tx ++ [one [e a] f.tag, one (s.wire.queue ++ [e c]) 0] }).setWire
      { s0.wire with
        hold := false, queue := [],
        level := poke (poke (poke s.wire.level (w a) (a.getLsbD 6)) (w b) (b.getLsbD 6)) (w c) (c.getLsbD 6) }
    let ran := t.setEng
      { s.eng with
        cur := peek s.eng.steps x,
        norm := { s.eng.norm with
          st := .running, origin := some { entry := i, backout := true }, idx := x, ran := x, retries := 0,
          start := s.clock.tick, rerunDue := false },
        inflight := { s.eng.inflight with steps := min 65535 (s.eng.inflight.steps + 1) } }
    exec .wireFrameTaken s = .next (settledNorm
      (ran.setPsc { s.psc with state := .backout, target := s.psc.current, slot := none }))

/-- WIRE_FRAME_TAKEN with one entry on a TRACK or CONSUME wire that changes the Requested Level to `q`: the level is
recorded and one request event is taken before the entry is forwarded: by PSC state it fills or clears the slot,
begins back-out, is refused, or starts the transition (R4, R7, R8, R9, R10, R11, R12, R119). -/
def Claims.WireEntryRequests : Prop :=
  ∀ (p : Port) (f : Frame) (b : Byte) (s : State), Takes s p f → f.kind = .wire → f.payload = [b] →
    let w : Fin 64 := Fin.ofNat 64 b.toNat
    let m := peek s.wire.map w
    let s0 := taken p s
    let recorded := s0.setWire { s0.wire with level := poke s.wire.level w (b.getLsbD 6) }
    let q := requestedOf s.psc.policy0 recorded.wire.level
    b.getLsbD 7 = false → (m.action = .track ∨ m.action = .consume) →
    m.dir = (match p with | .hub => Direction.down | .board => .up) → q ≠ requested s →
    let sent (t : State) : State := if m.action = .track then
      sentOn p.other { kind := .wire, route := false, bit6 := false, tag := f.tag, payload := [b] } t else t
    RequestTaken q recorded fun t => exec .wireFrameTaken s = .next (sent t)

/-- WIRE_FRAME_TAKEN: one entry, several entries, an entry that joins the drain, an entry that raises a request event,
and the order of one wire's entries through a drain (R4, R118, R119, R120, R122, R124, R128; assumptions 13, 16
and 29). -/
def Obligations.WireEntryTaken : Prop :=
  Claims.OneWireEntry ∧ Claims.WireEntries ∧ Claims.HoldJoinsDrain ∧ Claims.WireEntryRequests ∧ Claims.DrainKeepsOrder

/-- A HOLD entry handed to a Hold Queue of 16 entries: the entry of the same wire nearest the tail takes the level
at its place, with one COLLAPSE; with no entry of the wire the arriving one is dropped, with one HOLD_OVERFLOW
and the hold-overflow flag set; and while a report is open its own count rises too (R123, R128). -/
def Obligations.HoldQueueFull : Prop :=
  ∀ (e : WireLevel) (s : State), s.wire.queue.length = 16 →
    let r := s.eng.inflight
    (∀ (front back : List WireLevel) (x : WireLevel), s.wire.queue = front ++ x :: back → x.wire = e.wire →
      (∀ y ∈ back, y.wire ≠ e.wire) →
      holdEntry e s = (s.setWire
        { s.wire with queue := front ++ e :: back, collapse := min 65535 (s.wire.collapse + 1) }).setEng
        { s.eng with inflight := if r.isOpen then { r with holdCollapse := min 255 (r.holdCollapse + 1) } else r }) ∧
    ((∀ y ∈ s.wire.queue, y.wire ≠ e.wire) →
      holdEntry e s = (s.setWire
        { s.wire with holdOverflow := min 65535 (s.wire.holdOverflow + 1), overflowFlag := true }).setEng
        { s.eng with inflight := if r.isOpen then { r with holdOverflow := min 255 (r.holdOverflow + 1) } else r })

/-- Port `p` would give a free slot to a forwarded frame, no slot being kept: a slot is free, LRST released, and no
internal frame waits for it (R115, R146, R147). -/
abbrev SlotOpen (s : State) (p : Port) : Prop := (link s p).tx.length < 8 ∧ s.lrst = false ∧ (link s p).waiting = []

/-- Frame `f`, at the head of port `p`, has somewhere to go: a WIRE frame and a DATA frame with route 0 when the other
port has a free slot and no internal frame waiting for it, an MGMT_REQ with route 1 when the agent has no request
in service, and any other always (R115, R116, R146). -/
abbrev HeadGoes (s : State) (p : Port) (f : Frame) : Prop :=
  f.kind = .wire ∧ SlotOpen s p.other ∨ f.kind = .data ∧ (f.route = true ∨ SlotOpen s p.other) ∨
    f.kind = .mgmtReq ∧ (f.route = true → s.agent = none) ∨ f.kind = .wake

/-- No frame can be taken from port `p`: its receive queue is empty, or the head has nowhere to go (R115). -/
abbrev HeadStuck (s : State) (p : Port) : Prop := ∀ f ∈ (link s p).rx.head?, ¬HeadGoes s p f

/-- Which frame the classifier takes next: the head of the port its pointer names, where it can be taken; else the head
of the other port, where that can be taken; else none, and then its rows do nothing (R115). That such a row leaves
the part as it is, is DEDUCED (assumption 10). -/
def Claims.HeadsInTurn : Prop :=
  ∀ s : State, s.wire.kept = none →
    let p := s.wire.pointer
    (∀ f ∈ (link s p).rx.head?, HeadGoes s p f → picked s = some (p, f)) ∧
    (HeadStuck s p → ∀ f ∈ (link s p.other).rx.head?, HeadGoes s p.other f → picked s = some (p.other, f)) ∧
    (HeadStuck s p → HeadStuck s p.other → picked s = none ∧
      (AtRest s → ∀ c ∈ [Instr.wireFrameTaken, .dataFrameTaken, .misroutedFrameDrop, .boardWakeFrame],
        exec c s = .next s))

/-- DATA_FRAME_TAKEN forwards a DATA frame with route 0 unchanged and drops one with route 1 as ROUTE_ERR;
MISROUTED_FRAME_DROP drops an MGMT_REQ with route 0 and a WAKE frame on the Hub Port as ROUTE_ERR; each at the
port of arrival (R116, R149). -/
def Claims.DataTaken : Prop :=
  ∀ (p : Port) (f : Frame) (s : State), Takes s p f →
    let dropped := counted p (fun c => { c with routeErr := min 65535 (c.routeErr + 1) }) (taken p s)
    (f.kind = .data → f.route = false → exec .dataFrameTaken s = .next (sentOn p.other f (taken p s))) ∧
    (f.kind = .data → f.route = true → exec .dataFrameTaken s = .next dropped) ∧
    (f.kind = .mgmtReq → f.route = false → exec .misroutedFrameDrop s = .next dropped) ∧
    (f.kind = .wake → p = .hub → exec .misroutedFrameDrop s = .next dropped)

/-- Which frame the classifier takes next, and what becomes of DATA frames and misrouted frames (R115, R116, R149). -/
def Obligations.DataAndMisrouted : Prop := Claims.DataTaken ∧ Claims.HeadsInTurn

/-- BOARD_WAKE_FRAME: a payload of one code 0 to 3 is a fire of source 9 to 12, with its notice sent, waiting, lost,
or under LRST not created; any other is dropped and counted MALFORMED at the Board Port (R110, R104, R105, R106,
R107, R146). -/
def Obligations.BoardWakeFires : Prop :=
  ∀ (f : Frame) (s : State), AtRest s → picked s = some (.board, f) → f.kind = .wake →
    (∀ b : Byte, f.payload = [b] → b.toNat ≤ 3 → SlotsOffered s →
      exec .boardWakeFrame s = .next (fired (Fin.ofNat 14 (9 + b.toNat)) (taken .board s))) ∧
    ((∀ b : Byte, f.payload = [b] → 3 < b.toNat) →
      exec .boardWakeFrame s = .next
        (counted .board (fun c => { c with malformed := min 65535 (c.malformed + 1) }) (taken .board s)))

/-! ## Management requests (chapter 10) -/

/-- A state in which the agent holds the answer to request `f` of port `p`, with a status code and the data read
(R150, R151, R160). -/
def answered (p : Port) (f : Frame) (code : Byte) (data : List Byte) (s : State) : State :=
  s.setAgent (some { port := p, response :=
    { kind := .mgmtRsp, route := true, bit6 := false, tag := f.tag, payload := byteAt f.payload 0 :: code :: data } })

/-- The classifier takes an MGMT_REQ with route 1 next, `f`, from port `p` (R115, R150). -/
abbrev Requests (s : State) (p : Port) (f : Frame) : Prop := Takes s p f ∧ f.kind = .mgmtReq ∧ f.route = true

/-- UNKNOWN_OP, READ_STATUS and READ_TABLE, taken from either port: an empty payload or an unknown op code is
answered UNKNOWN_OP; the status record and the read units are answered OK, and a start or count out of range
RANGE; a read changes nothing but the model's use counter (R151, R152, R153, R154, assumption 4). -/
def Claims.ReadAnswers : Prop :=
  ∀ (p : Port) (f : Frame) (s : State), Requests s p f →
    let s0 := taken p s
    ((f.payload = [] ∨ (byteAt f.payload 0).toNat = 0 ∨ 4 < (byteAt f.payload 0).toNat) →
      exec .unknownOp s = .next (answered p f 5 [] s0)) ∧
    (s.psc.state ≠ .loading → f.payload = [1] →
      exec .readStatus s = .next (answered p f 0 (statusRecord s0) (s0.setUses (s.uses + 1)))) ∧
    ∀ id start count : Byte, s.psc.state ≠ .loading → f.payload = [2, id, start, count] →
      (readOk id.toNat start.toNat count.toNat = true →
        exec .readTable s = .next (answered p f 0 (readData s0 id.toNat start.toNat count.toNat)
          (s0.setUses (s.uses + 1)))) ∧
      (readOk id.toNat start.toNat count.toNat = false → exec .readTable s = .next (answered p f 3 [] s0))

/-- Two and four bytes of a list from index `i`, least significant byte first (chapter 11). -/
def le2 (bs : List Byte) (i : Nat) : Nat := (byteAt bs i).toNat + 256 * (byteAt bs (i + 1)).toNat
/-- See `le2`. -/
def le4 (bs : List Byte) (i : Nat) : Nat := le2 bs i + 65536 * le2 bs (i + 2)

/-- The level codes of chapter 11 (R160). -/
def levelNumber : Level → Nat
  | .working => 0
  | .suspend => 1
  | .hibernate => 2
  | .softOff => 3

/-- The PSC state codes of the status record (R160). -/
def stateNumber : PscState → Nat
  | .loading => 0
  | .working => 1
  | .suspend => 2
  | .hibernate => 3
  | .softOff => 4
  | .transit => 5
  | .backout => 6
  | .urgent => 7
  | .halted => 8

/-- The layout of the status record, field by field, its 13 bytes and the order of the flags of R153 (R160). The slot
level is stated while the slot is present; its bits are a free value else (assumption 5). -/
def Claims.StatusLayout : Prop :=
  ∀ s : State, s.wake.queue.length ≤ 8 → s.wire.queue.length ≤ 16 →
    let r := statusRecord s
    let n (i : Nat) : Nat := (byteAt r i).toNat
    let bit (i k : Nat) : Bool := (byteAt r i).getLsbD k
    r.length = 13 ∧
    (n 0 % 16 = stateNumber s.psc.state ∧
      n 0 / 16 = (match s.psc.haltedFrom with | none => 0 | some .transit => 1 | some .backout => 2)) ∧
    (n 1 % 4 = levelNumber s.psc.current ∧ n 1 / 4 % 4 = levelNumber s.psc.target ∧
      (∀ l : Level, s.psc.slot = some l → n 1 / 16 % 4 = levelNumber l) ∧
      bit 1 6 = s.psc.slot.isSome ∧ bit 1 7 = s.psc.commit) ∧
    (n 2 % 4 = (match s.eng.norm.st with | .idle => 0 | .running => 1 | .halted => 2) ∧
      bit 2 2 = s.eng.urg.running ∧
      n 2 / 8 % 4 = (match s.eng.urg.running, s.eng.urg.kind with
        | true, some .powerfail => 1
        | true, some .override => 2
        | true, some .fault => 3
        | true, none => 0
        | false, _ => 0) ∧
      n 2 / 32 % 4 = levelNumber s.wake.armed ∧ bit 2 7 = s.clock.locked) ∧
    (n 3 = s.eng.norm.idx.val ∧ n 4 = s.eng.urg.idx.val) ∧
    (n 5 % 16 = s.wake.queue.length ∧
      n 5 / 16 = (match s.clock.mode with | .fastLoop => 0 | .fastRc => 1 | .slow => 2) ∧
      n 6 = s.wire.queue.length) ∧
    ([bit 7 0, bit 7 1, bit 7 2, bit 7 3, bit 7 4, bit 7 5, bit 7 6, bit 7 7, bit 8 0, bit 8 1, bit 8 2] =
        [s.psc.latch, s.psc.gateClosed, s.wire.hold, s.eng.stepMode, s.eng.norm.haltPending, s.psc.unsupported,
          s.wake.overflow, s.wire.overflowFlag, s.clock.fallback, s.clock.soLost, s.loader.imageBad] ∧ n 8 < 8) ∧
    le4 r 9 = s.clock.tick.toNat

/-- The values of a report that its fields of chapter 11 can hold (R52, R54). -/
abbrev ReportFits (r : Report) : Prop :=
  r.steps ≤ 65535 ∧ r.warnings ≤ 255 ∧ r.holdOverflow ≤ 255 ∧ r.holdCollapse ≤ 255 ∧ r.wakeList.length ≤ 8 ∧
    ∀ n : Fin 16, (peek r.goodTimes n).getD 0 ≤ 16777215

/-- The layout of the parts of a report, read from REPORT_INFLIGHT (9) and REPORT_LAST (10) (R162). The bytes of an
absent first failure or last mark are free values (assumption 5). -/
def Claims.ReportLayout : Prop :=
  ∀ (s : State) (r : Report) (id : Nat), (id = 9 ∧ r = s.eng.inflight ∨ id = 10 ∧ r = s.eng.last) → ReportFits r →
    (∃ u : List Byte, readUnit s id 0 = some u ∧ u.length = 11 ∧
      (byteAt u 0).getLsbD 0 = r.isOpen ∧ (byteAt u 0).getLsbD 1 = r.committed ∧
      (byteAt u 0).getLsbD 2 = r.firstFailure.isSome ∧ (byteAt u 0).getLsbD 3 = r.lastMark.isSome ∧
      (byteAt u 1).toNat = (match r.origin with
        | .entry i => i.val
        | .urgent .powerfail => 16
        | .urgent .override => 17
        | .urgent .fault => 18
        | .empty => 255) ∧
      (byteAt u 2).toNat = levelNumber r.fromLevel + 4 * levelNumber r.toLevel ∧
      (byteAt u 3).toNat = (match r.outcome with
        | none => 0
        | some .completed => 1
        | some .backedOut => 2
        | some .stopped => 3
        | some .failedToFault => 4
        | some .unsupported => 5
        | some .latched => 6
        | some .runaway => 7) ∧
      le4 u 4 = r.startTick.toNat ∧ le2 u 8 = r.steps ∧ (byteAt u 10).toNat = r.warnings) ∧
    (∃ u : List Byte, readUnit s id 1 = some u ∧ u.length = 10 ∧ le4 u 0 = (r.endTick.getD 0).toNat ∧
      (∀ f : FirstFailure, r.firstFailure = some f → (byteAt u 4).toNat = f.step.val ∧
        (byteAt u 5).toNat = (match f.kind with
          | .absent => 1
          | .dependency => 2
          | .timeout => 3
          | .lost => 4
          | .notOwn => 5)) ∧
      (∀ m : Fin 64, r.lastMark = some m → (byteAt u 6).toNat = m.val) ∧
      (byteAt u 7).toNat = r.holdOverflow ∧ (byteAt u 8).toNat = r.holdCollapse ∧
      (byteAt u 9).toNat = r.wakeList.length) ∧
    (∃ u : List Byte, readUnit s id 2 = some u ∧ u.length = 10 ∧
      (∀ i : Fin 8, (byteAt u i.val).toNat = (match r.wakeList[i.val]? with | some x => x.val | none => 0)) ∧
      ∀ n : Fin 16, (byteAt u (8 + n.val / 8)).getLsbD (n.val % 8) = (peek r.goodTimes n).isSome) ∧
    ∀ n : Fin 16, ∃ u : List Byte, readUnit s id (3 + n.val / 3) = some u ∧
      u.length = (if n.val = 15 then 3 else 9) ∧
      le2 u (3 * (n.val % 3)) + 65536 * (byteAt u (3 * (n.val % 3) + 2)).toNat = (peek r.goodTimes n).getD 0

/-- The layout of a slot of RAILSTATUS (8) and of a wire of WIRESTATE (7) (R162). -/
def Claims.StatusUnitLayout : Prop :=
  (∀ (s : State) (w : Fin 64), readUnit s 7 w.val = some [if peek s.wire.level w then 1 else 0]) ∧
  ∀ (s : State) (n : Fin 16),
    let x := peek s.rails.stat n
    x.mV ≤ 65535 → x.inCount ≤ 15 → x.overCount ≤ 15 → x.outCount ≤ 15 → x.lowCount ≤ 15 → x.lost ≤ 255 →
    ∃ u : List Byte, readUnit s 8 n.val = some u ∧ u.length = 6 ∧
      (byteAt u 0).toNat % 8 = (match x.verdict with
        | .off => 0
        | .rising => 1
        | .good => 2
        | .lost => 3
        | .draining => 4) ∧
      (byteAt u 0).toNat / 16 = (match x.en with | .deasserted => 0 | .asserted => 1 | .undriven => 2) ∧
      le2 u 1 = x.mV ∧ (byteAt u 3).toNat = x.inCount + 16 * x.overCount ∧
      (byteAt u 4).toNat = x.outCount + 16 * x.lowCount ∧ (byteAt u 5).toNat = x.lost

/-- The layout of FAULT (11), of the parts of WAKEQUEUE (12) and of the parts of COUNTERS (13) (R162). The bytes of an
absent first fault are free values (assumption 5). -/
def Claims.RecordUnitLayout : Prop :=
  (∀ s : State, s.fault.further ≤ 255 → s.fault.urgentFails ≤ 255 →
    ∃ u : List Byte, readUnit s 11 0 = some u ∧ u.length = 11 ∧
      (byteAt u 0).toNat = (if s.fault.first.isSome then 1 else 0) ∧
      (∀ f : FirstFault, s.fault.first = some f →
        (byteAt u 1).toNat = (match f.cause with | .rail => 1 | .trip => 2 | .step => 3 | .runaway => 4) ∧
          (byteAt u 2).toNat = f.subject.val ∧ (byteAt u 3).toNat = stateNumber f.psc ∧
          (byteAt u 4).toNat = levelNumber f.level ∧ le4 u 5 = f.tick.toNat) ∧
      (byteAt u 9).toNat = s.fault.further ∧ (byteAt u 10).toNat = s.fault.urgentFails) ∧
  (∀ s : State, WakeInv s.wake →
    (∀ i : Fin 8, ∃ u : List Byte, readUnit s 12 i.val = some u ∧ u.length = 6 ∧
      (∀ e : WakeEntry, s.wake.queue[i.val]? = some e →
        (byteAt u 0).toNat = e.source.val ∧ le4 u 1 = e.first.toNat ∧ (byteAt u 5).toNat = e.count) ∧
      (s.wake.queue[i.val]? = none → u = [255, 0, 0, 0, 0, 0])) ∧
    (∃ u : List Byte, readUnit s 12 8 = some u ∧ u.length = 11 ∧
      ∀ n : Fin 14, n.val < 11 → (byteAt u n.val).toNat = peek s.wake.missed n) ∧
    ∃ u : List Byte, readUnit s 12 9 = some u ∧ u.length = 6 ∧
      (∀ n : Fin 14, 11 ≤ n.val → (byteAt u (n.val - 11)).toNat = peek s.wake.missed n) ∧
      (∀ n : Fin 9, (byteAt u (3 + n.val / 8)).getLsbD (n.val % 8) = (peek s.wake.det n).active) ∧
      (byteAt u 5).toNat = s.wake.queue.length) ∧
  ∀ s : State,
    let h := s.hub.counters
    let b := s.board.counters
    let c := s.wire
    (∀ x ∈ [h.overrun, h.malformed, h.crcErr, h.unknown, h.routeErr, h.noticeLost, b.overrun, b.malformed, b.crcErr,
        b.unknown, b.routeErr, b.noticeLost, c.misdirected, c.ownDrop, c.holdOverflow, c.collapse, s.loader.warnings],
      x ≤ 65535) → s.clock.lockChanges ≤ 255 →
    (∃ u : List Byte, readUnit s 13 0 = some u ∧ u.length = 10 ∧
      [le2 u 0, le2 u 2, le2 u 4, le2 u 6, le2 u 8] = [h.overrun, h.malformed, h.crcErr, h.unknown, h.routeErr]) ∧
    (∃ u : List Byte, readUnit s 13 1 = some u ∧ u.length = 10 ∧
      [le2 u 0, le2 u 2, le2 u 4, le2 u 6, le2 u 8] = [h.noticeLost, b.overrun, b.malformed, b.crcErr, b.unknown]) ∧
    (∃ u : List Byte, readUnit s 13 2 = some u ∧ u.length = 10 ∧
      [le2 u 0, le2 u 2, le2 u 4, le2 u 6, le2 u 8] =
        [b.routeErr, b.noticeLost, c.misdirected, c.ownDrop, c.holdOverflow]) ∧
    ∃ u : List Byte, readUnit s 13 3 = some u ∧ u.length = 5 ∧ le2 u 0 = c.collapse ∧
      (byteAt u 2).toNat = s.clock.lockChanges ∧ le2 u 3 = s.loader.warnings

/-- The data of an OK answer to READ_TABLE, of a table other than TRANSITION: how many units it carries, the index of
the first, and the units from that index on, as many as were asked for, exist and fit in 11 bytes (R154, R160). -/
def Claims.ReadDataLayout : Prop :=
  ∀ (s : State) (id start count : Nat), readOk id start count = true → id ≠ 3 → count ≤ 255 →
    ∃ us : List (List Byte), readData s id start count = byteOf us.length :: byteOf start :: us.flatten ∧
      us.flatten.length ≤ 11 ∧ us.length ≤ count ∧ start + us.length ≤ unitCount id ∧
      (∀ i : Nat, i < us.length → us[i]? = readUnit s id (start + i)) ∧
      (us.length = count ∨ start + us.length = unitCount id ∨
        ∃ u : List Byte, readUnit s id (start + us.length) = some u ∧ 11 < us.flatten.length + u.length)

/-- Read units of each table 1 to 13, as R154 and R162 number them. -/
def tableUnits (id : Nat) : Nat := [0, 16, 256, 16, 64, 14, 2, 64, 16, 9, 9, 1, 10, 4].getD id 0

/-- The ranges of READ_TABLE by value, and the answers BUSY in LOADING and RANGE for a payload of another length than
the op's (R152, R154, R160). -/
def Claims.ReadRanges : Prop :=
  (∀ id start count : Nat, readOk id start count = true ↔
    1 ≤ id ∧ id ≤ 13 ∧ start < tableUnits id ∧ count ≠ 0 ∧ ¬(id = 3 ∧ start ∈ [0, 5, 10, 15])) ∧
  ∀ (p : Port) (f : Frame) (s : State), Requests s p f →
    let op := (byteAt f.payload 0).toNat
    let answer (c : Instr) (code : Byte) : Prop := exec c s = .next (answered p f code [] (taken p s))
    (s.psc.state = .loading → op = 1 → answer .readStatus 2) ∧
    (s.psc.state = .loading → op = 2 → answer .readTable 2) ∧
    (s.psc.state ≠ .loading → op = 1 → f.payload.length ≠ 1 → answer .readStatus 3) ∧
    (s.psc.state ≠ .loading → op = 2 → f.payload.length ≠ 4 → answer .readTable 3)

/-- The data of an OK answer to a READ_TABLE of TRANSITION: the entries from the start index on, the diagonal indices
passed over and not counted, as many as were asked for and at most 3, which fill the 11 bytes (R154, R160). -/
def Claims.TransitionRead : Prop :=
  ∀ (s : State) (start count : Nat), start < 16 → start ∉ [0, 5, 10, 15] → count ≠ 0 →
    let units := ((List.finRange 16).filter fun i : Fin 16 =>
      decide (start ≤ i.val ∧ i.val ∉ [0, 5, 10, 15])).take (min count 3)
    readData s 3 start count = byteOf units.length :: byteOf start ::
      units.flatMap fun i => encodeTrans (peek s.psc.trans i)

/-- A time field stands at byte `i`: its value in bits 11 to 0 and its unit code in bits 13 and 12 (chapter 11). -/
abbrev TimeAt (bs : List Byte) (i : Nat) (t : TimeField) : Prop :=
  le2 bs i % 4096 = t.value.val ∧ le2 bs i / 4096 % 4 = (match t.unit with | .t1 => 0 | .t32 => 1 | .t1k => 2)

/-- The group of a sense kind stands in bytes 3 to 10 of a RAIL record (R161). -/
def SenseAt (bs : List Byte) : Sense → Prop
  | .monitored b =>
    le2 bs 3 = b.gain ∧ le2 bs 5 = b.nominal ∧ (byteAt bs 7).toNat = b.tolGood ∧ (byteAt bs 8).toNat = b.tolFail ∧
      le2 bs 9 = b.drain
  | .pgline => True
  | .timed settle drain => TimeAt bs 3 settle ∧ TimeAt bs 5 drain

/-- Bytes hold a RAIL record in the places of R161. -/
abbrev RailAt (bs : List Byte) (r : RailRec) : Prop :=
  ((byteAt bs 0).getLsbD 0 = r.present ∧ (byteAt bs 0).getLsbD 1 = r.activeLow ∧
      (byteAt bs 0).getLsbD 2 = r.critical ∧
      (byteAt bs 0).toNat / 8 % 4 = (match r.sense with | .monitored _ => 0 | .pgline => 1 | .timed _ _ => 2)) ∧
    ((byteAt bs 1).getLsbD 7 = r.parent.present ∧ (byteAt bs 1).toNat % 16 = r.parent.value.val) ∧
    ((byteAt bs 2).toNat % 16 = r.line.val ∧ (byteAt bs 2).toNat / 16 = r.filter.val) ∧ SenseAt bs r.sense

/-- The step kind codes of R161. -/
def kindNumber : StepKind → Nat
  | .endList => 0
  | .railOn => 1
  | .railOff => 2
  | .waitGood => 3
  | .waitOff => 4
  | .delay => 5
  | .lineSet => 6
  | .waitLine => 7
  | .pulse => 8
  | .sendWire => 9
  | .release => 10
  | .clockUp => 11
  | .clockDown => 12
  | .armWake => 13
  | .mark => 14

/-- Bytes hold a STEP record in the places of R161. -/
abbrev StepAt (bs : List Byte) (r : StepRec) : Prop :=
  ((byteAt bs 0).toNat % 16 = kindNumber r.kind ∧
      (byteAt bs 0).toNat / 16 % 4 = (match r.action with | .goOn => 0 | .retry => 1 | .backout => 2 | .fault => 3) ∧
      (byteAt bs 0).getLsbD 6 = r.commit) ∧
    (byteAt bs 1).toNat = r.opA.val ∧ (byteAt bs 2).toNat = (if r.opB then 1 else 0) ∧
    (byteAt bs 3).toNat = r.retry.val ∧ TimeAt bs 4 r.time

/-- Bytes hold a TRANSITION record in the places of R161. -/
abbrev TransAt (bs : List Byte) (e : TransEntry) : Prop :=
  (byteAt bs 0).getLsbD 0 = e.present ∧ (byteAt bs 0).getLsbD 1 = e.backout.present ∧
    (byteAt bs 1).toNat = e.mainStart.val ∧ (byteAt bs 2).toNat = e.backout.value.val

/-- A byte holds a WIREMAP record in the places of R161. -/
abbrev WireAt (bs : List Byte) (e : WireEntry) : Prop :=
  (byteAt bs 0).toNat % 8 =
      (match e.action with | .pass => 0 | .track => 1 | .hold => 2 | .consume => 3 | .own => 4) ∧
    (byteAt bs 0).getLsbD 3 = decide (e.dir = .up) ∧ (byteAt bs 0).getLsbD 4 = e.deflt

/-- Bytes hold a WAKESRC record in the places of R161. -/
abbrev WakeAt (bs : List Byte) (e : WakeSource) : Prop :=
  (∀ n : Fin 4, (byteAt bs 0).getLsbD n.val = e.mask.getLsbD n.val) ∧
    (byteAt bs 1).toNat % 8 = (match e.mode with | .rise => 0 | .fall => 1 | .high => 2 | .low => 3) ∧
    (byteAt bs 1).toNat / 16 = e.width.val

/-- Bytes hold Policy record 0, but for the two fields that can be clamped, in the places of R161. -/
abbrev PolicyAt (bs : List Byte) (p : Policy0) : Prop :=
  ((byteAt bs 0).toNat = p.reqSusp.val ∧ (byteAt bs 1).toNat = p.reqHib.val ∧ (byteAt bs 2).toNat = p.reqOff.val) ∧
    ((byteAt bs 3).getLsbD 7 = p.offNotice.present ∧ (byteAt bs 3).toNat % 64 = p.offNotice.value.val) ∧
    ((byteAt bs 4).getLsbD 7 = p.trip.present ∧ (byteAt bs 4).toNat % 16 = p.trip.value.val ∧
      (byteAt bs 4).toNat / 16 % 4 = (match p.restore with | .stayOff => 0 | .powerOn => 1 | .lastState => 2)) ∧
    ∀ n : Fin 8, (byteAt bs 8).getLsbD n.val = p.outMask.getLsbD n.val

/-- The two fields of Policy record 0 that can be clamped, in the places of R161. -/
abbrev PolicyTimesAt (bs : List Byte) (p : Policy0) : Prop :=
  TimeAt bs 5 p.overrideFor ∧ (byteAt bs 7).toNat = p.pfailWidth.val

/-- Bytes hold Policy record 1 in the places of R161. -/
abbrev ListsAt (bs : List Byte) (p : Policy1) : Prop :=
  ((byteAt bs 0).getLsbD 0 = p.powerfail.present ∧ (byteAt bs 0).getLsbD 1 = p.override.present ∧
      (byteAt bs 0).getLsbD 2 = p.fault.present) ∧
    (byteAt bs 1).toNat = p.powerfail.value.val ∧ (byteAt bs 2).toNat = p.override.value.val ∧
    (byteAt bs 3).toNat = p.fault.value.val

/-- The read unit of a writable table at an index is the encoding of the record stored there, for every index but the
diagonal ones of TRANSITION, and those hold no unit (R154, R161). -/
def Claims.RecordUnits : Prop :=
  ∀ s : State,
    (∀ n : Fin 16, readUnit s 1 n.val = some (encodeRail (peek s.rails.table n))) ∧
    (∀ n : Fin 256, readUnit s 2 n.val = some (encodeStep (peek s.eng.steps n))) ∧
    (∀ n : Fin 16, readUnit s 3 n.val =
      if n.val ∈ [0, 5, 10, 15] then none else some (encodeTrans (peek s.psc.trans n))) ∧
    (∀ n : Fin 64, readUnit s 4 n.val = some (encodeWire (peek s.wire.map n))) ∧
    (∀ n : Fin 14, readUnit s 5 n.val = some (encodeWake (peek s.wake.table n))) ∧
    readUnit s 6 0 = some (encodePolicy0 s.psc.policy0) ∧ readUnit s 6 1 = some (encodePolicy1 s.psc.policy1)

/-- The encoding of every record holds its fields in the places of R161, the fields of a MONITORED rail within their
ranges, and 0 in the bits and bytes that R161 shows as zero or does not list (those it does not list: DEDUCED,
assumption 19). -/
def Claims.RecordLayouts : Prop :=
  (∀ r : RailRec, (∀ b : Bands, r.sense = .monitored b → clampBands b = b) →
    RailAt (encodeRail r) r ∧ (byteAt (encodeRail r) 0).toNat / 32 = 0 ∧ (byteAt (encodeRail r) 1).toNat / 16 % 8 = 0 ∧
      ∀ i : Nat, i < 11 →
        (r.sense = .pgline ∧ 3 ≤ i ∨ (∃ settle drain : TimeField, r.sense = .timed settle drain) ∧ 7 ≤ i) →
        byteAt (encodeRail r) i = 0) ∧
  (∀ r : StepRec, StepAt (encodeStep r) r ∧ (byteAt (encodeStep r) 0).toNat / 128 = 0 ∧
    (byteAt (encodeStep r) 5).toNat / 64 = 0) ∧
  (∀ e : TransEntry, TransAt (encodeTrans e) e ∧ (byteAt (encodeTrans e) 0).toNat / 4 = 0) ∧
  (∀ e : WireEntry, WireAt (encodeWire e) e ∧ (byteAt (encodeWire e) 0).toNat / 32 = 0) ∧
  (∀ e : WakeSource, WakeAt (encodeWake e) e ∧ (byteAt (encodeWake e) 0).toNat / 16 = 0 ∧
    (byteAt (encodeWake e) 1).toNat / 8 % 2 = 0) ∧
  (∀ p : Policy0, PolicyAt (encodePolicy0 p) p ∧ PolicyTimesAt (encodePolicy0 p) p ∧
    (byteAt (encodePolicy0 p) 3).toNat / 64 % 2 = 0 ∧ (byteAt (encodePolicy0 p) 4).toNat / 64 % 2 = 0 ∧
    (byteAt (encodePolicy0 p) 6).toNat / 64 = 0) ∧
  ∀ p : Policy1, ListsAt (encodePolicy1 p) p ∧ (byteAt (encodePolicy1 p) 0).toNat / 8 = 0 ∧
    ∀ i : Nat, 4 ≤ i → i < 9 → byteAt (encodePolicy1 p) i = 0

/-- A record that a write or the image load accepts holds the fields of its bytes, in the places of R161, at the index
given; a MONITORED rail's fields are clamped, and so are two fields of Policy record 0 (R81, R155, R156, R161). -/
def Claims.RecordsStored : Prop :=
  ∀ (s : State) (i : Nat) (bs : List Byte),
    (∀ (slot : Fin 16) (x : RailRec) (clamped : Bool), i < 16 → checkRecord s .rail i bs = some (.rail slot x clamped) →
      slot.val = i ∧ ∃ r : RailRec, RailAt bs r ∧
        x = { r with sense :=
          (match r.sense with
            | .monitored b => .monitored (clampBands b)
            | .pgline => .pgline
            | .timed settle drain => .timed settle drain) } ∧
        (clamped = true ↔ x ≠ r)) ∧
    (∀ (n : Fin 256) (x : StepRec), i < 256 → checkRecord s .step i bs = some (.step n x) → n.val = i ∧ StepAt bs x) ∧
    (∀ (n : Fin 16) (x : TransEntry), i < 16 → checkRecord s .transition i bs = some (.trans n x) →
      n.val = i ∧ TransAt bs x) ∧
    (∀ (n : Fin 64) (x : WireEntry), i < 64 → checkRecord s .wiremap i bs = some (.wire n x) → n.val = i ∧ WireAt bs x) ∧
    (∀ (n : Fin 14) (x : WakeSource), i < 14 → checkRecord s .wakesrc i bs = some (.wake n x) →
      n.val = i ∧ WakeAt bs x) ∧
    (∀ (x : Policy0) (clamped : Bool), checkRecord s .policy 0 bs = some (.policy0 x clamped) →
      PolicyAt bs x ∧ (clamped = false → PolicyTimesAt bs x)) ∧
    ∀ x : Policy1, checkRecord s .policy 1 bs = some (.policy1 x) → ListsAt bs x

/-- UNKNOWN_OP, READ_STATUS and READ_TABLE: the answers, the layouts of the status record and of the read units of the
read-only tables, and the read units of the writable ones (R151, R152, R153, R154, R160, R161, R162; assumptions 4
and 5). -/
def Obligations.ReadsAnswered : Prop :=
  Claims.ReadAnswers ∧ Claims.StatusLayout ∧ Claims.ReportLayout ∧ Claims.StatusUnitLayout ∧ Claims.RecordUnitLayout ∧
    Claims.ReadDataLayout ∧ Claims.ReadRanges ∧ Claims.TransitionRead ∧ Claims.RecordUnits

/-- The op code and the table id or command code of each WRITE_TABLE and CONTROL row (R155, R157, R160). -/
def requestCodes : List (Instr × Byte × Byte) :=
  [(.writeTableRail, 3, 1), (.writeTableStep, 3, 2), (.writeTableTransition, 3, 3), (.writeTableWiremap, 3, 4),
    (.writeTableWakesrc, 3, 5), (.writeTablePolicy, 3, 6), (.halt, 4, 1), (.continueRun, 4, 2), (.stepModeOn, 4, 3),
    (.stepModeOff, 4, 4), (.clearFault, 4, 5), (.clearWakes, 4, 6), (.clearFlags, 4, 7), (.clearCounters, 4, 8)]

/-- The checks of order 2 and 3 of R152 on every WRITE_TABLE and CONTROL row: BUSY in LOADING, and REFUSED from the Board
Port; neither changes anything but the agent (R151, R152). -/
def Claims.FirstChecks : Prop :=
  ∀ (c : Instr) (op code : Byte) (rest : List Byte) (p : Port) (f : Frame) (s : State), (c, op, code) ∈ requestCodes →
    Requests s p f → f.payload = op :: code :: rest →
    (s.psc.state = .loading → exec c s = .next (answered p f 2 [] (taken p s))) ∧
    (s.psc.state ≠ .loading → p = .board → exec c s = .next (answered p f 4 [] (taken p s)))

/-- Record bytes of each writable table 1 to 6 (R161). -/
def tableBytes (id : Nat) : Nat := [0, 11, 6, 3, 1, 2, 9].getD id 0

/-- The checks of order 4 and 5 of R152 on a WRITE_TABLE request: RANGE for a payload too short for a table id and an
index, for a table id outside 1 to 6, for a record of another length than the table's, and for an index out of the
table's range (R152, R154, R155, R156, R160, R161). Which row answers a request that names no writable table is
DEDUCED (assumption 20): any of them. -/
def Claims.WriteRanges : Prop :=
  ∀ (c : Instr) (tid : Byte) (f : Frame) (s : State), (c, 3, tid) ∈ requestCodes → Requests s .hub f →
    s.psc.state ≠ .loading → f.payload.head? = some 3 →
    let n := f.payload.length
    let id := (byteAt f.payload 1).toNat
    let i := (byteAt f.payload 2).toNat
    let range : Prop := exec c s = .next (answered .hub f 3 [] (taken .hub s))
    (n = 1 → range) ∧ (2 ≤ n → (id = 0 ∨ 6 < id) → range) ∧
    (2 ≤ n → id = tid.toNat → n ≠ 3 + tableBytes id → range) ∧
    (n = 3 + tableBytes id → id = tid.toNat → (tableUnits id ≤ i ∨ id = 3 ∧ i ∈ [0, 5, 10, 15]) → range)

/-- The checks of order 4 and 5 of R152 on a CONTROL request: RANGE for a payload that is not two bytes, and for a command
code outside 1 to 8 (R152, R157, R160). Which row answers a request that names no command is DEDUCED (assumption
20): any of them. -/
def Claims.ControlRanges : Prop :=
  ∀ (c : Instr) (code : Byte) (f : Frame) (s : State), (c, 4, code) ∈ requestCodes → Requests s .hub f →
    s.psc.state ≠ .loading → f.payload.head? = some 4 →
    let n := f.payload.length
    let k := (byteAt f.payload 1).toNat
    let range : Prop := exec c s = .next (answered .hub f 3 [] (taken .hub s))
    (n = 1 → range) ∧ (2 ≤ n → (k = 0 ∨ 8 < k) → range) ∧ (2 < n → k = code.toNat → range)

/-- The checks of order 2 to 5 of R152 on every WRITE_TABLE and CONTROL row (R151, R152, R154, R155, R156, R157, R160,
R161; assumption 20). -/
def Obligations.RequestsGuarded : Prop := Claims.FirstChecks ∧ Claims.WriteRanges ∧ Claims.ControlRanges

/-- WRITE_TABLE from the Hub Port, of one whole record at an index in range: BUSY outside the access window, RANGE
for a record that fails its table's validation, BUSY for a rail slot that is not OFF; else the record is
stored and answered OK, or ADJUSTED when clamped, with what its table's rule sets going: a rail's counts at 0
and its millivolts kept only for MONITORED, a changed detector sense or arming change for a wake source (shown where
there is none, as there never is for the sources 9 to 13, which have no detector), a request event for a Policy
that changes the Requested Level (shown where it does not) (R152, R155, R156, R56, R23, R6, R117, R98, R99,
R3). -/
def Claims.RecordWrites : Prop :=
  ∀ (c : Instr) (t : Table) (tid index : Byte) (bs : List Byte) (f : Frame) (s : State), (c, 3, tid) ∈ requestCodes →
    tableOf tid.toNat = some t → Requests s .hub f → f.payload = 3 :: tid :: index :: bs → bs.length = recLen t →
    indexOk t index.toNat = true → s.psc.state ≠ .loading →
    let s0 := taken .hub s
    let inLevel := s.psc.state = .working ∨ s.psc.state = .suspend ∨ s.psc.state = .hibernate ∨ s.psc.state = .softOff
    let answer (code : Byte) (u : State) : Prop := exec c s = .next (answered .hub f code [] u)
    (¬inLevel → t ≠ .wakesrc → answer 2 s0) ∧
    (inLevel ∨ t = .wakesrc → checkRecord s t index.toNat bs = none → answer 3 s0) ∧
    ∀ r : Checked, inLevel ∨ t = .wakesrc → checkRecord s t index.toNat bs = some r →
      let ok : Byte := if r.clamped then 1 else 0
      match r with
      | .rail slot x _ =>
        let st := peek s.rails.stat slot
        let mV := match x.sense with | .monitored _ => st.mV | .pgline => 0 | .timed _ _ => 0
        (st.verdict ≠ .off → answer 2 s0) ∧
        (st.verdict = .off → answer ok (s0.setRails
          { s.rails with
            table := poke s.rails.table slot x,
            stat := poke s.rails.stat slot { st with inCount := 0, overCount := 0, outCount := 0, lowCount := 0, mV := mV } }))
      | .step i x => answer ok (s0.setEng { s.eng with steps := poke s.eng.steps i x })
      | .trans i x => answer ok (s0.setPsc { s.psc with trans := poke s.psc.trans i x })
      | .wire w x => answer ok (s0.setWire { s0.wire with map := poke s.wire.map w x })
      | .wake src x =>
        (9 ≤ src.val ∨ activeHigh (peek s.wake.table src).mode = activeHigh x.mode ∧
          ((peek s.wake.table src).mask.getLsbD (levelCode s.wake.armed).val = true ∨
            x.mask.getLsbD (levelCode s.wake.armed).val = false ∨ x.mode = .rise ∨ x.mode = .fall)) →
        answer ok (s0.setWake { s.wake with table := poke s.wake.table src x })
      | .policy0 x _ =>
        requestedOf x s.wire.level = requested s → answer ok (s0.setPsc { s.psc with policy0 := x })
      | .policy1 x => answer ok (s0.setPsc { s.psc with policy1 := x })

/-- A WAKESRC write for a line source: a detect mode of the other electrical sense sets the detector afresh from the
most recent sample, with no fire and, for the power button going INACTIVE, with the override timer stopped; and
where the write adds the Armed Level to the mask of a level-mode source, an ACTIVE detector fires the source, with
its notice sent, waiting, or under LRST not created (R99, R103, R107). -/
def Claims.WakeSourceWrites : Prop :=
  ∀ (src : Fin 9) (index : Byte) (bs : List Byte) (x : WakeSource) (f : Frame) (s : State), Requests s .hub f →
    f.payload = 3 :: 5 :: index :: bs → bs.length = 2 → index.toNat = src.val → s.psc.state ≠ .loading →
    checkRecord s .wakesrc index.toNat bs = some (.wake (lineSource src) x) →
    let s0 := taken .hub s
    let old := peek s.wake.table (lineSource src)
    let turned := activeHigh old.mode ≠ activeHigh x.mode
    let d := if turned then { active := decide (peek s.wake.sample src = activeHigh x.mode), count := 0 }
      else peek s.wake.det src
    let t := s0.setWake { s.wake with
      table := poke s.wake.table (lineSource src) x, det := poke s.wake.det src d,
      overrideT := if turned ∧ src.val = 8 ∧ d.active = false then none else s.wake.overrideT }
    let arms := old.mask.getLsbD (levelCode s.wake.armed).val = false ∧
      x.mask.getLsbD (levelCode s.wake.armed).val = true ∧ (x.mode = .high ∨ x.mode = .low) ∧ d.active = true
    exec .writeTableWakesrc s = .next (answered .hub f 0 [] (if arms then fired (lineSource src) t else t))

/-- A write of Policy record 0 that changes the Requested Level to `q` is stored, and one request event with the new value
is taken before the answer is formed (R3, R4, R155). -/
def Claims.PolicyRequests : Prop :=
  ∀ (bs : List Byte) (x : Policy0) (clamped : Bool) (f : Frame) (s : State), Requests s .hub f →
    f.payload = 3 :: 6 :: 0 :: bs → bs.length = 9 → checkRecord s .policy 0 bs = some (.policy0 x clamped) →
    (s.psc.state = .working ∨ s.psc.state = .suspend ∨ s.psc.state = .hibernate ∨ s.psc.state = .softOff) →
    let q := requestedOf x s.wire.level
    q ≠ requested s →
    RequestTaken q ((taken .hub s).setPsc { s.psc with policy0 := x }) fun t =>
      exec .writeTablePolicy s = .next (answered .hub f (if clamped then 1 else 0) [] t)

/-- When the record of a table fails its validation, byte by byte, against the tables as they stand: the RANGE conditions
of R156 that are not the index's (R3, R5, R24, R56, R81, R98, R117, R129, R156, R161). -/
def Claims.RecordRanges : Prop :=
  ∀ (s : State) (i : Nat) (bs : List Byte),
    let n (k : Nat) : Nat := (byteAt bs k).toNat
    let bit (k j : Nat) : Bool := (byteAt bs k).getLsbD j
    let unknownUnit (k : Nat) : Prop := n (k + 1) / 16 % 4 = 3
    let reqs := [s.psc.policy0.reqSusp, s.psc.policy0.reqHib, s.psc.policy0.reqOff]
    let request (e : WireEntry) : Prop := e.dir = .down ∧ (e.action = .track ∨ e.action = .hold ∨ e.action = .consume)
    let entry (k : Nat) : WireEntry := peek s.wire.map (Fin.ofNat 64 (n k))
    (i < 16 → (checkRecord s .rail i bs = none ↔
      (bit 1 7 = true ∧ i ≤ n 1 % 16) ∨ n 0 / 8 % 4 = 3 ∨ (n 0 / 8 % 4 = 0 ∧ 11 < n 2 % 16) ∨
        (n 0 / 8 % 4 = 1 ∧ 7 < n 2 % 16) ∨ (n 0 / 8 % 4 = 2 ∧ (unknownUnit 3 ∨ unknownUnit 5)))) ∧
    (checkRecord s .step i bs = none ↔
      n 0 % 16 = 15 ∨ (n 0 % 16 ∈ [1, 2, 3, 4] ∧ 15 < n 1) ∨ (n 0 % 16 ∈ [6, 7, 8] ∧ 7 < n 1) ∨
        (n 0 % 16 = 13 ∧ 3 < n 1) ∨ 63 < n 1 ∨ 1 < n 2 ∨ 3 < n 3 ∨ unknownUnit 4) ∧
    checkRecord s .transition i bs ≠ none ∧
    (i < 64 → (checkRecord s .wiremap i bs = none ↔
      4 < n 0 % 8 ∨ (Fin.ofNat 64 i ∈ reqs ∧ (bit 0 3 = true ∨ n 0 % 8 = 0 ∨ n 0 % 8 = 4)) ∨
        (s.psc.policy0.offNotice.present = true ∧ Fin.ofNat 64 i = s.psc.policy0.offNotice.value ∧
          (bit 0 3 = false ∨ n 0 % 8 ≠ 4)))) ∧
    (checkRecord s .wakesrc i bs = none ↔ 3 < n 1 % 8) ∧
    (checkRecord s .policy 0 bs = none ↔
      63 < n 0 ∨ 63 < n 1 ∨ 63 < n 2 ∨ n 0 = n 1 ∨ n 0 = n 2 ∨ n 1 = n 2 ∨ ¬request (entry 0) ∨ ¬request (entry 1) ∨
        ¬request (entry 2) ∨ (bit 3 7 = true ∧ ¬((entry 3).action = .own ∧ (entry 3).dir = .up)) ∨
        (bit 4 7 = true ∧ 7 < n 4 % 16) ∨ n 4 / 16 % 4 = 3 ∨ unknownUnit 5) ∧
    checkRecord s .policy 1 bs ≠ none

/-- The clamps of Policy record 0: a PFAIL filter width above 15 is stored as 15, an override time above 1,966,080 ticks
as 1920 × T1K, every other as written, and the record counts as clamped exactly when one of the two changed (R156). -/
def Claims.PolicyClamps : Prop :=
  ∀ (s : State) (bs : List Byte) (x : Policy0) (clamped : Bool) (t : TimeField),
    checkRecord s .policy 0 bs = some (.policy0 x clamped) →
    decodeTime ((byteAt bs 5).toNat + 256 * (byteAt bs 6).toNat) = some t →
    let w := (byteAt bs 7).toNat
    let long := 1966080 < t.value.val * unitTicks t.unit
    (x.pfailWidth.val = if 15 < w then 15 else w) ∧
      (x.overrideFor = if long then { value := 1920, unit := .t1k } else t) ∧ (clamped = true ↔ 15 < w ∨ long)

/-- WRITE_TABLE of every table, with what a WAKESRC write and a Policy write set going, the RANGE conditions of the
records and the clamps of Policy record 0 (R3, R4, R5, R6, R23, R24, R56, R98, R99, R103, R117, R152, R155, R156). -/
def Obligations.TableWrites : Prop :=
  Claims.RecordWrites ∧ Claims.WakeSourceWrites ∧ Claims.PolicyRequests ∧ Claims.RecordRanges ∧ Claims.PolicyClamps

/-- The CONTROL commands that only set or clear, from the Hub Port outside LOADING: HALT by PSC state, STEP_MODE_ON
and STEP_MODE_OFF, CLEAR_FAULT where the cleared latch serves no request again, CLEAR_WAKES, CLEAR_FLAGS with
SO_LOST kept while ticks come from RC, and CLEAR_COUNTERS; each with its answer and nothing else changed
(R49, R50, R90, R18, R108, R109, R158, R157). That a latch already clear takes no request again is DEDUCED
(assumption 17). -/
def Claims.CommandsAct : Prop :=
  ∀ (f : Frame) (s : State), Requests s .hub f → s.psc.state ≠ .loading →
    let s0 := taken .hub s
    let answer (c : Instr) (code : Byte) (u : State) : Prop := exec c s = .next (answered .hub f code [] u)
    (f.payload = [4, 1] →
      ((s.psc.state = .transit ∨ s.psc.state = .backout) →
        answer .halt 0 (s0.setEng { s.eng with norm := { s.eng.norm with haltPending := true } })) ∧
      (s.psc.state = .halted → answer .halt 0 s0) ∧
      (s.psc.state ≠ .transit → s.psc.state ≠ .backout → s.psc.state ≠ .halted → answer .halt 6 s0)) ∧
    (f.payload = [4, 3] → answer .stepModeOn 0 (s0.setEng { s.eng with stepMode := true })) ∧
    (f.payload = [4, 4] → answer .stepModeOff 0 (s0.setEng { s.eng with stepMode := false })) ∧
    (f.payload = [4, 5] →
      (s.psc.latch = false ∨ requested s ≠ .working ∨ s.psc.gateClosed = true ∨
        s.psc.state ≠ .suspend ∧ s.psc.state ≠ .hibernate ∧ s.psc.state ≠ .softOff) →
      answer .clearFault 0 ((s0.setFault { first := none, further := 0, urgentFails := 0 }).setPsc
        { s.psc with latch := false })) ∧
    (f.payload = [4, 6] → answer .clearWakes 0 (s0.setWake { s.wake with queue := [] })) ∧
    (f.payload = [4, 7] → answer .clearFlags 0 (((((s0.setPsc { s.psc with unsupported := false }).setWake
      { s.wake with overflow := false }).setWire { s0.wire with overflowFlag := false }).setClock
      { s.clock with fallback := false, soLost := if s.clock.source = .so then false else s.clock.soLost }).setLoader
      { s.loader with imageBad := false })) ∧
    (f.payload = [4, 8] → answer .clearCounters 0 (((((((s0.setHub { s0.hub with counters := zeroCounters }).setBoard
      { s0.board with counters := zeroCounters }).setWire
      { s0.wire with misdirected := 0, ownDrop := 0, holdOverflow := 0, collapse := 0 }).setRails
      { s.rails with stat := s.rails.stat.map fun x => { x with lost := 0 } }).setWake
      { s.wake with missed := Vector.replicate 14 0 }).setClock { s.clock with lockChanges := 0 }).setLoader
      { s.loader with warnings := 0 }))

/-- CLEAR_FAULT with the latch set in a level state below WORKING: the Fault Record and the latch are cleared, and
where WORKING is requested and the gate is open the request is taken again before the answer is formed: it starts
the transition, shown where its main list begins with a DELAY, or is refused UNSUPPORTED (R18, R90). -/
def Claims.ClearFaultRetries : Prop :=
  ∀ (f : Frame) (l : Level) (s : State), Requests s .hub f → f.payload = [4, 5] → s.psc.state = levelState l →
    l ≠ .working → s.psc.latch = true → s.eng.urg.running = false →
    let t := ((taken .hub s).setFault { first := none, further := 0, urgentFails := 0 }).setPsc
      { s.psc with latch := false }
    let answer (u : State) : Prop := exec .clearFault s = .next (answered .hub f 0 [] u)
    (s.psc.gateClosed = true → answer t) ∧
    (s.psc.gateClosed = false → requested s = .working →
      (EntryDelays s l .working → answer (begun l .working t)) ∧
      ((peek s.psc.trans (entryIndex l .working)).present = false →
        answer ((refusedBy l .working .unsupported t).setPsc { t.psc with unsupported := true })))

/-- The CONTROL commands but CONTINUE, with the request that a cleared latch takes again (R18, R49, R50, R90, R108,
R109, R157, R158; assumption 17). -/
def Obligations.ControlsAct : Prop := Claims.CommandsAct ∧ Claims.ClearFaultRetries

/-- CONTINUE: BAD_STATE outside HALTED; in HALTED with an absent slot the PSC returns to its halted-from state and
the channel runs the step due, the retries kept for a rerun and else 0, shown where that step is a DELAY: it
waits from this event's tick, counted in the report, and the answer is OK (R17, R51, R44, R52). -/
def Claims.ContinueRuns : Prop :=
  ∀ (f : Frame) (s : State), Requests s .hub f → s.psc.state ≠ .loading → f.payload = [4, 2] →
    let s0 := taken .hub s
    let n := s.eng.norm
    (s.psc.state ≠ .halted → exec .continueRun s = .next (answered .hub f 6 [] s0)) ∧
    ∀ h : HaltedFrom, s.psc.state = .halted → s.psc.haltedFrom = some h → s.psc.slot = none → n.st = .halted →
      s.eng.urg.running = false → LongDelay (peek s.eng.steps n.idx) →
      exec .continueRun s = .next (answered .hub f 0 []
        ((s0.setPsc { s.psc with
            state := (match h with | .transit => PscState.transit | .backout => .backout), haltedFrom := none }).setEng
          { s.eng with
            cur := peek s.eng.steps n.idx, wait := .step, due := .nothing,
            norm := { n with st := .running, ran := n.idx, start := s.clock.tick, rerunDue := false,
                             retries := if n.rerunDue then n.retries else 0 },
            inflight := { s.eng.inflight with steps := min 65535 (s.eng.inflight.steps + 1) } }))

/-- CONTINUE in HALTED with a level in the slot: the slot is cleared and the level is taken as a request event in the
halted-from state. In TRANSIT the target leaves the slot clear, the from-level begins back-out where it may, shown
where the back-out list begins with a DELAY, and any other level stands in the slot again, as every level does in
BACKOUT. Unless back-out began, the channel runs the step due, shown where it is a DELAY (R10, R11, R12, R17, R51;
retries of a run that is no rerun: DEDUCED, assumption 15). -/
def Claims.ContinueServesSlot : Prop :=
  ∀ (f : Frame) (h : HaltedFrom) (q : Level) (s : State), Requests s .hub f → f.payload = [4, 2] →
    s.psc.state = .halted → s.psc.haltedFrom = some h → s.psc.slot = some q → s.eng.norm.st = .halted →
    s.eng.wait = .none → s.eng.urg.running = false →
    let n := s.eng.norm
    let s0 := taken .hub s
    let back := h = .transit ∧ q ≠ s.psc.target ∧ MayBackOut s q
    let from_ : PscState := match h with | .transit => .transit | .backout => .backout
    let answer (t : State) : Prop := exec .continueRun s = .next (answered .hub f 0 [] t)
    (back → LongDelay (peek s.eng.steps (peek s.psc.trans (entryIndex s.psc.current s.psc.target)).backout.value) →
      answer (backedOut (s0.setPsc { s.psc with state := from_, haltedFrom := none }))) ∧
    (¬back → LongDelay (peek s.eng.steps n.idx) →
      answer ((s0.setPsc
        { s.psc with
          state := from_, haltedFrom := none,
          slot := if h = .transit ∧ q = s.psc.target then none else some q }).setEng
        { s.eng with
          cur := peek s.eng.steps n.idx, wait := .step, due := .nothing,
          norm := { n with st := .running, ran := n.idx, start := s.clock.tick, rerunDue := false,
                           retries := if n.rerunDue then n.retries else 0 },
          inflight := { s.eng.inflight with steps := min 65535 (s.eng.inflight.steps + 1) } }))

/-- CONTINUE, with an absent slot and with a level in it (R10, R11, R12, R17, R44, R51, R52; assumption 15). -/
def Obligations.ContinueResumes : Prop := Claims.ContinueRuns ∧ Claims.ContinueServesSlot

/-! ## Encodings (chapter 11) -/

/-- Every record that its table can hold is read back from its own bytes: decode of encode is the record, for all
seven kinds of record, with no field clamped; and each has its table's length (R161, R24, R55, R81, R129,
R156). That the line and filter bits of a NONE rail are stored as written is DEDUCED (assumption 19). -/
def Claims.RecordsReadBack : Prop :=
  (∀ (slot : Fin 16) (r : RailRec), (r.parent.present = true → r.parent.value < slot) →
    (match r.sense with
      | .monitored b => r.line.val ≤ 11 ∧ clampBands b = b
      | .pgline => r.line.val ≤ 7
      | .timed _ _ => True) →
    decodeRail slot (encodeRail r) = some (r, false) ∧ (encodeRail r).length = recLen .rail) ∧
  (∀ r : StepRec, r.opA.val ≤ opALimit r.kind →
    decodeStep (encodeStep r) = some r ∧ (encodeStep r).length = recLen .step) ∧
  (∀ e : TransEntry, decodeTrans (encodeTrans e) = e ∧ (encodeTrans e).length = recLen .transition) ∧
  (∀ e : WireEntry, decodeWire (encodeWire e) = some e ∧ (encodeWire e).length = recLen .wiremap) ∧
  (∀ e : WakeSource, decodeWake (encodeWake e) = some e ∧ (encodeWake e).length = recLen .wakesrc) ∧
  (∀ p : Policy0, (p.trip.present = true → p.trip.value.val ≤ 7) → duration p.overrideFor ≤ 1966080 →
    decodePolicy0 (encodePolicy0 p) = some (p, false) ∧ (encodePolicy0 p).length = recLen .policy) ∧
  ∀ p : Policy1, decodePolicy1 (encodePolicy1 p) = p ∧ (encodePolicy1 p).length = recLen .policy

/-- Every record is laid out in its bytes as R161 gives, stored from them as R161 gives, and read back from its own
bytes (R24, R55, R81, R129, R155, R156, R161; assumption 19). -/
def Obligations.RecordsRoundTrip : Prop := Claims.RecordsReadBack ∧ Claims.RecordLayouts ∧ Claims.RecordsStored

/-- Every frame of a receivable kind with at most 15 payload bytes is received as it was sent: its bytes pass the
checks of a port and give the frame back (R142, R143, R145, R159). -/
def Obligations.FramesRoundTrip : Prop :=
  ∀ f : Frame, f.kind ≠ .mgmtRsp → f.payload.length ≤ 15 →
    parseFrame (frameBytes f) false = .ok f ∧ 3 ≤ (frameBytes f).length ∧ (frameBytes f).length ≤ 18

/-! ## Invariants that every step keeps -/

/-- From every state whose engine is at rest, a step answers a state whose engine is at rest: one event runs its
whole chain of steps, up to a step that waits, a halt or the end of the list (R25). -/
def Obligations.EngineComesToRest : Prop :=
  ∀ s t : State, s.eng.due = .nothing → step s = .next t → t.eng.due = .nothing

/-- Every step keeps the Clock Unit's relations: FAST_LOOP exactly with LOCKED, SLOW exactly with a stopped loop,
LOCKED only in TRACKING, detection armed exactly under the standby oscillator, and the counts' bounds (R130,
R131, R132, R133). -/
def Obligations.ClockInvariant : Prop := ∀ s t : State, ClockInv s.clock → step s = .next t → ClockInv t.clock

/-- Every step keeps the Fault Record's bounds, and no further fault without a first one (R91). -/
def Claims.FaultRecordInvariant : Prop := ∀ s t : State, FaultInv s.fault → step s = .next t → FaultInv t.fault

/-- Every step keeps the Pending Wake Queue at most 8 entries, no two of one source, and the counts in their
ranges (R108, R109). -/
def Claims.WakeQueueInvariant : Prop := ∀ s t : State, WakeInv s.wake → step s = .next t → WakeInv t.wake

/-- Every step keeps the invariants of the Fault Record and of the Pending Wake Queue (R91, R108, R109). -/
def Obligations.RecordInvariants : Prop := Claims.FaultRecordInvariant ∧ Claims.WakeQueueInvariant

/-- Every step keeps the receive and transmit queues, the waiting notices and the Hold Queue within their
capacities, the ports empty under LRST, and no slot kept between events (R122, R142, R145, R146, R147). -/
def Obligations.QueueInvariant : Prop := ∀ s t : State, QueueInv s → step s = .next t → QueueInv t

/-- Every step keeps the relations between the PSC state, the PSC's fields and the two channels: never both
channels RUNNING, both IDLE exactly in a level state or LOADING, the three relations of R2 in a level state,
the gate closed only in URGENT and SOFT_OFF, and the Hold Queue empty with hold lifted in every level state
(R1, R2, R7, R15, R42, R121, R122). -/
def Obligations.PscInvariant : Prop := ∀ s t : State, PscInv s → step s = .next t → PscInv t

/-- Every step from a state that keeps the PSC's invariant keeps the relations of every rail: the enable line undriven
exactly in LOADING and asserted exactly under RISING, GOOD and LOST, a timer running exactly on a NONE rail under
RISING or DRAINING, a NONE rail never LOST, each count below the filter under the verdict that uses it and 0
under every other (R57, R60, R61, R62, R64, R65, R66, R77, R78, R79). -/
def Obligations.RailInvariant : Prop :=
  ∀ s t : State, PscInv s → RailInv s → step s = .next t → RailInv t
end

