-- ==== Sys2Proof/Laws/State.lean ====
section
/-! SUPPORT. What each named update of one block leaves in each field of the state. -/

namespace Sys2Proof.Machine

section
variable (s : State) (x : Psc)
@[simp] theorem State.setPsc_psc : (s.setPsc x).psc = x := rfl
@[simp] theorem State.setPsc_eng : (s.setPsc x).eng = s.eng := rfl
@[simp] theorem State.setPsc_rails : (s.setPsc x).rails = s.rails := rfl
@[simp] theorem State.setPsc_fault : (s.setPsc x).fault = s.fault := rfl
@[simp] theorem State.setPsc_wake : (s.setPsc x).wake = s.wake := rfl
@[simp] theorem State.setPsc_wire : (s.setPsc x).wire = s.wire := rfl
@[simp] theorem State.setPsc_hub : (s.setPsc x).hub = s.hub := rfl
@[simp] theorem State.setPsc_board : (s.setPsc x).board = s.board := rfl
@[simp] theorem State.setPsc_agent : (s.setPsc x).agent = s.agent := rfl
@[simp] theorem State.setPsc_clock : (s.setPsc x).clock = s.clock := rfl
@[simp] theorem State.setPsc_loader : (s.setPsc x).loader = s.loader := rfl
@[simp] theorem State.setPsc_pins : (s.setPsc x).pins = s.pins := rfl
@[simp] theorem State.setPsc_boundary : (s.setPsc x).boundary = s.boundary := rfl
@[simp] theorem State.setPsc_lrst : (s.setPsc x).lrst = s.lrst := rfl
@[simp] theorem State.setPsc_powered : (s.setPsc x).powered = s.powered := rfl
@[simp] theorem State.setPsc_uses : (s.setPsc x).uses = s.uses := rfl
@[simp] theorem State.setPsc_pending : (s.setPsc x).pending = s.pending := rfl
end

section
variable (s : State) (x : Engine)
@[simp] theorem State.setEng_psc : (s.setEng x).psc = s.psc := rfl
@[simp] theorem State.setEng_eng : (s.setEng x).eng = x := rfl
@[simp] theorem State.setEng_rails : (s.setEng x).rails = s.rails := rfl
@[simp] theorem State.setEng_fault : (s.setEng x).fault = s.fault := rfl
@[simp] theorem State.setEng_wake : (s.setEng x).wake = s.wake := rfl
@[simp] theorem State.setEng_wire : (s.setEng x).wire = s.wire := rfl
@[simp] theorem State.setEng_hub : (s.setEng x).hub = s.hub := rfl
@[simp] theorem State.setEng_board : (s.setEng x).board = s.board := rfl
@[simp] theorem State.setEng_agent : (s.setEng x).agent = s.agent := rfl
@[simp] theorem State.setEng_clock : (s.setEng x).clock = s.clock := rfl
@[simp] theorem State.setEng_loader : (s.setEng x).loader = s.loader := rfl
@[simp] theorem State.setEng_pins : (s.setEng x).pins = s.pins := rfl
@[simp] theorem State.setEng_boundary : (s.setEng x).boundary = s.boundary := rfl
@[simp] theorem State.setEng_lrst : (s.setEng x).lrst = s.lrst := rfl
@[simp] theorem State.setEng_powered : (s.setEng x).powered = s.powered := rfl
@[simp] theorem State.setEng_uses : (s.setEng x).uses = s.uses := rfl
@[simp] theorem State.setEng_pending : (s.setEng x).pending = s.pending := rfl
end

section
variable (s : State) (x : Rails)
@[simp] theorem State.setRails_psc : (s.setRails x).psc = s.psc := rfl
@[simp] theorem State.setRails_eng : (s.setRails x).eng = s.eng := rfl
@[simp] theorem State.setRails_rails : (s.setRails x).rails = x := rfl
@[simp] theorem State.setRails_fault : (s.setRails x).fault = s.fault := rfl
@[simp] theorem State.setRails_wake : (s.setRails x).wake = s.wake := rfl
@[simp] theorem State.setRails_wire : (s.setRails x).wire = s.wire := rfl
@[simp] theorem State.setRails_hub : (s.setRails x).hub = s.hub := rfl
@[simp] theorem State.setRails_board : (s.setRails x).board = s.board := rfl
@[simp] theorem State.setRails_agent : (s.setRails x).agent = s.agent := rfl
@[simp] theorem State.setRails_clock : (s.setRails x).clock = s.clock := rfl
@[simp] theorem State.setRails_loader : (s.setRails x).loader = s.loader := rfl
@[simp] theorem State.setRails_pins : (s.setRails x).pins = s.pins := rfl
@[simp] theorem State.setRails_boundary : (s.setRails x).boundary = s.boundary := rfl
@[simp] theorem State.setRails_lrst : (s.setRails x).lrst = s.lrst := rfl
@[simp] theorem State.setRails_powered : (s.setRails x).powered = s.powered := rfl
@[simp] theorem State.setRails_uses : (s.setRails x).uses = s.uses := rfl
@[simp] theorem State.setRails_pending : (s.setRails x).pending = s.pending := rfl
end

section
variable (s : State) (x : FaultRecord)
@[simp] theorem State.setFault_psc : (s.setFault x).psc = s.psc := rfl
@[simp] theorem State.setFault_eng : (s.setFault x).eng = s.eng := rfl
@[simp] theorem State.setFault_rails : (s.setFault x).rails = s.rails := rfl
@[simp] theorem State.setFault_fault : (s.setFault x).fault = x := rfl
@[simp] theorem State.setFault_wake : (s.setFault x).wake = s.wake := rfl
@[simp] theorem State.setFault_wire : (s.setFault x).wire = s.wire := rfl
@[simp] theorem State.setFault_hub : (s.setFault x).hub = s.hub := rfl
@[simp] theorem State.setFault_board : (s.setFault x).board = s.board := rfl
@[simp] theorem State.setFault_agent : (s.setFault x).agent = s.agent := rfl
@[simp] theorem State.setFault_clock : (s.setFault x).clock = s.clock := rfl
@[simp] theorem State.setFault_loader : (s.setFault x).loader = s.loader := rfl
@[simp] theorem State.setFault_pins : (s.setFault x).pins = s.pins := rfl
@[simp] theorem State.setFault_boundary : (s.setFault x).boundary = s.boundary := rfl
@[simp] theorem State.setFault_lrst : (s.setFault x).lrst = s.lrst := rfl
@[simp] theorem State.setFault_powered : (s.setFault x).powered = s.powered := rfl
@[simp] theorem State.setFault_uses : (s.setFault x).uses = s.uses := rfl
@[simp] theorem State.setFault_pending : (s.setFault x).pending = s.pending := rfl
end

section
variable (s : State) (x : Wake)
@[simp] theorem State.setWake_psc : (s.setWake x).psc = s.psc := rfl
@[simp] theorem State.setWake_eng : (s.setWake x).eng = s.eng := rfl
@[simp] theorem State.setWake_rails : (s.setWake x).rails = s.rails := rfl
@[simp] theorem State.setWake_fault : (s.setWake x).fault = s.fault := rfl
@[simp] theorem State.setWake_wake : (s.setWake x).wake = x := rfl
@[simp] theorem State.setWake_wire : (s.setWake x).wire = s.wire := rfl
@[simp] theorem State.setWake_hub : (s.setWake x).hub = s.hub := rfl
@[simp] theorem State.setWake_board : (s.setWake x).board = s.board := rfl
@[simp] theorem State.setWake_agent : (s.setWake x).agent = s.agent := rfl
@[simp] theorem State.setWake_clock : (s.setWake x).clock = s.clock := rfl
@[simp] theorem State.setWake_loader : (s.setWake x).loader = s.loader := rfl
@[simp] theorem State.setWake_pins : (s.setWake x).pins = s.pins := rfl
@[simp] theorem State.setWake_boundary : (s.setWake x).boundary = s.boundary := rfl
@[simp] theorem State.setWake_lrst : (s.setWake x).lrst = s.lrst := rfl
@[simp] theorem State.setWake_powered : (s.setWake x).powered = s.powered := rfl
@[simp] theorem State.setWake_uses : (s.setWake x).uses = s.uses := rfl
@[simp] theorem State.setWake_pending : (s.setWake x).pending = s.pending := rfl
end

section
variable (s : State) (x : Classifier)
@[simp] theorem State.setWire_psc : (s.setWire x).psc = s.psc := rfl
@[simp] theorem State.setWire_eng : (s.setWire x).eng = s.eng := rfl
@[simp] theorem State.setWire_rails : (s.setWire x).rails = s.rails := rfl
@[simp] theorem State.setWire_fault : (s.setWire x).fault = s.fault := rfl
@[simp] theorem State.setWire_wake : (s.setWire x).wake = s.wake := rfl
@[simp] theorem State.setWire_wire : (s.setWire x).wire = x := rfl
@[simp] theorem State.setWire_hub : (s.setWire x).hub = s.hub := rfl
@[simp] theorem State.setWire_board : (s.setWire x).board = s.board := rfl
@[simp] theorem State.setWire_agent : (s.setWire x).agent = s.agent := rfl
@[simp] theorem State.setWire_clock : (s.setWire x).clock = s.clock := rfl
@[simp] theorem State.setWire_loader : (s.setWire x).loader = s.loader := rfl
@[simp] theorem State.setWire_pins : (s.setWire x).pins = s.pins := rfl
@[simp] theorem State.setWire_boundary : (s.setWire x).boundary = s.boundary := rfl
@[simp] theorem State.setWire_lrst : (s.setWire x).lrst = s.lrst := rfl
@[simp] theorem State.setWire_powered : (s.setWire x).powered = s.powered := rfl
@[simp] theorem State.setWire_uses : (s.setWire x).uses = s.uses := rfl
@[simp] theorem State.setWire_pending : (s.setWire x).pending = s.pending := rfl
end

section
variable (s : State) (x : Link)
@[simp] theorem State.setHub_psc : (s.setHub x).psc = s.psc := rfl
@[simp] theorem State.setHub_eng : (s.setHub x).eng = s.eng := rfl
@[simp] theorem State.setHub_rails : (s.setHub x).rails = s.rails := rfl
@[simp] theorem State.setHub_fault : (s.setHub x).fault = s.fault := rfl
@[simp] theorem State.setHub_wake : (s.setHub x).wake = s.wake := rfl
@[simp] theorem State.setHub_wire : (s.setHub x).wire = s.wire := rfl
@[simp] theorem State.setHub_hub : (s.setHub x).hub = x := rfl
@[simp] theorem State.setHub_board : (s.setHub x).board = s.board := rfl
@[simp] theorem State.setHub_agent : (s.setHub x).agent = s.agent := rfl
@[simp] theorem State.setHub_clock : (s.setHub x).clock = s.clock := rfl
@[simp] theorem State.setHub_loader : (s.setHub x).loader = s.loader := rfl
@[simp] theorem State.setHub_pins : (s.setHub x).pins = s.pins := rfl
@[simp] theorem State.setHub_boundary : (s.setHub x).boundary = s.boundary := rfl
@[simp] theorem State.setHub_lrst : (s.setHub x).lrst = s.lrst := rfl
@[simp] theorem State.setHub_powered : (s.setHub x).powered = s.powered := rfl
@[simp] theorem State.setHub_uses : (s.setHub x).uses = s.uses := rfl
@[simp] theorem State.setHub_pending : (s.setHub x).pending = s.pending := rfl
end

section
variable (s : State) (x : Link)
@[simp] theorem State.setBoard_psc : (s.setBoard x).psc = s.psc := rfl
@[simp] theorem State.setBoard_eng : (s.setBoard x).eng = s.eng := rfl
@[simp] theorem State.setBoard_rails : (s.setBoard x).rails = s.rails := rfl
@[simp] theorem State.setBoard_fault : (s.setBoard x).fault = s.fault := rfl
@[simp] theorem State.setBoard_wake : (s.setBoard x).wake = s.wake := rfl
@[simp] theorem State.setBoard_wire : (s.setBoard x).wire = s.wire := rfl
@[simp] theorem State.setBoard_hub : (s.setBoard x).hub = s.hub := rfl
@[simp] theorem State.setBoard_board : (s.setBoard x).board = x := rfl
@[simp] theorem State.setBoard_agent : (s.setBoard x).agent = s.agent := rfl
@[simp] theorem State.setBoard_clock : (s.setBoard x).clock = s.clock := rfl
@[simp] theorem State.setBoard_loader : (s.setBoard x).loader = s.loader := rfl
@[simp] theorem State.setBoard_pins : (s.setBoard x).pins = s.pins := rfl
@[simp] theorem State.setBoard_boundary : (s.setBoard x).boundary = s.boundary := rfl
@[simp] theorem State.setBoard_lrst : (s.setBoard x).lrst = s.lrst := rfl
@[simp] theorem State.setBoard_powered : (s.setBoard x).powered = s.powered := rfl
@[simp] theorem State.setBoard_uses : (s.setBoard x).uses = s.uses := rfl
@[simp] theorem State.setBoard_pending : (s.setBoard x).pending = s.pending := rfl
end

section
variable (s : State) (x : Option Service)
@[simp] theorem State.setAgent_psc : (s.setAgent x).psc = s.psc := rfl
@[simp] theorem State.setAgent_eng : (s.setAgent x).eng = s.eng := rfl
@[simp] theorem State.setAgent_rails : (s.setAgent x).rails = s.rails := rfl
@[simp] theorem State.setAgent_fault : (s.setAgent x).fault = s.fault := rfl
@[simp] theorem State.setAgent_wake : (s.setAgent x).wake = s.wake := rfl
@[simp] theorem State.setAgent_wire : (s.setAgent x).wire = s.wire := rfl
@[simp] theorem State.setAgent_hub : (s.setAgent x).hub = s.hub := rfl
@[simp] theorem State.setAgent_board : (s.setAgent x).board = s.board := rfl
@[simp] theorem State.setAgent_agent : (s.setAgent x).agent = x := rfl
@[simp] theorem State.setAgent_clock : (s.setAgent x).clock = s.clock := rfl
@[simp] theorem State.setAgent_loader : (s.setAgent x).loader = s.loader := rfl
@[simp] theorem State.setAgent_pins : (s.setAgent x).pins = s.pins := rfl
@[simp] theorem State.setAgent_boundary : (s.setAgent x).boundary = s.boundary := rfl
@[simp] theorem State.setAgent_lrst : (s.setAgent x).lrst = s.lrst := rfl
@[simp] theorem State.setAgent_powered : (s.setAgent x).powered = s.powered := rfl
@[simp] theorem State.setAgent_uses : (s.setAgent x).uses = s.uses := rfl
@[simp] theorem State.setAgent_pending : (s.setAgent x).pending = s.pending := rfl
end

section
variable (s : State) (x : Clock)
@[simp] theorem State.setClock_psc : (s.setClock x).psc = s.psc := rfl
@[simp] theorem State.setClock_eng : (s.setClock x).eng = s.eng := rfl
@[simp] theorem State.setClock_rails : (s.setClock x).rails = s.rails := rfl
@[simp] theorem State.setClock_fault : (s.setClock x).fault = s.fault := rfl
@[simp] theorem State.setClock_wake : (s.setClock x).wake = s.wake := rfl
@[simp] theorem State.setClock_wire : (s.setClock x).wire = s.wire := rfl
@[simp] theorem State.setClock_hub : (s.setClock x).hub = s.hub := rfl
@[simp] theorem State.setClock_board : (s.setClock x).board = s.board := rfl
@[simp] theorem State.setClock_agent : (s.setClock x).agent = s.agent := rfl
@[simp] theorem State.setClock_clock : (s.setClock x).clock = x := rfl
@[simp] theorem State.setClock_loader : (s.setClock x).loader = s.loader := rfl
@[simp] theorem State.setClock_pins : (s.setClock x).pins = s.pins := rfl
@[simp] theorem State.setClock_boundary : (s.setClock x).boundary = s.boundary := rfl
@[simp] theorem State.setClock_lrst : (s.setClock x).lrst = s.lrst := rfl
@[simp] theorem State.setClock_powered : (s.setClock x).powered = s.powered := rfl
@[simp] theorem State.setClock_uses : (s.setClock x).uses = s.uses := rfl
@[simp] theorem State.setClock_pending : (s.setClock x).pending = s.pending := rfl
end

section
variable (s : State) (x : Loader)
@[simp] theorem State.setLoader_psc : (s.setLoader x).psc = s.psc := rfl
@[simp] theorem State.setLoader_eng : (s.setLoader x).eng = s.eng := rfl
@[simp] theorem State.setLoader_rails : (s.setLoader x).rails = s.rails := rfl
@[simp] theorem State.setLoader_fault : (s.setLoader x).fault = s.fault := rfl
@[simp] theorem State.setLoader_wake : (s.setLoader x).wake = s.wake := rfl
@[simp] theorem State.setLoader_wire : (s.setLoader x).wire = s.wire := rfl
@[simp] theorem State.setLoader_hub : (s.setLoader x).hub = s.hub := rfl
@[simp] theorem State.setLoader_board : (s.setLoader x).board = s.board := rfl
@[simp] theorem State.setLoader_agent : (s.setLoader x).agent = s.agent := rfl
@[simp] theorem State.setLoader_clock : (s.setLoader x).clock = s.clock := rfl
@[simp] theorem State.setLoader_loader : (s.setLoader x).loader = x := rfl
@[simp] theorem State.setLoader_pins : (s.setLoader x).pins = s.pins := rfl
@[simp] theorem State.setLoader_boundary : (s.setLoader x).boundary = s.boundary := rfl
@[simp] theorem State.setLoader_lrst : (s.setLoader x).lrst = s.lrst := rfl
@[simp] theorem State.setLoader_powered : (s.setLoader x).powered = s.powered := rfl
@[simp] theorem State.setLoader_uses : (s.setLoader x).uses = s.uses := rfl
@[simp] theorem State.setLoader_pending : (s.setLoader x).pending = s.pending := rfl
end

section
variable (s : State) (x : Pins)
@[simp] theorem State.setPins_psc : (s.setPins x).psc = s.psc := rfl
@[simp] theorem State.setPins_eng : (s.setPins x).eng = s.eng := rfl
@[simp] theorem State.setPins_rails : (s.setPins x).rails = s.rails := rfl
@[simp] theorem State.setPins_fault : (s.setPins x).fault = s.fault := rfl
@[simp] theorem State.setPins_wake : (s.setPins x).wake = s.wake := rfl
@[simp] theorem State.setPins_wire : (s.setPins x).wire = s.wire := rfl
@[simp] theorem State.setPins_hub : (s.setPins x).hub = s.hub := rfl
@[simp] theorem State.setPins_board : (s.setPins x).board = s.board := rfl
@[simp] theorem State.setPins_agent : (s.setPins x).agent = s.agent := rfl
@[simp] theorem State.setPins_clock : (s.setPins x).clock = s.clock := rfl
@[simp] theorem State.setPins_loader : (s.setPins x).loader = s.loader := rfl
@[simp] theorem State.setPins_pins : (s.setPins x).pins = x := rfl
@[simp] theorem State.setPins_boundary : (s.setPins x).boundary = s.boundary := rfl
@[simp] theorem State.setPins_lrst : (s.setPins x).lrst = s.lrst := rfl
@[simp] theorem State.setPins_powered : (s.setPins x).powered = s.powered := rfl
@[simp] theorem State.setPins_uses : (s.setPins x).uses = s.uses := rfl
@[simp] theorem State.setPins_pending : (s.setPins x).pending = s.pending := rfl
end

section
variable (s : State) (x : Boundary)
@[simp] theorem State.setBoundary_psc : (s.setBoundary x).psc = s.psc := rfl
@[simp] theorem State.setBoundary_eng : (s.setBoundary x).eng = s.eng := rfl
@[simp] theorem State.setBoundary_rails : (s.setBoundary x).rails = s.rails := rfl
@[simp] theorem State.setBoundary_fault : (s.setBoundary x).fault = s.fault := rfl
@[simp] theorem State.setBoundary_wake : (s.setBoundary x).wake = s.wake := rfl
@[simp] theorem State.setBoundary_wire : (s.setBoundary x).wire = s.wire := rfl
@[simp] theorem State.setBoundary_hub : (s.setBoundary x).hub = s.hub := rfl
@[simp] theorem State.setBoundary_board : (s.setBoundary x).board = s.board := rfl
@[simp] theorem State.setBoundary_agent : (s.setBoundary x).agent = s.agent := rfl
@[simp] theorem State.setBoundary_clock : (s.setBoundary x).clock = s.clock := rfl
@[simp] theorem State.setBoundary_loader : (s.setBoundary x).loader = s.loader := rfl
@[simp] theorem State.setBoundary_pins : (s.setBoundary x).pins = s.pins := rfl
@[simp] theorem State.setBoundary_boundary : (s.setBoundary x).boundary = x := rfl
@[simp] theorem State.setBoundary_lrst : (s.setBoundary x).lrst = s.lrst := rfl
@[simp] theorem State.setBoundary_powered : (s.setBoundary x).powered = s.powered := rfl
@[simp] theorem State.setBoundary_uses : (s.setBoundary x).uses = s.uses := rfl
@[simp] theorem State.setBoundary_pending : (s.setBoundary x).pending = s.pending := rfl
end

section
variable (s : State) (x : Bool)
@[simp] theorem State.setLrst_psc : (s.setLrst x).psc = s.psc := rfl
@[simp] theorem State.setLrst_eng : (s.setLrst x).eng = s.eng := rfl
@[simp] theorem State.setLrst_rails : (s.setLrst x).rails = s.rails := rfl
@[simp] theorem State.setLrst_fault : (s.setLrst x).fault = s.fault := rfl
@[simp] theorem State.setLrst_wake : (s.setLrst x).wake = s.wake := rfl
@[simp] theorem State.setLrst_wire : (s.setLrst x).wire = s.wire := rfl
@[simp] theorem State.setLrst_hub : (s.setLrst x).hub = s.hub := rfl
@[simp] theorem State.setLrst_board : (s.setLrst x).board = s.board := rfl
@[simp] theorem State.setLrst_agent : (s.setLrst x).agent = s.agent := rfl
@[simp] theorem State.setLrst_clock : (s.setLrst x).clock = s.clock := rfl
@[simp] theorem State.setLrst_loader : (s.setLrst x).loader = s.loader := rfl
@[simp] theorem State.setLrst_pins : (s.setLrst x).pins = s.pins := rfl
@[simp] theorem State.setLrst_boundary : (s.setLrst x).boundary = s.boundary := rfl
@[simp] theorem State.setLrst_lrst : (s.setLrst x).lrst = x := rfl
@[simp] theorem State.setLrst_powered : (s.setLrst x).powered = s.powered := rfl
@[simp] theorem State.setLrst_uses : (s.setLrst x).uses = s.uses := rfl
@[simp] theorem State.setLrst_pending : (s.setLrst x).pending = s.pending := rfl
end

section
variable (s : State) (x : Bool)
@[simp] theorem State.setPowered_psc : (s.setPowered x).psc = s.psc := rfl
@[simp] theorem State.setPowered_eng : (s.setPowered x).eng = s.eng := rfl
@[simp] theorem State.setPowered_rails : (s.setPowered x).rails = s.rails := rfl
@[simp] theorem State.setPowered_fault : (s.setPowered x).fault = s.fault := rfl
@[simp] theorem State.setPowered_wake : (s.setPowered x).wake = s.wake := rfl
@[simp] theorem State.setPowered_wire : (s.setPowered x).wire = s.wire := rfl
@[simp] theorem State.setPowered_hub : (s.setPowered x).hub = s.hub := rfl
@[simp] theorem State.setPowered_board : (s.setPowered x).board = s.board := rfl
@[simp] theorem State.setPowered_agent : (s.setPowered x).agent = s.agent := rfl
@[simp] theorem State.setPowered_clock : (s.setPowered x).clock = s.clock := rfl
@[simp] theorem State.setPowered_loader : (s.setPowered x).loader = s.loader := rfl
@[simp] theorem State.setPowered_pins : (s.setPowered x).pins = s.pins := rfl
@[simp] theorem State.setPowered_boundary : (s.setPowered x).boundary = s.boundary := rfl
@[simp] theorem State.setPowered_lrst : (s.setPowered x).lrst = s.lrst := rfl
@[simp] theorem State.setPowered_powered : (s.setPowered x).powered = x := rfl
@[simp] theorem State.setPowered_uses : (s.setPowered x).uses = s.uses := rfl
@[simp] theorem State.setPowered_pending : (s.setPowered x).pending = s.pending := rfl
end

section
variable (s : State) (x : Nat)
@[simp] theorem State.setUses_psc : (s.setUses x).psc = s.psc := rfl
@[simp] theorem State.setUses_eng : (s.setUses x).eng = s.eng := rfl
@[simp] theorem State.setUses_rails : (s.setUses x).rails = s.rails := rfl
@[simp] theorem State.setUses_fault : (s.setUses x).fault = s.fault := rfl
@[simp] theorem State.setUses_wake : (s.setUses x).wake = s.wake := rfl
@[simp] theorem State.setUses_wire : (s.setUses x).wire = s.wire := rfl
@[simp] theorem State.setUses_hub : (s.setUses x).hub = s.hub := rfl
@[simp] theorem State.setUses_board : (s.setUses x).board = s.board := rfl
@[simp] theorem State.setUses_agent : (s.setUses x).agent = s.agent := rfl
@[simp] theorem State.setUses_clock : (s.setUses x).clock = s.clock := rfl
@[simp] theorem State.setUses_loader : (s.setUses x).loader = s.loader := rfl
@[simp] theorem State.setUses_pins : (s.setUses x).pins = s.pins := rfl
@[simp] theorem State.setUses_boundary : (s.setUses x).boundary = s.boundary := rfl
@[simp] theorem State.setUses_lrst : (s.setUses x).lrst = s.lrst := rfl
@[simp] theorem State.setUses_powered : (s.setUses x).powered = s.powered := rfl
@[simp] theorem State.setUses_uses : (s.setUses x).uses = x := rfl
@[simp] theorem State.setUses_pending : (s.setUses x).pending = s.pending := rfl
end

section
variable (s : State) (x : List Instr)
@[simp] theorem State.setPending_psc : (s.setPending x).psc = s.psc := rfl
@[simp] theorem State.setPending_eng : (s.setPending x).eng = s.eng := rfl
@[simp] theorem State.setPending_rails : (s.setPending x).rails = s.rails := rfl
@[simp] theorem State.setPending_fault : (s.setPending x).fault = s.fault := rfl
@[simp] theorem State.setPending_wake : (s.setPending x).wake = s.wake := rfl
@[simp] theorem State.setPending_wire : (s.setPending x).wire = s.wire := rfl
@[simp] theorem State.setPending_hub : (s.setPending x).hub = s.hub := rfl
@[simp] theorem State.setPending_board : (s.setPending x).board = s.board := rfl
@[simp] theorem State.setPending_agent : (s.setPending x).agent = s.agent := rfl
@[simp] theorem State.setPending_clock : (s.setPending x).clock = s.clock := rfl
@[simp] theorem State.setPending_loader : (s.setPending x).loader = s.loader := rfl
@[simp] theorem State.setPending_pins : (s.setPending x).pins = s.pins := rfl
@[simp] theorem State.setPending_boundary : (s.setPending x).boundary = s.boundary := rfl
@[simp] theorem State.setPending_lrst : (s.setPending x).lrst = s.lrst := rfl
@[simp] theorem State.setPending_powered : (s.setPending x).powered = s.powered := rfl
@[simp] theorem State.setPending_uses : (s.setPending x).uses = s.uses := rfl
@[simp] theorem State.setPending_pending : (s.setPending x).pending = x := rfl
end

/-! ## A field set twice, and a field set to itself -/

@[simp] theorem State.setPsc_twice (s : State) (a b : Psc) : (s.setPsc a).setPsc b = s.setPsc b := rfl
@[simp] theorem State.setPsc_self (s : State) : s.setPsc s.psc = s := rfl
@[simp] theorem State.setEng_twice (s : State) (a b : Engine) : (s.setEng a).setEng b = s.setEng b := rfl
@[simp] theorem State.setEng_self (s : State) : s.setEng s.eng = s := rfl
@[simp] theorem State.setRails_twice (s : State) (a b : Rails) : (s.setRails a).setRails b = s.setRails b := rfl
@[simp] theorem State.setRails_self (s : State) : s.setRails s.rails = s := rfl
@[simp] theorem State.setFault_twice (s : State) (a b : FaultRecord) : (s.setFault a).setFault b = s.setFault b := rfl
@[simp] theorem State.setFault_self (s : State) : s.setFault s.fault = s := rfl
@[simp] theorem State.setWake_twice (s : State) (a b : Wake) : (s.setWake a).setWake b = s.setWake b := rfl
@[simp] theorem State.setWake_self (s : State) : s.setWake s.wake = s := rfl
@[simp] theorem State.setWire_twice (s : State) (a b : Classifier) : (s.setWire a).setWire b = s.setWire b := rfl
@[simp] theorem State.setWire_self (s : State) : s.setWire s.wire = s := rfl
@[simp] theorem State.setHub_twice (s : State) (a b : Link) : (s.setHub a).setHub b = s.setHub b := rfl
@[simp] theorem State.setHub_self (s : State) : s.setHub s.hub = s := rfl
@[simp] theorem State.setBoard_twice (s : State) (a b : Link) : (s.setBoard a).setBoard b = s.setBoard b := rfl
@[simp] theorem State.setBoard_self (s : State) : s.setBoard s.board = s := rfl
@[simp] theorem State.setAgent_twice (s : State) (a b : Option Service) : (s.setAgent a).setAgent b = s.setAgent b := rfl
@[simp] theorem State.setAgent_self (s : State) : s.setAgent s.agent = s := rfl
@[simp] theorem State.setClock_twice (s : State) (a b : Clock) : (s.setClock a).setClock b = s.setClock b := rfl
@[simp] theorem State.setClock_self (s : State) : s.setClock s.clock = s := rfl
@[simp] theorem State.setLoader_twice (s : State) (a b : Loader) : (s.setLoader a).setLoader b = s.setLoader b := rfl
@[simp] theorem State.setLoader_self (s : State) : s.setLoader s.loader = s := rfl
@[simp] theorem State.setPins_twice (s : State) (a b : Pins) : (s.setPins a).setPins b = s.setPins b := rfl
@[simp] theorem State.setPins_self (s : State) : s.setPins s.pins = s := rfl
@[simp] theorem State.setBoundary_twice (s : State) (a b : Boundary) : (s.setBoundary a).setBoundary b = s.setBoundary b := rfl
@[simp] theorem State.setBoundary_self (s : State) : s.setBoundary s.boundary = s := rfl
@[simp] theorem State.setLrst_twice (s : State) (a b : Bool) : (s.setLrst a).setLrst b = s.setLrst b := rfl
@[simp] theorem State.setLrst_self (s : State) : s.setLrst s.lrst = s := rfl
@[simp] theorem State.setPowered_twice (s : State) (a b : Bool) : (s.setPowered a).setPowered b = s.setPowered b := rfl
@[simp] theorem State.setPowered_self (s : State) : s.setPowered s.powered = s := rfl
@[simp] theorem State.setUses_twice (s : State) (a b : Nat) : (s.setUses a).setUses b = s.setUses b := rfl
@[simp] theorem State.setUses_self (s : State) : s.setUses s.uses = s := rfl
@[simp] theorem State.setPending_twice (s : State) (a b : List Instr) : (s.setPending a).setPending b = s.setPending b := rfl
@[simp] theorem State.setPending_self (s : State) : s.setPending s.pending = s := rfl

end Sys2Proof.Machine
end

