-- ==== Sys2Proof/Laws/Tables.lean ====
section
/-! SUPPORT. Reading and writing one place of a table of fixed length, and saturating counts. -/

namespace Sys2Proof

/-- A place reads as it was written. -/
@[simp] theorem peek_poke_self {α : Type} {n : Nat} (v : Vector α n) (i : Fin n) (a : α) :
    peek (poke v i a) i = a := by simp [peek, poke]

/-- A write leaves every other place alone. -/
theorem peek_poke_ne {α : Type} {n : Nat} (v : Vector α n) {i j : Fin n} (a : α) (h : i ≠ j) :
    peek (poke v i a) j = peek v j := by
  have : i.val ≠ j.val := fun e => h (Fin.ext e)
  simp [peek, poke, Vector.getElem_set_ne, this]

/-- A place after a write, in one equation. -/
theorem peek_poke {α : Type} {n : Nat} (v : Vector α n) (i j : Fin n) (a : α) :
    peek (poke v i a) j = if i = j then a else peek v j := by
  by_cases h : i = j
  · subst h; simp
  · simp [h, peek_poke_ne]

/-- Every place of a constant table. -/
@[simp] theorem peek_replicate {α : Type} (n : Nat) (a : α) (i : Fin n) : peek (Vector.replicate n a) i = a := by
  simp [peek]

/-- Every place of a mapped table. -/
@[simp] theorem peek_map {α β : Type} {n : Nat} (f : α → β) (v : Vector α n) (i : Fin n) :
    peek (v.map f) i = f (peek v i) := by simp [peek]

/-- Every place of a table given by a function. -/
@[simp] theorem peek_ofFn {α : Type} {n : Nat} (f : Fin n → α) (i : Fin n) : peek (Vector.ofFn f) i = f i := by
  simp [peek]

/-- Two tables with the same places are the same. -/
theorem table_ext {α : Type} {n : Nat} {v w : Vector α n} (h : ∀ i, peek v i = peek w i) : v = w := by
  apply Vector.ext
  intro i hi
  exact h ⟨i, hi⟩

/-- A saturating count stays at or below its maximum. -/
theorem satInc_le (max n : Nat) : satInc max n ≤ max := by simp [satInc]

/-- Below its maximum a saturating count rises by one. -/
theorem satInc_of_lt {max n : Nat} (h : n < max) : satInc max n = n + 1 := by simp [satInc]; omega

/-- At its maximum a saturating count stays. -/
theorem satInc_at_max {max n : Nat} (h : max ≤ n) : satInc max n = max := by simp [satInc]; omega

end Sys2Proof
end

