-- ==== Sys2Proof/Laws/Chain.lean ====
section
/-! SUPPORT. The chain of one event when nothing is due, the outcome of a command, the rails of a scan
pass and a pass that owes nothing, the offer of a free slot, and an awaited rail. -/

namespace Sys2Proof.Machine

/-- With nothing due, no link of the chain runs. -/
theorem chainN_of_rest (n : Nat) {s : State} (h : s.eng.due = .nothing) : chainN n s = s := by
  cases n <;> simp [chainN, h]

/-- With nothing due, the chain is empty. -/
theorem runChain_of_rest {s : State} (h : s.eng.due = .nothing) : runChain s = s := chainN_of_rest _ h

/-- One link of the chain, while something is due. -/
theorem chainN_succ (n : Nat) {s : State} (h : s.eng.due ≠ .nothing) :
    chainN (n + 1) s = chainN n (chainStep s) := by simp [chainN, h]

/-- What a command that needs power gives: everything it can do. -/
theorem whilePowered_eq (s : State) (f : State → State) :
    whilePowered s f = .next (if s.powered then runChain (f s) else s) := by
  unfold whilePowered finish
  split <;> rfl

/-- A powered command. -/
theorem whilePowered_on {s : State} (f : State → State) (h : s.powered = true) :
    whilePowered s f = .next (runChain (f s)) := by simp [whilePowered_eq, h]

/-- A command without power. -/
theorem whilePowered_off {s : State} (f : State → State) (h : s.powered = false) :
    whilePowered s f = .next s := by simp [whilePowered_eq, h]

/-- A powered command that leaves nothing due answers exactly its effect. -/
theorem whilePowered_rest {s : State} {f : State → State} (h : s.powered = true) (hr : (f s).eng.due = .nothing) :
    whilePowered s f = .next (f s) := by rw [whilePowered_on f h, runChain_of_rest hr]

/-- A rail whose scan-pass event was taken at this boundary is left as it is. -/
theorem takeRail_of_taken {slot : Fin 16} {s : State} (h : peek s.boundary.rail slot = false) : takeRail slot s = s := by
  simp [takeRail, h]

/-- Rails whose scan-pass events were taken, with nothing due, leave the part as it is. -/
theorem takeRails_of_taken (slots : List (Fin 16)) {s : State} (h : ∀ n ∈ slots, peek s.boundary.rail n = false)
    (hr : s.eng.due = .nothing) : takeRails slots s = s := by
  induction slots with
  | nil => rfl
  | cons slot rest ih =>
    obtain ⟨h0, h⟩ := List.forall_mem_cons.1 h
    show takeRails rest (runChain (takeRail slot s)) = s
    rw [takeRail_of_taken h0, runChain_of_rest hr, ih h]

/-- The slots scanned where the pass began, by their field (R71). -/
@[simp] theorem mem_scannedSlots (s : State) (n : Fin 16) : n ∈ scannedSlots s ↔ peek s.boundary.scanned n = true := by
  simp [scannedSlots]

/-- Nothing is left of a pass that has not begun, or that has taken every rail scanned where it began (R71). -/
theorem finishPass_of_taken {s : State}
    (h : s.boundary.passBegun = true → ∀ n : Fin 16, peek s.boundary.scanned n = true → peek s.boundary.rail n = false)
    (hr : s.eng.due = .nothing) : finishPass s = s := by
  unfold finishPass
  split
  · exact takeRails_of_taken _ (fun n hn => h ‹_› n (by simpa using hn)) hr
  · rfl

/-- A pass that has begun keeps its rails. -/
theorem beginPass_of_begun {s : State} (h : s.boundary.passBegun = true) : beginPass s = s := by simp [beginPass, h]

/-- The beginning of a pass takes no rail's event. -/
@[simp] theorem beginPass_rail (s : State) : (beginPass s).boundary.rail = s.boundary.rail := by
  unfold beginPass
  split <;> rfl

/-- The rails that a pass samples in every order: those scanned where it began, at this row where none came before it
(R71). -/
theorem beginPass_scanned (s : State) (n : Fin 16) :
    peek (beginPass s).boundary.scanned n =
      if s.boundary.passBegun then peek s.boundary.scanned n else isScanned s n := by
  unfold beginPass
  by_cases h : s.boundary.passBegun = true <;> simp [h, peek, State.setBoundary]

/-- A row that finds a pass begun leaves everything but the boundary as it is, and so does the one that begins it. -/
theorem beginPass_eq (s : State) : beginPass s = s.setBoundary (beginPass s).boundary := by
  unfold beginPass
  split <;> rfl

/-- A pass has begun with its first row. -/
@[simp] theorem beginPass_begun (s : State) : (beginPass s).boundary.passBegun = true := by
  unfold beginPass
  by_cases h : s.boundary.passBegun = true <;> simp [h, State.setBoundary]

/-- With no slot kept, the oldest waiting frame of a port takes a free slot, whatever it is (R146). -/
theorem canTakeOldest_of_none {s : State} (h : s.wire.kept = none) (p : Port) :
    canTakeOldest s p = (slotFree s p && decide ((link s p).waiting ≠ [])) := by
  simp [canTakeOldest, drainBehindKept, h]

/-- What a completion row can do with an awaited rail: hand a verdict on, take the rail's event, or nothing. -/
theorem awaitRail_cases (ends : Verdict → Bool) (ended : State → Bool) (slot : Fin 16) (s : State) :
    (ends (verdictOf s slot) = true ∧ awaitRail ends ended slot s = handOnVerdict slot (verdictOf s slot) s) ∨
      (ends (verdictOf s slot) = false ∧ ended (railEvent slot s) = true ∧
        awaitRail ends ended slot s = railEvent slot s) ∨
      (ends (verdictOf s slot) = false ∧ ended (railEvent slot s) = false ∧ awaitRail ends ended slot s = s) := by
  unfold awaitRail
  by_cases h : ends (verdictOf s slot) = true
  · exact .inl ⟨h, by simp [h]⟩
  · by_cases g : ended (railEvent slot s) = true
    · exact .inr (.inl ⟨by simpa using h, g, by simp [h, g]⟩)
    · exact .inr (.inr ⟨by simpa using h, by simpa using g, by simp [h, g]⟩)

end Sys2Proof.Machine
end

