-- ==== Sys2Proof/Laws/Frames.lean ====
section
/-! SUPPORT. The frame of each shared operation: the fields of the state it leaves as they were. -/

namespace Sys2Proof.Machine

/-- A fold keeps what each of its steps keeps. -/
theorem foldl_keeps {α β : Type} (g : State → β) (f : State → α → State) (h : ∀ s a, g (f s a) = g s) (l : List α)
    (s : State) : g (l.foldl f s) = g s := by
  induction l generalizing s with
  | nil => rfl
  | cons a l ih => simp [ih, h]

/-- What `setLink` leaves. -/
@[simp] theorem setLink_frame (p : Port) (l : Link) (s : State) :
    (setLink s p l).psc = s.psc ∧ (setLink s p l).eng = s.eng ∧ (setLink s p l).rails = s.rails ∧
    (setLink s p l).fault = s.fault ∧ (setLink s p l).wake = s.wake ∧ (setLink s p l).wire = s.wire ∧
    (setLink s p l).agent = s.agent ∧ (setLink s p l).clock = s.clock ∧
    (setLink s p l).loader = s.loader ∧ (setLink s p l).pins = s.pins ∧
    (setLink s p l).boundary = s.boundary ∧ (setLink s p l).lrst = s.lrst ∧
    (setLink s p l).powered = s.powered ∧ (setLink s p l).uses = s.uses ∧
    (setLink s p l).pending = s.pending := by
  cases p <;> simp [setLink]

/-- What `countPort` leaves. -/
@[simp] theorem countPort_frame (p : Port) (f : PortCounters → PortCounters) (s : State) :
    (countPort p f s).psc = s.psc ∧ (countPort p f s).eng = s.eng ∧ (countPort p f s).rails = s.rails ∧
    (countPort p f s).fault = s.fault ∧ (countPort p f s).wake = s.wake ∧
    (countPort p f s).wire = s.wire ∧ (countPort p f s).agent = s.agent ∧
    (countPort p f s).clock = s.clock ∧ (countPort p f s).loader = s.loader ∧
    (countPort p f s).pins = s.pins ∧ (countPort p f s).boundary = s.boundary ∧
    (countPort p f s).lrst = s.lrst ∧ (countPort p f s).powered = s.powered ∧
    (countPort p f s).uses = s.uses ∧ (countPort p f s).pending = s.pending := by
  simp [countPort]

/-- What `queueTx` leaves. -/
@[simp] theorem queueTx_frame (p : Port) (f : Frame) (s : State) :
    (queueTx p f s).psc = s.psc ∧ (queueTx p f s).eng = s.eng ∧ (queueTx p f s).rails = s.rails ∧
    (queueTx p f s).fault = s.fault ∧ (queueTx p f s).wake = s.wake ∧ (queueTx p f s).wire = s.wire ∧
    (queueTx p f s).agent = s.agent ∧ (queueTx p f s).clock = s.clock ∧
    (queueTx p f s).loader = s.loader ∧ (queueTx p f s).pins = s.pins ∧
    (queueTx p f s).boundary = s.boundary ∧ (queueTx p f s).lrst = s.lrst ∧
    (queueTx p f s).powered = s.powered ∧ (queueTx p f s).uses = s.uses ∧
    (queueTx p f s).pending = s.pending := by
  simp [queueTx]

/-- What `joinWaiting` leaves. -/
@[simp] theorem joinWaiting_frame (p : Port) (f : Internal) (s : State) :
    (joinWaiting p f s).psc = s.psc ∧ (joinWaiting p f s).eng = s.eng ∧
    (joinWaiting p f s).rails = s.rails ∧ (joinWaiting p f s).fault = s.fault ∧
    (joinWaiting p f s).wake = s.wake ∧ (joinWaiting p f s).wire = s.wire ∧
    (joinWaiting p f s).agent = s.agent ∧ (joinWaiting p f s).clock = s.clock ∧
    (joinWaiting p f s).loader = s.loader ∧ (joinWaiting p f s).pins = s.pins ∧
    (joinWaiting p f s).boundary = s.boundary ∧ (joinWaiting p f s).lrst = s.lrst ∧
    (joinWaiting p f s).powered = s.powered ∧ (joinWaiting p f s).uses = s.uses ∧
    (joinWaiting p f s).pending = s.pending := by
  unfold joinWaiting
  (repeat' split) <;> simp

/-- What `dropWaiting` leaves. -/
@[simp] theorem dropWaiting_frame (p : Port) (s : State) :
    (dropWaiting p s).psc = s.psc ∧ (dropWaiting p s).eng = s.eng ∧ (dropWaiting p s).rails = s.rails ∧
    (dropWaiting p s).fault = s.fault ∧ (dropWaiting p s).wake = s.wake ∧
    (dropWaiting p s).wire = s.wire ∧ (dropWaiting p s).agent = s.agent ∧
    (dropWaiting p s).clock = s.clock ∧ (dropWaiting p s).loader = s.loader ∧
    (dropWaiting p s).pins = s.pins ∧ (dropWaiting p s).boundary = s.boundary ∧
    (dropWaiting p s).lrst = s.lrst ∧ (dropWaiting p s).powered = s.powered ∧
    (dropWaiting p s).uses = s.uses ∧ (dropWaiting p s).pending = s.pending := by
  simp [dropWaiting]

/-- What `withdrawSendWire` leaves. -/
@[simp] theorem withdrawSendWire_frame (s : State) :
    (withdrawSendWire s).psc = s.psc ∧ (withdrawSendWire s).eng = s.eng ∧
    (withdrawSendWire s).rails = s.rails ∧ (withdrawSendWire s).fault = s.fault ∧
    (withdrawSendWire s).wake = s.wake ∧ (withdrawSendWire s).wire = s.wire ∧
    (withdrawSendWire s).agent = s.agent ∧ (withdrawSendWire s).clock = s.clock ∧
    (withdrawSendWire s).loader = s.loader ∧ (withdrawSendWire s).pins = s.pins ∧
    (withdrawSendWire s).boundary = s.boundary ∧ (withdrawSendWire s).lrst = s.lrst ∧
    (withdrawSendWire s).powered = s.powered ∧ (withdrawSendWire s).uses = s.uses ∧
    (withdrawSendWire s).pending = s.pending := by
  simp [withdrawSendWire]

/-- What `endRunWith` leaves. -/
@[simp] theorem endRunWith_frame (e : RunEnd) (s : State) :
    (endRunWith e s).psc = s.psc ∧ (endRunWith e s).rails = s.rails ∧ (endRunWith e s).fault = s.fault ∧
    (endRunWith e s).wake = s.wake ∧ (endRunWith e s).wire = s.wire ∧ (endRunWith e s).hub = s.hub ∧
    (endRunWith e s).board = s.board ∧ (endRunWith e s).agent = s.agent ∧
    (endRunWith e s).clock = s.clock ∧ (endRunWith e s).loader = s.loader ∧
    (endRunWith e s).pins = s.pins ∧ (endRunWith e s).boundary = s.boundary ∧
    (endRunWith e s).lrst = s.lrst ∧ (endRunWith e s).powered = s.powered ∧
    (endRunWith e s).uses = s.uses ∧ (endRunWith e s).pending = s.pending := by
  simp [endRunWith]

/-- What `handOn` leaves. -/
@[simp] theorem handOn_frame (k : StepKind) (e : RunEnd) (s : State) :
    (handOn k e s).psc = s.psc ∧ (handOn k e s).rails = s.rails ∧ (handOn k e s).fault = s.fault ∧
    (handOn k e s).wake = s.wake ∧ (handOn k e s).wire = s.wire ∧ (handOn k e s).hub = s.hub ∧
    (handOn k e s).board = s.board ∧ (handOn k e s).agent = s.agent ∧ (handOn k e s).clock = s.clock ∧
    (handOn k e s).loader = s.loader ∧ (handOn k e s).pins = s.pins ∧
    (handOn k e s).boundary = s.boundary ∧ (handOn k e s).lrst = s.lrst ∧
    (handOn k e s).powered = s.powered ∧ (handOn k e s).uses = s.uses ∧
    (handOn k e s).pending = s.pending := by
  unfold handOn
  (repeat' split) <;> simp

/-- What `handOnDrained` leaves. -/
@[simp] theorem handOnDrained_frame (s : State) :
    (handOnDrained s).psc = s.psc ∧ (handOnDrained s).rails = s.rails ∧
    (handOnDrained s).fault = s.fault ∧ (handOnDrained s).wake = s.wake ∧
    (handOnDrained s).wire = s.wire ∧ (handOnDrained s).hub = s.hub ∧ (handOnDrained s).board = s.board ∧
    (handOnDrained s).agent = s.agent ∧ (handOnDrained s).clock = s.clock ∧
    (handOnDrained s).loader = s.loader ∧ (handOnDrained s).pins = s.pins ∧
    (handOnDrained s).boundary = s.boundary ∧ (handOnDrained s).lrst = s.lrst ∧
    (handOnDrained s).powered = s.powered ∧ (handOnDrained s).uses = s.uses ∧
    (handOnDrained s).pending = s.pending := by
  unfold handOnDrained
  (repeat' split) <;> simp

/-- What `setLevel` leaves. -/
@[simp] theorem setLevel_frame (w : Fin 64) (b : Bool) (s : State) :
    (setLevel w b s).psc = s.psc ∧ (setLevel w b s).eng = s.eng ∧ (setLevel w b s).rails = s.rails ∧
    (setLevel w b s).fault = s.fault ∧ (setLevel w b s).wake = s.wake ∧ (setLevel w b s).hub = s.hub ∧
    (setLevel w b s).board = s.board ∧ (setLevel w b s).agent = s.agent ∧
    (setLevel w b s).clock = s.clock ∧ (setLevel w b s).loader = s.loader ∧
    (setLevel w b s).pins = s.pins ∧ (setLevel w b s).boundary = s.boundary ∧
    (setLevel w b s).lrst = s.lrst ∧ (setLevel w b s).powered = s.powered ∧
    (setLevel w b s).uses = s.uses ∧ (setLevel w b s).pending = s.pending := by
  simp [setLevel]

/-- What `ensureDrain` leaves. -/
@[simp] theorem ensureDrain_frame (s : State) :
    (ensureDrain s).psc = s.psc ∧ (ensureDrain s).eng = s.eng ∧ (ensureDrain s).rails = s.rails ∧
    (ensureDrain s).fault = s.fault ∧ (ensureDrain s).wake = s.wake ∧ (ensureDrain s).wire = s.wire ∧
    (ensureDrain s).agent = s.agent ∧ (ensureDrain s).clock = s.clock ∧
    (ensureDrain s).loader = s.loader ∧ (ensureDrain s).pins = s.pins ∧
    (ensureDrain s).boundary = s.boundary ∧ (ensureDrain s).lrst = s.lrst ∧
    (ensureDrain s).powered = s.powered ∧ (ensureDrain s).uses = s.uses ∧
    (ensureDrain s).pending = s.pending := by
  unfold ensureDrain
  (repeat' split) <;> simp

/-- What `takeDrain` leaves. -/
@[simp] theorem takeDrain_frame (p : Port) (s : State) :
    (takeDrain p s).psc = s.psc ∧ (takeDrain p s).rails = s.rails ∧ (takeDrain p s).fault = s.fault ∧
    (takeDrain p s).wake = s.wake ∧ (takeDrain p s).agent = s.agent ∧ (takeDrain p s).clock = s.clock ∧
    (takeDrain p s).loader = s.loader ∧ (takeDrain p s).pins = s.pins ∧
    (takeDrain p s).boundary = s.boundary ∧ (takeDrain p s).lrst = s.lrst ∧
    (takeDrain p s).powered = s.powered ∧ (takeDrain p s).uses = s.uses ∧
    (takeDrain p s).pending = s.pending := by
  by_cases h : drainEntries s = [] <;> simp [takeDrain, h]

/-- What `takeOldest` leaves. -/
@[simp] theorem takeOldest_frame (p : Port) (s : State) :
    (takeOldest p s).psc = s.psc ∧ (takeOldest p s).rails = s.rails ∧ (takeOldest p s).fault = s.fault ∧
    (takeOldest p s).wake = s.wake ∧ (takeOldest p s).agent = s.agent ∧ (takeOldest p s).clock = s.clock ∧
    (takeOldest p s).loader = s.loader ∧ (takeOldest p s).pins = s.pins ∧
    (takeOldest p s).boundary = s.boundary ∧ (takeOldest p s).lrst = s.lrst ∧
    (takeOldest p s).powered = s.powered ∧ (takeOldest p s).uses = s.uses ∧
    (takeOldest p s).pending = s.pending := by
  unfold takeOldest
  (repeat' split) <;> simp

/-- What `pumpN` leaves. -/
@[simp] theorem pumpN_frame (n : Nat) (s : State) :
    (pumpN n s).psc = s.psc ∧ (pumpN n s).rails = s.rails ∧ (pumpN n s).fault = s.fault ∧
    (pumpN n s).wake = s.wake ∧ (pumpN n s).agent = s.agent ∧ (pumpN n s).clock = s.clock ∧
    (pumpN n s).loader = s.loader ∧ (pumpN n s).pins = s.pins ∧ (pumpN n s).boundary = s.boundary ∧
    (pumpN n s).lrst = s.lrst ∧ (pumpN n s).powered = s.powered ∧ (pumpN n s).uses = s.uses ∧
    (pumpN n s).pending = s.pending := by
  induction n generalizing s with
  | zero => simp [pumpN]
  | succ n ih => (simp only [pumpN]; repeat' split) <;> simp [ih]

/-- What `pump` leaves. -/
@[simp] theorem pump_frame (s : State) :
    (pump s).psc = s.psc ∧ (pump s).rails = s.rails ∧ (pump s).fault = s.fault ∧ (pump s).wake = s.wake ∧
    (pump s).agent = s.agent ∧ (pump s).clock = s.clock ∧ (pump s).loader = s.loader ∧
    (pump s).pins = s.pins ∧ (pump s).boundary = s.boundary ∧ (pump s).lrst = s.lrst ∧
    (pump s).powered = s.powered ∧ (pump s).uses = s.uses ∧ (pump s).pending = s.pending := by
  simp [pump]

/-- What `createInternal` leaves. -/
@[simp] theorem createInternal_frame (p : Port) (f : Internal) (s : State) :
    (createInternal p f s).psc = s.psc ∧ (createInternal p f s).rails = s.rails ∧
    (createInternal p f s).fault = s.fault ∧ (createInternal p f s).wake = s.wake ∧
    (createInternal p f s).agent = s.agent ∧ (createInternal p f s).clock = s.clock ∧
    (createInternal p f s).loader = s.loader ∧ (createInternal p f s).pins = s.pins ∧
    (createInternal p f s).boundary = s.boundary ∧ (createInternal p f s).lrst = s.lrst ∧
    (createInternal p f s).powered = s.powered ∧ (createInternal p f s).uses = s.uses ∧
    (createInternal p f s).pending = s.pending := by
  simp [createInternal]

/-- What `liftHold` leaves. -/
@[simp] theorem liftHold_frame (s : State) :
    (liftHold s).psc = s.psc ∧ (liftHold s).rails = s.rails ∧ (liftHold s).fault = s.fault ∧
    (liftHold s).wake = s.wake ∧ (liftHold s).agent = s.agent ∧ (liftHold s).clock = s.clock ∧
    (liftHold s).loader = s.loader ∧ (liftHold s).pins = s.pins ∧ (liftHold s).boundary = s.boundary ∧
    (liftHold s).lrst = s.lrst ∧ (liftHold s).powered = s.powered ∧ (liftHold s).uses = s.uses ∧
    (liftHold s).pending = s.pending := by
  unfold liftHold
  (repeat' split) <;> simp

/-- What `sendOffNotice` leaves. -/
@[simp] theorem sendOffNotice_frame (b : Bool) (s : State) :
    (sendOffNotice b s).psc = s.psc ∧ (sendOffNotice b s).rails = s.rails ∧
    (sendOffNotice b s).fault = s.fault ∧ (sendOffNotice b s).wake = s.wake ∧
    (sendOffNotice b s).agent = s.agent ∧ (sendOffNotice b s).clock = s.clock ∧
    (sendOffNotice b s).loader = s.loader ∧ (sendOffNotice b s).pins = s.pins ∧
    (sendOffNotice b s).boundary = s.boundary ∧ (sendOffNotice b s).lrst = s.lrst ∧
    (sendOffNotice b s).powered = s.powered ∧ (sendOffNotice b s).uses = s.uses ∧
    (sendOffNotice b s).pending = s.pending := by
  by_cases h : s.psc.policy0.offNotice.present <;> simp [sendOffNotice, h]

/-- What `createNotice` leaves. -/
@[simp] theorem createNotice_frame (src : Fin 14) (s : State) :
    (createNotice src s).psc = s.psc ∧ (createNotice src s).rails = s.rails ∧
    (createNotice src s).fault = s.fault ∧ (createNotice src s).wake = s.wake ∧
    (createNotice src s).agent = s.agent ∧ (createNotice src s).clock = s.clock ∧
    (createNotice src s).loader = s.loader ∧ (createNotice src s).pins = s.pins ∧
    (createNotice src s).boundary = s.boundary ∧ (createNotice src s).lrst = s.lrst ∧
    (createNotice src s).powered = s.powered ∧ (createNotice src s).uses = s.uses ∧
    (createNotice src s).pending = s.pending := by
  unfold createNotice
  (repeat' split) <;> simp

/-- What `takeFire` leaves. -/
@[simp] theorem takeFire_frame (src : Fin 14) (s : State) :
    (takeFire src s).psc = s.psc ∧ (takeFire src s).rails = s.rails ∧ (takeFire src s).fault = s.fault ∧
    (takeFire src s).agent = s.agent ∧ (takeFire src s).clock = s.clock ∧
    (takeFire src s).loader = s.loader ∧ (takeFire src s).pins = s.pins ∧
    (takeFire src s).boundary = s.boundary ∧ (takeFire src s).lrst = s.lrst ∧
    (takeFire src s).powered = s.powered ∧ (takeFire src s).uses = s.uses ∧
    (takeFire src s).pending = s.pending := by
  unfold takeFire
  (repeat' split) <;> simp

/-- What `fire` leaves. -/
@[simp] theorem fire_frame (src : Fin 14) (s : State) :
    (fire src s).psc = s.psc ∧ (fire src s).rails = s.rails ∧ (fire src s).fault = s.fault ∧
    (fire src s).agent = s.agent ∧ (fire src s).clock = s.clock ∧ (fire src s).loader = s.loader ∧
    (fire src s).pins = s.pins ∧ (fire src s).boundary = s.boundary ∧ (fire src s).lrst = s.lrst ∧
    (fire src s).powered = s.powered ∧ (fire src s).uses = s.uses ∧ (fire src s).pending = s.pending := by
  unfold fire
  (repeat' split) <;> simp

/-- What `armingFire` leaves. -/
@[simp] theorem armingFire_frame (a b : Level) (s : State) (n : Fin 9) :
    (armingFire a b s n).psc = s.psc ∧ (armingFire a b s n).rails = s.rails ∧
    (armingFire a b s n).fault = s.fault ∧ (armingFire a b s n).agent = s.agent ∧
    (armingFire a b s n).clock = s.clock ∧ (armingFire a b s n).loader = s.loader ∧
    (armingFire a b s n).pins = s.pins ∧ (armingFire a b s n).boundary = s.boundary ∧
    (armingFire a b s n).lrst = s.lrst ∧ (armingFire a b s n).powered = s.powered ∧
    (armingFire a b s n).uses = s.uses ∧ (armingFire a b s n).pending = s.pending := by
  dsimp only [armingFire]
  split <;> simp

/-- What `setArmed` leaves. -/
@[simp] theorem setArmed_frame (l : Level) (s : State) :
    (setArmed l s).psc = s.psc ∧ (setArmed l s).rails = s.rails ∧ (setArmed l s).fault = s.fault ∧
    (setArmed l s).agent = s.agent ∧ (setArmed l s).clock = s.clock ∧ (setArmed l s).loader = s.loader ∧
    (setArmed l s).pins = s.pins ∧ (setArmed l s).boundary = s.boundary ∧ (setArmed l s).lrst = s.lrst ∧
    (setArmed l s).powered = s.powered ∧ (setArmed l s).uses = s.uses ∧
    (setArmed l s).pending = s.pending := by
  refine ⟨?_, ?_, ?_, ?_, ?_, ?_, ?_, ?_, ?_, ?_, ?_, ?_⟩ <;> rw [setArmed]
  · rw [foldl_keeps (fun s => s.psc)] <;> simp
  · rw [foldl_keeps (fun s => s.rails)] <;> simp
  · rw [foldl_keeps (fun s => s.fault)] <;> simp
  · rw [foldl_keeps (fun s => s.agent)] <;> simp
  · rw [foldl_keeps (fun s => s.clock)] <;> simp
  · rw [foldl_keeps (fun s => s.loader)] <;> simp
  · rw [foldl_keeps (fun s => s.pins)] <;> simp
  · rw [foldl_keeps (fun s => s.boundary)] <;> simp
  · rw [foldl_keeps (fun s => s.lrst)] <;> simp
  · rw [foldl_keeps (fun s => s.powered)] <;> simp
  · rw [foldl_keeps (fun s => s.uses)] <;> simp
  · rw [foldl_keeps (fun s => s.pending)] <;> simp

/-- What `forceFast` leaves. -/
@[simp] theorem forceFast_frame (s : State) :
    (forceFast s).psc = s.psc ∧ (forceFast s).eng = s.eng ∧ (forceFast s).rails = s.rails ∧
    (forceFast s).fault = s.fault ∧ (forceFast s).wake = s.wake ∧ (forceFast s).wire = s.wire ∧
    (forceFast s).hub = s.hub ∧ (forceFast s).board = s.board ∧ (forceFast s).agent = s.agent ∧
    (forceFast s).loader = s.loader ∧ (forceFast s).pins = s.pins ∧ (forceFast s).boundary = s.boundary ∧
    (forceFast s).lrst = s.lrst ∧ (forceFast s).powered = s.powered ∧ (forceFast s).uses = s.uses ∧
    (forceFast s).pending = s.pending := by
  unfold forceFast
  (repeat' split) <;> simp

/-- What `handOnFastLoop` leaves. -/
@[simp] theorem handOnFastLoop_frame (s : State) :
    (handOnFastLoop s).psc = s.psc ∧ (handOnFastLoop s).rails = s.rails ∧
    (handOnFastLoop s).fault = s.fault ∧ (handOnFastLoop s).wake = s.wake ∧
    (handOnFastLoop s).wire = s.wire ∧ (handOnFastLoop s).hub = s.hub ∧
    (handOnFastLoop s).board = s.board ∧ (handOnFastLoop s).agent = s.agent ∧
    (handOnFastLoop s).clock = s.clock ∧ (handOnFastLoop s).loader = s.loader ∧
    (handOnFastLoop s).pins = s.pins ∧ (handOnFastLoop s).boundary = s.boundary ∧
    (handOnFastLoop s).lrst = s.lrst ∧ (handOnFastLoop s).powered = s.powered ∧
    (handOnFastLoop s).uses = s.uses ∧ (handOnFastLoop s).pending = s.pending := by
  unfold handOnFastLoop
  (repeat' split) <;> simp

/-- What `setLocked` leaves. -/
@[simp] theorem setLocked_frame (s : State) :
    (setLocked s).psc = s.psc ∧ (setLocked s).rails = s.rails ∧ (setLocked s).fault = s.fault ∧
    (setLocked s).wake = s.wake ∧ (setLocked s).wire = s.wire ∧ (setLocked s).hub = s.hub ∧
    (setLocked s).board = s.board ∧ (setLocked s).agent = s.agent ∧ (setLocked s).loader = s.loader ∧
    (setLocked s).pins = s.pins ∧ (setLocked s).boundary = s.boundary ∧ (setLocked s).lrst = s.lrst ∧
    (setLocked s).powered = s.powered ∧ (setLocked s).uses = s.uses ∧
    (setLocked s).pending = s.pending := by
  unfold setLocked
  (repeat' split) <;> simp

/-- What `clockDown` leaves. -/
@[simp] theorem clockDown_frame (s : State) :
    (clockDown s).psc = s.psc ∧ (clockDown s).eng = s.eng ∧ (clockDown s).rails = s.rails ∧
    (clockDown s).fault = s.fault ∧ (clockDown s).wake = s.wake ∧ (clockDown s).wire = s.wire ∧
    (clockDown s).hub = s.hub ∧ (clockDown s).board = s.board ∧ (clockDown s).agent = s.agent ∧
    (clockDown s).loader = s.loader ∧ (clockDown s).pins = s.pins ∧ (clockDown s).boundary = s.boundary ∧
    (clockDown s).lrst = s.lrst ∧ (clockDown s).powered = s.powered ∧ (clockDown s).uses = s.uses ∧
    (clockDown s).pending = s.pending := by
  unfold clockDown
  (repeat' split) <;> simp

/-- What `onReport` leaves. -/
@[simp] theorem onReport_frame (f : Report → Report) (s : State) :
    (onReport f s).psc = s.psc ∧ (onReport f s).rails = s.rails ∧ (onReport f s).fault = s.fault ∧
    (onReport f s).wake = s.wake ∧ (onReport f s).wire = s.wire ∧ (onReport f s).hub = s.hub ∧
    (onReport f s).board = s.board ∧ (onReport f s).agent = s.agent ∧ (onReport f s).clock = s.clock ∧
    (onReport f s).loader = s.loader ∧ (onReport f s).pins = s.pins ∧
    (onReport f s).boundary = s.boundary ∧ (onReport f s).lrst = s.lrst ∧
    (onReport f s).powered = s.powered ∧ (onReport f s).uses = s.uses ∧
    (onReport f s).pending = s.pending := by
  simp [onReport]

/-- What `openReport` leaves. -/
@[simp] theorem openReport_frame (o : Origin) (a b : Level) (s : State) :
    (openReport o a b s).psc = s.psc ∧ (openReport o a b s).rails = s.rails ∧
    (openReport o a b s).fault = s.fault ∧ (openReport o a b s).wake = s.wake ∧
    (openReport o a b s).wire = s.wire ∧ (openReport o a b s).hub = s.hub ∧
    (openReport o a b s).board = s.board ∧ (openReport o a b s).agent = s.agent ∧
    (openReport o a b s).clock = s.clock ∧ (openReport o a b s).loader = s.loader ∧
    (openReport o a b s).pins = s.pins ∧ (openReport o a b s).boundary = s.boundary ∧
    (openReport o a b s).lrst = s.lrst ∧ (openReport o a b s).powered = s.powered ∧
    (openReport o a b s).uses = s.uses ∧ (openReport o a b s).pending = s.pending := by
  simp [openReport]

/-- What `closeReport` leaves. -/
@[simp] theorem closeReport_frame (o : ReportOutcome) (s : State) :
    (closeReport o s).psc = s.psc ∧ (closeReport o s).rails = s.rails ∧
    (closeReport o s).fault = s.fault ∧ (closeReport o s).wake = s.wake ∧
    (closeReport o s).wire = s.wire ∧ (closeReport o s).hub = s.hub ∧ (closeReport o s).board = s.board ∧
    (closeReport o s).agent = s.agent ∧ (closeReport o s).clock = s.clock ∧
    (closeReport o s).loader = s.loader ∧ (closeReport o s).pins = s.pins ∧
    (closeReport o s).boundary = s.boundary ∧ (closeReport o s).lrst = s.lrst ∧
    (closeReport o s).powered = s.powered ∧ (closeReport o s).uses = s.uses ∧
    (closeReport o s).pending = s.pending := by
  simp [closeReport]

/-- What `setStat` leaves. -/
@[simp] theorem setStat_frame (slot : Fin 16) (x : RailStat) (s : State) :
    (setStat slot x s).psc = s.psc ∧ (setStat slot x s).eng = s.eng ∧ (setStat slot x s).fault = s.fault ∧
    (setStat slot x s).wake = s.wake ∧ (setStat slot x s).wire = s.wire ∧ (setStat slot x s).hub = s.hub ∧
    (setStat slot x s).board = s.board ∧ (setStat slot x s).agent = s.agent ∧
    (setStat slot x s).clock = s.clock ∧ (setStat slot x s).loader = s.loader ∧
    (setStat slot x s).pins = s.pins ∧ (setStat slot x s).boundary = s.boundary ∧
    (setStat slot x s).lrst = s.lrst ∧ (setStat slot x s).powered = s.powered ∧
    (setStat slot x s).uses = s.uses ∧ (setStat slot x s).pending = s.pending := by
  simp [setStat]

/-- What `writeGoodTime` leaves. -/
@[simp] theorem writeGoodTime_frame (slot : Fin 16) (s : State) :
    (writeGoodTime slot s).psc = s.psc ∧ (writeGoodTime slot s).rails = s.rails ∧
    (writeGoodTime slot s).fault = s.fault ∧ (writeGoodTime slot s).wake = s.wake ∧
    (writeGoodTime slot s).wire = s.wire ∧ (writeGoodTime slot s).hub = s.hub ∧
    (writeGoodTime slot s).board = s.board ∧ (writeGoodTime slot s).agent = s.agent ∧
    (writeGoodTime slot s).clock = s.clock ∧ (writeGoodTime slot s).loader = s.loader ∧
    (writeGoodTime slot s).pins = s.pins ∧ (writeGoodTime slot s).boundary = s.boundary ∧
    (writeGoodTime slot s).lrst = s.lrst ∧ (writeGoodTime slot s).powered = s.powered ∧
    (writeGoodTime slot s).uses = s.uses ∧ (writeGoodTime slot s).pending = s.pending := by
  unfold writeGoodTime
  (repeat' split) <;> simp

/-- What `handOnVerdict` leaves. -/
@[simp] theorem handOnVerdict_frame (slot : Fin 16) (v : Verdict) (s : State) :
    (handOnVerdict slot v s).psc = s.psc ∧ (handOnVerdict slot v s).rails = s.rails ∧
    (handOnVerdict slot v s).fault = s.fault ∧ (handOnVerdict slot v s).wake = s.wake ∧
    (handOnVerdict slot v s).wire = s.wire ∧ (handOnVerdict slot v s).hub = s.hub ∧
    (handOnVerdict slot v s).board = s.board ∧ (handOnVerdict slot v s).agent = s.agent ∧
    (handOnVerdict slot v s).clock = s.clock ∧ (handOnVerdict slot v s).loader = s.loader ∧
    (handOnVerdict slot v s).pins = s.pins ∧ (handOnVerdict slot v s).boundary = s.boundary ∧
    (handOnVerdict slot v s).lrst = s.lrst ∧ (handOnVerdict slot v s).powered = s.powered ∧
    (handOnVerdict slot v s).uses = s.uses ∧ (handOnVerdict slot v s).pending = s.pending := by
  unfold handOnVerdict
  (repeat' split) <;> simp

/-- What `moveVerdict` leaves. -/
@[simp] theorem moveVerdict_frame (slot : Fin 16) (v : Verdict) (s : State) :
    (moveVerdict slot v s).psc = s.psc ∧ (moveVerdict slot v s).fault = s.fault ∧
    (moveVerdict slot v s).wake = s.wake ∧ (moveVerdict slot v s).wire = s.wire ∧
    (moveVerdict slot v s).hub = s.hub ∧ (moveVerdict slot v s).board = s.board ∧
    (moveVerdict slot v s).agent = s.agent ∧ (moveVerdict slot v s).clock = s.clock ∧
    (moveVerdict slot v s).loader = s.loader ∧ (moveVerdict slot v s).pins = s.pins ∧
    (moveVerdict slot v s).boundary = s.boundary ∧ (moveVerdict slot v s).lrst = s.lrst ∧
    (moveVerdict slot v s).powered = s.powered ∧ (moveVerdict slot v s).uses = s.uses ∧
    (moveVerdict slot v s).pending = s.pending := by
  unfold moveVerdict
  (repeat' split) <;> simp

/-- What `setEn` leaves. -/
@[simp] theorem setEn_frame (slot : Fin 16) (e : EnLevel) (s : State) :
    (setEn slot e s).psc = s.psc ∧ (setEn slot e s).eng = s.eng ∧ (setEn slot e s).fault = s.fault ∧
    (setEn slot e s).wake = s.wake ∧ (setEn slot e s).wire = s.wire ∧ (setEn slot e s).hub = s.hub ∧
    (setEn slot e s).board = s.board ∧ (setEn slot e s).agent = s.agent ∧
    (setEn slot e s).clock = s.clock ∧ (setEn slot e s).loader = s.loader ∧
    (setEn slot e s).pins = s.pins ∧ (setEn slot e s).boundary = s.boundary ∧
    (setEn slot e s).lrst = s.lrst ∧ (setEn slot e s).powered = s.powered ∧
    (setEn slot e s).uses = s.uses ∧ (setEn slot e s).pending = s.pending := by
  simp [setEn]

/-- What `railOn` leaves. -/
@[simp] theorem railOn_frame (slot : Fin 16) (s : State) :
    (railOn slot s).psc = s.psc ∧ (railOn slot s).fault = s.fault ∧ (railOn slot s).wake = s.wake ∧
    (railOn slot s).wire = s.wire ∧ (railOn slot s).hub = s.hub ∧ (railOn slot s).board = s.board ∧
    (railOn slot s).agent = s.agent ∧ (railOn slot s).clock = s.clock ∧
    (railOn slot s).loader = s.loader ∧ (railOn slot s).pins = s.pins ∧
    (railOn slot s).boundary = s.boundary ∧ (railOn slot s).lrst = s.lrst ∧
    (railOn slot s).powered = s.powered ∧ (railOn slot s).uses = s.uses ∧
    (railOn slot s).pending = s.pending := by
  cases hv : (peek s.rails.stat slot).verdict <;> simp [railOn, hv] <;> split <;> (try split) <;> simp

/-- What `railOff` leaves. -/
@[simp] theorem railOff_frame (slot : Fin 16) (s : State) :
    (railOff slot s).psc = s.psc ∧ (railOff slot s).fault = s.fault ∧ (railOff slot s).wake = s.wake ∧
    (railOff slot s).wire = s.wire ∧ (railOff slot s).hub = s.hub ∧ (railOff slot s).board = s.board ∧
    (railOff slot s).agent = s.agent ∧ (railOff slot s).clock = s.clock ∧
    (railOff slot s).loader = s.loader ∧ (railOff slot s).pins = s.pins ∧
    (railOff slot s).boundary = s.boundary ∧ (railOff slot s).lrst = s.lrst ∧
    (railOff slot s).powered = s.powered ∧ (railOff slot s).uses = s.uses ∧
    (railOff slot s).pending = s.pending := by
  cases hv : (peek s.rails.stat slot).verdict <;> simp [railOff, hv] <;> split <;> (try split) <;> simp

/-- What `shutdownRails` leaves. -/
@[simp] theorem shutdownRails_frame (s : State) :
    (shutdownRails s).psc = s.psc ∧ (shutdownRails s).fault = s.fault ∧ (shutdownRails s).wake = s.wake ∧
    (shutdownRails s).wire = s.wire ∧ (shutdownRails s).hub = s.hub ∧ (shutdownRails s).board = s.board ∧
    (shutdownRails s).agent = s.agent ∧ (shutdownRails s).clock = s.clock ∧
    (shutdownRails s).loader = s.loader ∧ (shutdownRails s).pins = s.pins ∧
    (shutdownRails s).boundary = s.boundary ∧ (shutdownRails s).lrst = s.lrst ∧
    (shutdownRails s).powered = s.powered ∧ (shutdownRails s).uses = s.uses ∧
    (shutdownRails s).pending = s.pending := by
  refine ⟨?_, ?_, ?_, ?_, ?_, ?_, ?_, ?_, ?_, ?_, ?_, ?_, ?_, ?_, ?_⟩ <;> rw [shutdownRails]
  · rw [foldl_keeps (fun s => s.psc)]; intro s a; split <;> simp
  · rw [foldl_keeps (fun s => s.fault)]; intro s a; split <;> simp
  · rw [foldl_keeps (fun s => s.wake)]; intro s a; split <;> simp
  · rw [foldl_keeps (fun s => s.wire)]; intro s a; split <;> simp
  · rw [foldl_keeps (fun s => s.hub)]; intro s a; split <;> simp
  · rw [foldl_keeps (fun s => s.board)]; intro s a; split <;> simp
  · rw [foldl_keeps (fun s => s.agent)]; intro s a; split <;> simp
  · rw [foldl_keeps (fun s => s.clock)]; intro s a; split <;> simp
  · rw [foldl_keeps (fun s => s.loader)]; intro s a; split <;> simp
  · rw [foldl_keeps (fun s => s.pins)]; intro s a; split <;> simp
  · rw [foldl_keeps (fun s => s.boundary)]; intro s a; split <;> simp
  · rw [foldl_keeps (fun s => s.lrst)]; intro s a; split <;> simp
  · rw [foldl_keeps (fun s => s.powered)]; intro s a; split <;> simp
  · rw [foldl_keeps (fun s => s.uses)]; intro s a; split <;> simp
  · rw [foldl_keeps (fun s => s.pending)]; intro s a; split <;> simp

/-- What `driveLine` leaves. -/
@[simp] theorem driveLine_frame (n : Fin 8) (b : Bool) (s : State) :
    (driveLine n b s).psc = s.psc ∧ (driveLine n b s).eng = s.eng ∧ (driveLine n b s).rails = s.rails ∧
    (driveLine n b s).fault = s.fault ∧ (driveLine n b s).wake = s.wake ∧
    (driveLine n b s).wire = s.wire ∧ (driveLine n b s).hub = s.hub ∧ (driveLine n b s).board = s.board ∧
    (driveLine n b s).agent = s.agent ∧ (driveLine n b s).clock = s.clock ∧
    (driveLine n b s).loader = s.loader ∧ (driveLine n b s).boundary = s.boundary ∧
    (driveLine n b s).lrst = s.lrst ∧ (driveLine n b s).powered = s.powered ∧
    (driveLine n b s).uses = s.uses ∧ (driveLine n b s).pending = s.pending := by
  simp [driveLine]

/-- What `cutStep` leaves. -/
@[simp] theorem cutStep_frame (s : State) :
    (cutStep s).psc = s.psc ∧ (cutStep s).rails = s.rails ∧ (cutStep s).fault = s.fault ∧
    (cutStep s).wake = s.wake ∧ (cutStep s).wire = s.wire ∧ (cutStep s).agent = s.agent ∧
    (cutStep s).clock = s.clock ∧ (cutStep s).loader = s.loader ∧ (cutStep s).boundary = s.boundary ∧
    (cutStep s).lrst = s.lrst ∧ (cutStep s).powered = s.powered ∧ (cutStep s).uses = s.uses ∧
    (cutStep s).pending = s.pending := by
  unfold cutStep
  (repeat' split) <;> simp

/-- What `idleNorm` leaves. -/
@[simp] theorem idleNorm_frame (s : State) :
    (idleNorm s).psc = s.psc ∧ (idleNorm s).rails = s.rails ∧ (idleNorm s).fault = s.fault ∧
    (idleNorm s).wake = s.wake ∧ (idleNorm s).wire = s.wire ∧ (idleNorm s).hub = s.hub ∧
    (idleNorm s).board = s.board ∧ (idleNorm s).agent = s.agent ∧ (idleNorm s).clock = s.clock ∧
    (idleNorm s).loader = s.loader ∧ (idleNorm s).pins = s.pins ∧ (idleNorm s).boundary = s.boundary ∧
    (idleNorm s).lrst = s.lrst ∧ (idleNorm s).powered = s.powered ∧ (idleNorm s).uses = s.uses ∧
    (idleNorm s).pending = s.pending := by
  simp [idleNorm]

/-- What `startNorm` leaves. -/
@[simp] theorem startNorm_frame (o : NormOrigin) (i : Fin 256) (s : State) :
    (startNorm o i s).psc = s.psc ∧ (startNorm o i s).rails = s.rails ∧
    (startNorm o i s).fault = s.fault ∧ (startNorm o i s).wake = s.wake ∧
    (startNorm o i s).wire = s.wire ∧ (startNorm o i s).hub = s.hub ∧ (startNorm o i s).board = s.board ∧
    (startNorm o i s).agent = s.agent ∧ (startNorm o i s).clock = s.clock ∧
    (startNorm o i s).loader = s.loader ∧ (startNorm o i s).pins = s.pins ∧
    (startNorm o i s).boundary = s.boundary ∧ (startNorm o i s).lrst = s.lrst ∧
    (startNorm o i s).powered = s.powered ∧ (startNorm o i s).uses = s.uses ∧
    (startNorm o i s).pending = s.pending := by
  simp [startNorm]

/-- What `stopNorm` leaves. -/
@[simp] theorem stopNorm_frame (s : State) :
    (stopNorm s).psc = s.psc ∧ (stopNorm s).rails = s.rails ∧ (stopNorm s).fault = s.fault ∧
    (stopNorm s).wake = s.wake ∧ (stopNorm s).wire = s.wire ∧ (stopNorm s).agent = s.agent ∧
    (stopNorm s).clock = s.clock ∧ (stopNorm s).loader = s.loader ∧ (stopNorm s).boundary = s.boundary ∧
    (stopNorm s).lrst = s.lrst ∧ (stopNorm s).powered = s.powered ∧ (stopNorm s).uses = s.uses ∧
    (stopNorm s).pending = s.pending := by
  unfold stopNorm
  (repeat' split) <;> simp

/-- What `writeFault` leaves. -/
@[simp] theorem writeFault_frame (c : FaultCause) (i : Fin 256) (s : State) :
    (writeFault c i s).psc = s.psc ∧ (writeFault c i s).eng = s.eng ∧ (writeFault c i s).rails = s.rails ∧
    (writeFault c i s).wake = s.wake ∧ (writeFault c i s).wire = s.wire ∧ (writeFault c i s).hub = s.hub ∧
    (writeFault c i s).board = s.board ∧ (writeFault c i s).agent = s.agent ∧
    (writeFault c i s).clock = s.clock ∧ (writeFault c i s).loader = s.loader ∧
    (writeFault c i s).pins = s.pins ∧ (writeFault c i s).boundary = s.boundary ∧
    (writeFault c i s).lrst = s.lrst ∧ (writeFault c i s).powered = s.powered ∧
    (writeFault c i s).uses = s.uses ∧ (writeFault c i s).pending = s.pending := by
  unfold writeFault
  (repeat' split) <;> simp

/-- What `startUrgentList` leaves. -/
@[simp] theorem startUrgentList_frame (k : UrgKind) (s : State) :
    (startUrgentList k s).psc = s.psc ∧ (startUrgentList k s).fault = s.fault ∧
    (startUrgentList k s).wake = s.wake ∧ (startUrgentList k s).wire = s.wire ∧
    (startUrgentList k s).hub = s.hub ∧ (startUrgentList k s).board = s.board ∧
    (startUrgentList k s).agent = s.agent ∧ (startUrgentList k s).clock = s.clock ∧
    (startUrgentList k s).loader = s.loader ∧ (startUrgentList k s).pins = s.pins ∧
    (startUrgentList k s).boundary = s.boundary ∧ (startUrgentList k s).lrst = s.lrst ∧
    (startUrgentList k s).powered = s.powered ∧ (startUrgentList k s).uses = s.uses ∧
    (startUrgentList k s).pending = s.pending := by
  by_cases h : (urgentStartOf s.psc.policy1 k).present <;> by_cases h2 : s.wire.queue = [] <;>
    simp [startUrgentList, h, h2]

/-- What `enterUrgent` leaves. -/
@[simp] theorem enterUrgent_frame (s : State) :
    (enterUrgent s).rails = s.rails ∧ (enterUrgent s).fault = s.fault ∧ (enterUrgent s).wake = s.wake ∧
    (enterUrgent s).agent = s.agent ∧ (enterUrgent s).clock = s.clock ∧
    (enterUrgent s).loader = s.loader ∧ (enterUrgent s).pins = s.pins ∧
    (enterUrgent s).boundary = s.boundary ∧ (enterUrgent s).lrst = s.lrst ∧
    (enterUrgent s).powered = s.powered ∧ (enterUrgent s).uses = s.uses ∧
    (enterUrgent s).pending = s.pending := by
  by_cases h : s.psc.gateClosed <;> simp [enterUrgent, h]

/-- What `urgentStart` leaves. -/
@[simp] theorem urgentStart_frame (k : UrgKind) (s : State) :
    (urgentStart k s).fault = s.fault ∧ (urgentStart k s).wake = s.wake ∧
    (urgentStart k s).agent = s.agent ∧ (urgentStart k s).loader = s.loader ∧
    (urgentStart k s).boundary = s.boundary ∧ (urgentStart k s).lrst = s.lrst ∧
    (urgentStart k s).powered = s.powered ∧ (urgentStart k s).uses = s.uses ∧
    (urgentStart k s).pending = s.pending := by
  simp [urgentStart]

/-- What `preempt` leaves. -/
@[simp] theorem preempt_frame (k : UrgKind) (s : State) :
    (preempt k s).psc = s.psc ∧ (preempt k s).fault = s.fault ∧ (preempt k s).wake = s.wake ∧
    (preempt k s).wire = s.wire ∧ (preempt k s).agent = s.agent ∧ (preempt k s).loader = s.loader ∧
    (preempt k s).boundary = s.boundary ∧ (preempt k s).lrst = s.lrst ∧
    (preempt k s).powered = s.powered ∧ (preempt k s).uses = s.uses ∧
    (preempt k s).pending = s.pending := by
  simp [preempt]

/-- What `triggerFault` leaves. -/
@[simp] theorem triggerFault_frame (c : FaultCause) (i : Fin 256) (s : State) :
    (triggerFault c i s).wake = s.wake ∧ (triggerFault c i s).agent = s.agent ∧
    (triggerFault c i s).loader = s.loader ∧ (triggerFault c i s).boundary = s.boundary ∧
    (triggerFault c i s).lrst = s.lrst ∧ (triggerFault c i s).powered = s.powered ∧
    (triggerFault c i s).uses = s.uses ∧ (triggerFault c i s).pending = s.pending := by
  unfold triggerFault
  (repeat' split) <;> simp

/-- What `triggerOverride` leaves. -/
@[simp] theorem triggerOverride_frame (s : State) :
    (triggerOverride s).fault = s.fault ∧ (triggerOverride s).wake = s.wake ∧
    (triggerOverride s).agent = s.agent ∧ (triggerOverride s).loader = s.loader ∧
    (triggerOverride s).boundary = s.boundary ∧ (triggerOverride s).lrst = s.lrst ∧
    (triggerOverride s).powered = s.powered ∧ (triggerOverride s).uses = s.uses ∧
    (triggerOverride s).pending = s.pending := by
  unfold triggerOverride
  (repeat' split) <;> simp

/-- What `triggerPowerfail` leaves. -/
@[simp] theorem triggerPowerfail_frame (s : State) :
    (triggerPowerfail s).fault = s.fault ∧ (triggerPowerfail s).wake = s.wake ∧
    (triggerPowerfail s).agent = s.agent ∧ (triggerPowerfail s).loader = s.loader ∧
    (triggerPowerfail s).boundary = s.boundary ∧ (triggerPowerfail s).lrst = s.lrst ∧
    (triggerPowerfail s).powered = s.powered ∧ (triggerPowerfail s).uses = s.uses ∧
    (triggerPowerfail s).pending = s.pending := by
  unfold triggerPowerfail
  (repeat' split) <;> simp

/-- What `railLost` leaves. -/
@[simp] theorem railLost_frame (slot : Fin 16) (s : State) :
    (railLost slot s).wake = s.wake ∧ (railLost slot s).agent = s.agent ∧
    (railLost slot s).loader = s.loader ∧ (railLost slot s).boundary = s.boundary ∧
    (railLost slot s).lrst = s.lrst ∧ (railLost slot s).powered = s.powered ∧
    (railLost slot s).uses = s.uses ∧ (railLost slot s).pending = s.pending := by
  dsimp only [railLost]
  split <;> simp

/-- What `openGate` leaves. -/
@[simp] theorem openGate_frame (s : State) :
    (openGate s).rails = s.rails ∧ (openGate s).fault = s.fault ∧ (openGate s).wake = s.wake ∧
    (openGate s).agent = s.agent ∧ (openGate s).clock = s.clock ∧ (openGate s).loader = s.loader ∧
    (openGate s).pins = s.pins ∧ (openGate s).boundary = s.boundary ∧ (openGate s).lrst = s.lrst ∧
    (openGate s).powered = s.powered ∧ (openGate s).uses = s.uses ∧ (openGate s).pending = s.pending := by
  simp [openGate]

/-- What `refuse` leaves. -/
@[simp] theorem refuse_frame (a b : Level) (o : ReportOutcome) (s : State) :
    (refuse a b o s).psc = s.psc ∧ (refuse a b o s).rails = s.rails ∧ (refuse a b o s).fault = s.fault ∧
    (refuse a b o s).wake = s.wake ∧ (refuse a b o s).wire = s.wire ∧ (refuse a b o s).hub = s.hub ∧
    (refuse a b o s).board = s.board ∧ (refuse a b o s).agent = s.agent ∧
    (refuse a b o s).clock = s.clock ∧ (refuse a b o s).loader = s.loader ∧
    (refuse a b o s).pins = s.pins ∧ (refuse a b o s).boundary = s.boundary ∧
    (refuse a b o s).lrst = s.lrst ∧ (refuse a b o s).powered = s.powered ∧
    (refuse a b o s).uses = s.uses ∧ (refuse a b o s).pending = s.pending := by
  simp [refuse]

/-- What `startTransition` leaves. -/
@[simp] theorem startTransition_frame (a b : Level) (s : State) :
    (startTransition a b s).rails = s.rails ∧ (startTransition a b s).fault = s.fault ∧
    (startTransition a b s).wake = s.wake ∧ (startTransition a b s).hub = s.hub ∧
    (startTransition a b s).board = s.board ∧ (startTransition a b s).agent = s.agent ∧
    (startTransition a b s).clock = s.clock ∧ (startTransition a b s).loader = s.loader ∧
    (startTransition a b s).pins = s.pins ∧ (startTransition a b s).boundary = s.boundary ∧
    (startTransition a b s).lrst = s.lrst ∧ (startTransition a b s).powered = s.powered ∧
    (startTransition a b s).uses = s.uses ∧ (startTransition a b s).pending = s.pending := by
  simp [startTransition]

/-- What `backOut` leaves. -/
@[simp] theorem backOut_frame (s : State) :
    (backOut s).rails = s.rails ∧ (backOut s).fault = s.fault ∧ (backOut s).wake = s.wake ∧
    (backOut s).wire = s.wire ∧ (backOut s).agent = s.agent ∧ (backOut s).clock = s.clock ∧
    (backOut s).loader = s.loader ∧ (backOut s).boundary = s.boundary ∧ (backOut s).lrst = s.lrst ∧
    (backOut s).powered = s.powered ∧ (backOut s).uses = s.uses ∧ (backOut s).pending = s.pending := by
  simp [backOut]

/-- What `requestInLevel` leaves. -/
@[simp] theorem requestInLevel_frame (a b : Level) (s : State) :
    (requestInLevel a b s).rails = s.rails ∧ (requestInLevel a b s).fault = s.fault ∧
    (requestInLevel a b s).wake = s.wake ∧ (requestInLevel a b s).agent = s.agent ∧
    (requestInLevel a b s).clock = s.clock ∧ (requestInLevel a b s).loader = s.loader ∧
    (requestInLevel a b s).pins = s.pins ∧ (requestInLevel a b s).boundary = s.boundary ∧
    (requestInLevel a b s).lrst = s.lrst ∧ (requestInLevel a b s).powered = s.powered ∧
    (requestInLevel a b s).uses = s.uses ∧ (requestInLevel a b s).pending = s.pending := by
  unfold requestInLevel
  (repeat' split) <;> simp

/-- What `requestInTransit` leaves. -/
@[simp] theorem requestInTransit_frame (q : Level) (s : State) :
    (requestInTransit q s).rails = s.rails ∧ (requestInTransit q s).fault = s.fault ∧
    (requestInTransit q s).wake = s.wake ∧ (requestInTransit q s).wire = s.wire ∧
    (requestInTransit q s).agent = s.agent ∧ (requestInTransit q s).clock = s.clock ∧
    (requestInTransit q s).loader = s.loader ∧ (requestInTransit q s).boundary = s.boundary ∧
    (requestInTransit q s).lrst = s.lrst ∧ (requestInTransit q s).powered = s.powered ∧
    (requestInTransit q s).uses = s.uses ∧ (requestInTransit q s).pending = s.pending := by
  unfold requestInTransit
  (repeat' split) <;> simp

/-- What `requestEvent` leaves. -/
@[simp] theorem requestEvent_frame (q : Level) (s : State) :
    (requestEvent q s).rails = s.rails ∧ (requestEvent q s).fault = s.fault ∧
    (requestEvent q s).wake = s.wake ∧ (requestEvent q s).agent = s.agent ∧
    (requestEvent q s).clock = s.clock ∧ (requestEvent q s).loader = s.loader ∧
    (requestEvent q s).boundary = s.boundary ∧ (requestEvent q s).lrst = s.lrst ∧
    (requestEvent q s).powered = s.powered ∧ (requestEvent q s).uses = s.uses ∧
    (requestEvent q s).pending = s.pending := by
  unfold requestEvent
  (repeat' split) <;> simp

/-- What `requestIfChanged` leaves. -/
@[simp] theorem requestIfChanged_frame (q : Level) (s : State) :
    (requestIfChanged q s).rails = s.rails ∧ (requestIfChanged q s).fault = s.fault ∧
    (requestIfChanged q s).wake = s.wake ∧ (requestIfChanged q s).agent = s.agent ∧
    (requestIfChanged q s).clock = s.clock ∧ (requestIfChanged q s).loader = s.loader ∧
    (requestIfChanged q s).boundary = s.boundary ∧ (requestIfChanged q s).lrst = s.lrst ∧
    (requestIfChanged q s).powered = s.powered ∧ (requestIfChanged q s).uses = s.uses ∧
    (requestIfChanged q s).pending = s.pending := by
  unfold requestIfChanged
  (repeat' split) <;> simp

/-- What `clearLatch` leaves. -/
@[simp] theorem clearLatch_frame (s : State) :
    (clearLatch s).rails = s.rails ∧ (clearLatch s).fault = s.fault ∧ (clearLatch s).wake = s.wake ∧
    (clearLatch s).agent = s.agent ∧ (clearLatch s).clock = s.clock ∧ (clearLatch s).loader = s.loader ∧
    (clearLatch s).boundary = s.boundary ∧ (clearLatch s).lrst = s.lrst ∧
    (clearLatch s).powered = s.powered ∧ (clearLatch s).uses = s.uses ∧
    (clearLatch s).pending = s.pending := by
  by_cases h : s.psc.latch <;> simp [clearLatch, h]; split <;> simp

/-- What `serveSlot` leaves. -/
@[simp] theorem serveSlot_frame (x : Level) (s : State) :
    (serveSlot x s).rails = s.rails ∧ (serveSlot x s).fault = s.fault ∧ (serveSlot x s).wake = s.wake ∧
    (serveSlot x s).agent = s.agent ∧ (serveSlot x s).clock = s.clock ∧
    (serveSlot x s).loader = s.loader ∧ (serveSlot x s).boundary = s.boundary ∧
    (serveSlot x s).lrst = s.lrst ∧ (serveSlot x s).powered = s.powered ∧ (serveSlot x s).uses = s.uses ∧
    (serveSlot x s).pending = s.pending := by
  cases h : s.psc.slot with
  | none => simp [serveSlot, h]
  | some q => by_cases g : s.psc.gateClosed = false ∧ q ≠ x <;> simp [serveSlot, h, g]

/-- What `reportWakes` leaves. -/
@[simp] theorem reportWakes_frame (x : Level) (s : State) :
    (reportWakes x s).psc = s.psc ∧ (reportWakes x s).rails = s.rails ∧
    (reportWakes x s).fault = s.fault ∧ (reportWakes x s).wire = s.wire ∧ (reportWakes x s).hub = s.hub ∧
    (reportWakes x s).board = s.board ∧ (reportWakes x s).agent = s.agent ∧
    (reportWakes x s).clock = s.clock ∧ (reportWakes x s).loader = s.loader ∧
    (reportWakes x s).pins = s.pins ∧ (reportWakes x s).boundary = s.boundary ∧
    (reportWakes x s).lrst = s.lrst ∧ (reportWakes x s).powered = s.powered ∧
    (reportWakes x s).uses = s.uses ∧ (reportWakes x s).pending = s.pending := by
  unfold reportWakes
  (repeat' split) <;> simp

/-- What `settle` leaves. -/
@[simp] theorem settle_frame (x : Level) (o : ReportOutcome) (s : State) :
    (settle x o s).rails = s.rails ∧ (settle x o s).fault = s.fault ∧ (settle x o s).agent = s.agent ∧
    (settle x o s).clock = s.clock ∧ (settle x o s).loader = s.loader ∧
    (settle x o s).boundary = s.boundary ∧ (settle x o s).lrst = s.lrst ∧
    (settle x o s).powered = s.powered ∧ (settle x o s).uses = s.uses ∧
    (settle x o s).pending = s.pending := by
  simp [settle]

/-- What `settleNorm` leaves. -/
@[simp] theorem settleNorm_frame (s : State) :
    (settleNorm s).rails = s.rails ∧ (settleNorm s).fault = s.fault ∧ (settleNorm s).agent = s.agent ∧
    (settleNorm s).clock = s.clock ∧ (settleNorm s).loader = s.loader ∧
    (settleNorm s).boundary = s.boundary ∧ (settleNorm s).lrst = s.lrst ∧
    (settleNorm s).powered = s.powered ∧ (settleNorm s).uses = s.uses ∧
    (settleNorm s).pending = s.pending := by
  simp [settleNorm]

/-- What `restoreAction` leaves. -/
@[simp] theorem restoreAction_frame (s : State) :
    (restoreAction s).rails = s.rails ∧ (restoreAction s).fault = s.fault ∧
    (restoreAction s).agent = s.agent ∧ (restoreAction s).clock = s.clock ∧
    (restoreAction s).loader = s.loader ∧ (restoreAction s).pins = s.pins ∧
    (restoreAction s).boundary = s.boundary ∧ (restoreAction s).lrst = s.lrst ∧
    (restoreAction s).powered = s.powered ∧ (restoreAction s).uses = s.uses ∧
    (restoreAction s).pending = s.pending := by
  cases h : s.psc.policy0.restore <;> cases g : s.psc.restoreOn <;> simp [restoreAction, h, g]

/-- What `urgentEnd` leaves. -/
@[simp] theorem urgentEnd_frame (o : ReportOutcome) (s : State) :
    (urgentEnd o s).rails = s.rails ∧ (urgentEnd o s).fault = s.fault ∧ (urgentEnd o s).agent = s.agent ∧
    (urgentEnd o s).clock = s.clock ∧ (urgentEnd o s).loader = s.loader ∧
    (urgentEnd o s).boundary = s.boundary ∧ (urgentEnd o s).lrst = s.lrst ∧
    (urgentEnd o s).powered = s.powered ∧ (urgentEnd o s).uses = s.uses ∧
    (urgentEnd o s).pending = s.pending := by
  dsimp only [urgentEnd]
  (repeat' split) <;> simp

end Sys2Proof.Machine
end

