-- ==== Sys2Proof/WellFormed.lean ====
section
/-! DEFINITION. Which commands can come about at all. Most operands are well-formed by their type;
the checks left are those below. A meaning is given for every command, well-formed or not. -/

namespace Sys2Proof

/-- A command that some event of the part can be: a scan pass takes each rail slot at most once
(R71), and a frame that arrives has at least the byte whose start bit began it (R142). -/
def Instr.wf : Instr → Bool
  | .scanPass slots => decide slots.Nodup
  | .frameArrival _ bytes _ => decide (bytes ≠ [])
  | _ => true

end Sys2Proof
end

