-- ==== Sys2Proof/Tests/Slice0.lean ====
section
/-! SUPPORT. The checks of a command's form, the worked numbers and examples of the manual, and for each
statement with hypotheses states and operands that meet them. -/

namespace Sys2Proof.Tests

open Sys2Proof Sys2Proof.Machine

/-! ## Small states -/

/-- The part at rest in a level state, the image load over. -/
def atLevel (l : Level) : State :=
  ((State.reset.setPsc { State.reset.psc with state := levelState l, current := l, target := l }).setWake
    { State.reset.wake with armed := l }).setLoader
    { State.reset.loader with phase := .done, chipSelect := false }

/-- A DELAY record of three ticks. -/
def delay3 : StepRec := { blankStep with kind := .delay, time := { value := 3, unit := .t1 } }

/-- The Normal channel waiting in a step of kind `k` and 3 ticks at index 9, in step mode, in a transition
from WORKING to SUSPEND that began at tick 0. -/
def inStep (k : StepKind) : State :=
  let s := (atLevel .working).setPsc { (atLevel .working).psc with state := .transit, target := .suspend }
  s.setEng
    { s.eng with
      norm := { s.eng.norm with st := .running, origin := some { entry := 1, backout := false }, idx := 9, ran := 9 },
      cur := { delay3 with kind := k }, wait := .step, stepMode := true,
      inflight := { emptyReport with isOpen := true, origin := .entry 1, toLevel := .suspend } }

/-- A state at another tick. -/
def atTick (t : Tick) (s : State) : State := s.setClock { s.clock with tick := t }

/-- A state whose urgent lists all begin with a DELAY at index 0. -/
def withLists (s : State) : State :=
  let here : Opt (Fin 256) := { present := true, value := 0 }
  (s.setEng { s.eng with steps := Vector.replicate 256 delay3 }).setPsc
    { s.psc with policy1 := { powerfail := here, override := here, fault := here } }

/-- The DRAM rail of section 4.7: SC2, gain 256, nominal 1200, tolerances 50 and 80, drain 100, F 3. -/
def dram : Bands := { gain := 256, nominal := 1200, tolGood := 50, tolFail := 80, drain := 100 }

/-- A rail record of F 3 with a sense group, on line 2. -/
def railOf (x : Sense) : RailRec := { blankRail with present := true, line := 2, filter := 3, sense := x }

/-- WORKING with one rail in slot 4 of a given verdict, counts 2, its sample due, and 1180 mV at every sense pin. -/
def withRail (x : Sense) (v : Verdict) (mV : Nat) : State :=
  let s := atLevel .working
  ((s.setRails
    { s.rails with
      table := poke s.rails.table 4 (railOf x),
      stat := poke s.rails.stat 4
        { resetStat with verdict := v, en := .asserted, inCount := 2, overCount := 2, outCount := 2, lowCount := 2 } }).setBoundary
    { quietBoundary with rail := poke quietBoundary.rail 4 true }).setPins
    { s.pins with now := { lowLines with sc := Vector.replicate 12 mV, pg := if mV = 0 then 0 else 255 } }

/-- A state with one frame at the head of a port's receive queue and the pointer at that port. -/
def withFrame (p : Port) (f : Frame) (s : State) : State :=
  (setLink s p { idleLink with rx := [f] }).setWire { s.wire with pointer := p }

/-- A management request with route 1 and tag 5. -/
def request (payload : List Byte) : Frame :=
  { kind := .mgmtReq, route := true, bit6 := false, tag := 5, payload := payload }

/-- The level at the end of a step, where it is a next state. -/
def after (c : Instr) (s : State) (p : State → Bool) : Bool :=
  match exec c s with
  | .next t => p t
  | .fault _ => false
  | .refused _ => false

/-! ## Checks of a command's form -/

theorem test_wf_scan_pass_repeats : Instr.wf (.scanPass [3, 3]) = false := by decide
theorem test_wf_scan_pass : Instr.wf (.scanPass [3, 2]) = true := by decide
theorem test_wf_frame_of_no_bytes : Instr.wf (.frameArrival .hub [] false) = false := by decide

/-! ## Numbers the manual works out -/

/-- The ASCII bytes "123456789". -/
def digits : List Byte := [0x31, 0x32, 0x33, 0x34, 0x35, 0x36, 0x37, 0x38, 0x39]

/-- R159: the check value of the CRC-8. -/
theorem test_crc8 : crc8 digits = 0xF4 := by decide +kernel
/-- R163: the check value of the CRC-16. -/
theorem test_crc16 : crc16 0xFFFF digits = 0x29B1 := by decide +kernel

/-- Section 4.7: conversion and classification of the memory rail. -/
theorem test_memory_rail :
    [1010, 953, 930, 102, 101, 1023].map (fun c : BitVec 10 => (railMv c 256, bandClass dram c, belowDrain dram c)) =
      [(1184, .inGood, false), (1117, .hyst, false), (1090, .outFail, false), (120, .outFail, false),
        (118, .outFail, true), (1199, .outFail, false)] := by decide
/-- Section 4.7: the code 1023 of the memory rail is OVER. -/
theorem test_memory_rail_over : isOver dram 1023 = true ∧ isOver dram 1010 = false := by decide
/-- Section 4.7: the 12 V rail. -/
theorem test_twelve_volt_rail :
    [910, 940, 870, 1023].map (fun c : BitVec 10 =>
      (railMv c 2816, bandClass { gain := 2816, nominal := 12000, tolGood := 50, tolFail := 80, drain := 100 } c)) =
      [(11730, .inGood), (12117, .inGood), (11215, .hyst), (13187, .outFail)] := by decide
/-- Section 4.7: the clamped write. -/
theorem test_clamped_write :
    clampBands { gain := 5000, nominal := 3300, tolGood := 3, tolFail := 2, drain := 600 } =
      { gain := 4096, nominal := 3300, tolGood := 5, tolFail := 5, drain := 500 } := by decide
/-- R139, R161: the blank records, in bytes. -/
theorem test_blank_records :
    encodeRail blankRail = [16, 0, 0, 0, 0, 0, 0, 0, 0, 0, 0] ∧ encodeStep blankStep = [0, 0, 0, 0, 0, 0] ∧
      encodePolicy0 blankPolicy0 = [0, 1, 2, 0, 0, 128, 32, 4, 0] := by decide
/-- R161: a rail record written out bit by bit: present, critical, MONITORED on SC2, F 3. -/
theorem test_rail_record :
    decodeRail 4 [0b00000101, 0b00000000, 0b00110010, 0x00, 0x01, 0xB0, 0x04, 50, 80, 100, 0] =
      some ({ railOf (.monitored dram) with critical := true }, false) := by decide
/-- R161: a step record: RETRY twice, commit, WAIT_GOOD of slot 4, 3 × T32. -/
theorem test_step_record :
    decodeStep [0b01010011, 4, 0, 2, 0x03, 0x10] =
      some { kind := .waitGood, opA := 4, opB := false, time := { value := 3, unit := .t32 }, action := .retry,
             retry := 2, commit := true } := by decide

/-! ## Examples of the manual, one step each -/

/-- Section 4.7: the third IN_GOOD sample of the memory rail makes it GOOD; 1008 is the code of 1182 mV at the pin. -/
theorem test_scan_pass_good :
    after (.scanPass [4]) (withRail (.monitored dram) .rising 1182) (fun t =>
      decide ((peek t.rails.stat 4).verdict = .good ∧ (peek t.rails.stat 4).mV = 1181 ∧ (peek t.rails.stat 4).inCount = 0))
      = true := by decide
/-- Section 4.7, the saturated divider: full scale while rising reaches F and the rail is LOST, its line asserted. -/
theorem test_scan_pass_saturated :
    after (.scanPass [4]) (withRail (.monitored { dram with gain := 512 }) .rising 1650) (fun t =>
      decide ((peek t.rails.stat 4).verdict = .lost ∧ (peek t.rails.stat 4).mV = 2398 ∧
        (peek t.rails.stat 4).en = .asserted ∧ (peek t.rails.stat 4).lost = 1)) = true := by decide
/-- R71: a pass keeps the rails that are scanned where it begins, here by another slot's row. -/
theorem test_pass_begins :
    ∀ v ∈ [Verdict.off, .rising],
      after (.scanPass [3]) (withRail (.monitored dram) v 1182) (fun t =>
        decide (t.boundary.passBegun = true ∧ peek t.boundary.scanned 4 = decide (v = .rising) ∧
          peek t.boundary.rail 4 = true)) = true := by decide
/-- R73, the pass first: a rail whose event comes while it is OFF takes no sample at this boundary. -/
theorem test_rail_off_takes_no_sample :
    after (.scanPass [4]) (withRail (.monitored dram) .off 1182) (fun t =>
      decide (peek t.boundary.rail 4 = false ∧ (peek t.rails.stat 4).inCount = 2)) = true := by decide
/-- A pass that has begun while the rail of slot 4 was OFF, the rail switched on since. -/
def latePass : State :=
  let s := withRail (.monitored dram) .rising 1182
  s.setBoundary { s.boundary with passBegun := true }
/-- R73, either order: such a rail takes its sample by a row that names it, and none where no row does. -/
theorem test_rail_switched_on_in_pass :
    after (.scanPass [4]) latePass (fun t => decide ((peek t.rails.stat 4).verdict = .good)) = true ∧
      after (.tickBoundary lowLines) latePass (fun t => decide ((peek t.rails.stat 4).inCount = 2)) = true := by decide

/-- The Wire Map of the example of section 7.3. -/
def exampleWires : Vector WireEntry 64 :=
  let m := poke (poke blankWires 0 { blankWire with action := .hold }) 12 { blankWire with action := .hold }
  poke m 20 { blankWire with action := .consume }

/-- The example of section 7.3: WORKING, the entry (WORKING, SUSPEND) present, one frame with tag 9 of five entries. -/
def suspendEntry : State :=
  let s := atLevel .working
  withFrame .hub { kind := .wire, route := false, bit6 := false, tag := 9, payload := [0x4C, 0x40, 0x0C, 0x4D, 0x54] }
    (((s.setWire { s.wire with map := exampleWires }).setPsc
      { s.psc with trans := poke s.psc.trans 1 { blankTrans with present := true } }).setEng
      { s.eng with steps := Vector.replicate 256 delay3 })

/-- Section 7.3: TRANSIT to SUSPEND with hold active, two entries queued, two forwarded in one frame of the same tag. -/
theorem test_wire_frame_taken :
    after .wireFrameTaken suspendEntry (fun t =>
      decide (t.psc.state = .transit ∧ t.psc.target = .suspend ∧ t.wire.hold = true ∧
        t.wire.queue = [{ wire := 0, level := true }, { wire := 12, level := false }] ∧
        t.board.tx.map (fun f => (f.tag, f.payload)) = [(9, [0x4C, 0x4D])])) = true := by decide

/-- Section 7.4: a queue of two directions; wires 0 to 8 and 12 are DOWN and wire 30 is UP. -/
def twoDirections : State :=
  let s := atLevel .working
  let q := [0, 1, 2, 3, 4, 5, 6, 7, 8, 30, 12].map fun w : Fin 64 => ({ wire := w, level := true } : WireLevel)
  (s.setWire { s.wire with map := poke blankWires 30 { blankWire with dir := .up }, queue := q }).setBoard
    { s.board with waiting := [.drain] }

/-- Section 7.4: the first drain frame carries 8 entries, and the next waits at the Board Port for entry 9. -/
theorem test_drain_frame_takes_slot :
    after .drainFrameTakesSlot twoDirections (fun t =>
      decide (t.wire.queue.length = 3 ∧ t.board.tx.map (fun f => f.payload.length) = [8] ∧ t.board.waiting = [.drain] ∧
        drainEntries t = [{ wire := 8, level := true }])) = true := by decide
/-- Section 6.11: SUSPEND, source 10 armed for it, board wake code 1 at tick 60000. -/
def boardWake : State :=
  let s := atTick 60000 (atLevel .suspend)
  withFrame .board { kind := .wake, route := false, bit6 := false, tag := 0, payload := [1] }
    (s.setWake { s.wake with table := poke blankWakes 10 { blankWake with mask := 2 } })

/-- Section 6.11: entry (10, 60000, 1) and one notice of source 10. -/
theorem test_board_wake_frame :
    after .boardWakeFrame boardWake (fun t =>
      decide (t.wake.queue = [{ source := 10, first := 60000, count := 1 }] ∧ t.hub.tx = [noticeFrame 10])) = true := by
  decide

/-- Section 6.3: sources 4 (LOW) and 5 (FALL) with mask SUSPEND and both detectors ACTIVE, Armed Level WORKING. -/
def armingExample : State :=
  let s := atLevel .working
  s.setWake { s.wake with
    table := poke (poke blankWakes 4 { mask := 2, mode := .low, width := 2 }) 5 { mask := 2, mode := .fall, width := 2 },
    det := poke (poke s.wake.det 4 { active := true, count := 0 }) 5 { active := true, count := 0 } }

/-- Section 6.3: ARM_WAKE SUSPEND fires source 4 and not source 5. -/
theorem test_arming_change :
    (setArmed .suspend armingExample).wake.queue.map WakeEntry.source = [4] := by decide +kernel

/-- Section 6.12, R114: IN7 is the trip line, its source level mode with mask SOFT_OFF; the FAULT list is empty of rails
and ends at once, so that the settle in SOFT_OFF arms the source in the event of the detector change. -/
def tripArms (order : EffectOrder) : Nat :=
  let s := atLevel .working
  let s := s.setWake { s.wake with
    table := poke s.wake.table 7 { mask := 8, mode := .high, width := 1 } }
  let s := s.setPsc { s.psc with policy0 := { blankPolicy0 with trip := { present := true, value := 7 } } }
  let s := (s.setBoundary { quietBoundary with det := poke quietBoundary.det 7 true }).setPins
    { s.pins with now := { lowLines with ins := 128 } }
  match exec (.detectorSample 7 order) s with
  | .next t => (t.wake.queue.map WakeEntry.count).sum
  | .fault _ => 0
  | .refused _ => 0
/-- R114: the source fires once whichever effect comes first. -/
theorem test_level_source_fires_once :
    [EffectOrder.wakeGuardTimer, .guardWakeTimer, .guardTimerWake, .timerGuardWake].map tripArms = [1, 1, 1, 1] := by
  decide +kernel

/-- Section 9.4 at the first send completion: 7 frames left, notice 3 waiting, DATA at the Board Port's head. -/
def claimedSlot : State :=
  let f : Frame := { kind := .data, route := false, bit6 := true, tag := 1, payload := [7] }
  (withFrame .board f (atLevel .working)).setHub { idleLink with tx := List.replicate 7 f, waiting := [.notice 3] }

/-- Section 9.4: the notice takes the free slot before the forwarded frame does. -/
theorem test_free_slot :
    after .dataFrameTaken claimedSlot (fun t => decide (t.hub = claimedSlot.hub ∧ t.board.rx.length = 1)) = true ∧
    after (.internalFrameTakesSlot .hub) claimedSlot (fun t =>
      decide (t.hub.tx.length = 8 ∧ t.hub.tx.getLast? = some (noticeFrame 3) ∧ t.board.rx.length = 1)) = true := by
  decide

/-- Section 10.6: a RAIL write in TRANSIT is answered BUSY. -/
theorem test_write_busy_in_transit :
    after .writeTableRail (withFrame .hub (request (3 :: 1 :: 4 :: encodeRail blankRail)) (inStep .waitGood)) (fun t =>
      decide (t.agent.map (fun a => a.response.payload) = some [3, 2])) = true := by decide
/-- Section 10.6: in WORKING the same write is BUSY while the rail is GOOD, and a parent of 6 is RANGE. -/
theorem test_write_busy_while_good :
    after .writeTableRail
      (withFrame .hub (request (3 :: 1 :: 4 :: encodeRail blankRail)) (withRail .pgline .good 0)) (fun t =>
        decide (t.agent.map (fun a => a.response.payload) = some [3, 2])) = true ∧
    after .writeTableRail
      (withFrame .hub (request (3 :: 1 :: 4 :: encodeRail { blankRail with parent := { present := true, value := 6 } }))
        (withRail .pgline .good 0)) (fun t =>
        decide (t.agent.map (fun a => a.response.payload) = some [3, 3])) = true := by decide

/-- R163, R136, R138: an all-ones header, and the largest count and one more. -/
theorem test_image_header :
    after (.imageHeaderRead 0xFF 0xFF 0xFF) State.reset (fun t => t.loader.imageBad) = true ∧
      after (.imageHeaderRead 0xE6 0x90 0x01) State.reset (fun t => decide (t.loader.phase = .records 400)) = true ∧
      after (.imageHeaderRead 0xE6 0x91 0x01) State.reset (fun t => t.loader.imageBad) = true := by decide

/-- R129: the tick counter wraps to 0. -/
theorem test_tick_wraps :
    after (.tickBoundary lowLines) (atTick 0xFFFFFFFF (atLevel .working)) (fun t => decide (t.clock.tick = 0)) = true := by
  decide

/-- R143: a frame of 18 bytes is taken, and one of 19 is MALFORMED. -/
theorem test_frame_arrival :
    after (.frameArrival .hub (frameBytes { kind := .data, route := false, bit6 := false, tag := 3, payload := List.replicate 15 0 }) false)
      ((atLevel .working).setHub { idleLink with receiving := some true }) (fun t => decide (t.hub.rx.length = 1)) = true ∧
    after (.frameArrival .hub (List.replicate 19 0) false)
      ((atLevel .working).setHub { idleLink with receiving := some true })
      (fun t => decide (t.hub.rx = [] ∧ t.hub.counters.malformed = 1)) = true := by decide +kernel

/-- R160: the status record right after the load, its slot bits apart. -/
theorem test_read_status :
    (statusRecord (atLevel .softOff)).length = 13 ∧ (statusRecord (atLevel .softOff)).getD 0 0 = 4 ∧
      (statusRecord (atLevel .softOff)).getD 5 0 = 0x10 := by decide

/-- R158: in WORKING, HALT is answered BAD_STATE. -/
theorem test_halt_in_working :
    after .halt (withFrame .hub (request [4, 1]) (atLevel .working)) (fun t =>
      decide (t.agent.map (fun a => a.response.payload) = some [4, 6])) = true := by decide

/-! ## States and operands that meet the hypotheses of the statements -/

theorem witness_NothingActsWithoutPower : (State.reset.setPowered false).powered = false := by decide

/-- The image load with `n` records to read. -/
def loading (n : Nat) : State := State.reset.setLoader { State.reset.loader with phase := .records n }

theorem witness_HeaderRead :
    AtRest State.reset ∧ State.reset.loader.phase = .header ∧
      (0x90 : Byte).toNat + 256 * (0x01 : Byte).toNat ≤ 400 ∧ 400 < (0x91 : Byte).toNat + 256 * (0x01 : Byte).toNat := by
  decide
theorem witness_RecordRead_tables :
    AtRest (loading 1) ∧ (loading 1).loader.phase = .records (0 + 1) ∧ (0 : Byte).toNat = 0 ∧ 6 < (7 : Byte).toNat ∧
      tableOf (1 : Byte).toNat = some .rail ∧ tableOf (6 : Byte).toNat = some .policy := by decide
/-- The bytes of a rail record with fields to clamp. -/
def clampedRail : List Byte := [1, 0, 0x52, 0x88, 0x13, 0xE4, 0x0C, 3, 2, 0x58, 0x02]
theorem witness_RecordRead_records :
    indexOk .rail 16 = false ∧ checkRecord (loading 1) .wakesrc 13 [0, 4] = none ∧ indexOk .wakesrc 13 = true ∧
      (checkRecord (loading 1) .wakesrc 13 [15, 3]).map Checked.clamped = some false ∧
      (checkRecord (loading 1) .rail 11 clampedRail).map Checked.clamped = some true := by decide

/-- The last record read, the CRC as the trailer gives it, and a restore policy. -/
def loaded (r : Restore) : State :=
  (loading 0).setPsc { (loading 0).psc with policy0 := { blankPolicy0 with restore := r } }
theorem witness_LoadEnds_settles :
    AtRest (loaded .stayOff) ∧ (loaded .stayOff).loader.phase = .records 0 ∧
      (loaded .stayOff).loader.crc = (0xFF : Byte) ++ (0xFF : Byte) ∧ (loaded .stayOff).psc.policy0.restore = .stayOff ∧
      (loaded .stayOff).loader.crc ≠ (0xFF : Byte) ++ (0xFE : Byte) := by decide
theorem witness_LoadEnds_bad :
    let s := State.reset.setLoader { State.reset.loader with phase := .bad }
    AtRest s ∧ s.loader.phase = .bad ∧ s.psc.policy0.restore = .stayOff := by decide
theorem witness_LoadEnds_powers_on :
    let s := loaded .powerOn
    AtRest s ∧ s.loader.phase = .records 0 ∧ s.loader.crc = (0xFF : Byte) ++ (0xFF : Byte) ∧
      s.psc.policy0.restore = .powerOn ∧ s.wake.queue = [] ∧ s.hub = idleLink ∧ s.wire.kept = none ∧
      s.eng.wait = .none := by decide
theorem witness_LoadEnds_invariant : PscInv (loaded .powerOn) := by
  refine ⟨by decide, ?_, by decide, by decide, by decide⟩
  show Settled (loaded .powerOn) ∧ _
  decide
theorem witness_LoadEnds_last_state :
    (loaded .lastState).psc.policy0.restore = .lastState ∧ (loaded .lastState).psc.restoreOn = false ∧
      AtRest (loaded .lastState) ∧ (loaded .lastState).loader.crc = (0xFF : Byte) ++ (0xFF : Byte) := by decide
/-- R22: at standby power-up LAST_STATE acts as STAY_OFF. -/
theorem test_last_state_stays_off :
    after (.endOfTheLoad 0xFF 0xFF lowLines) (loaded .lastState) (fun t =>
      decide (t.psc.state = .softOff ∧ t.wake.queue = [] ∧ t.hub.tx = [])) = true := by decide
/-- R163: the command bytes stand as sent once the header has been read. -/
theorem test_read_command :
    after (.imageHeaderRead 0xE6 0 0) State.reset (fun t => decide (t.loader.sent = [3, 0, 0])) = true := by decide

theorem witness_TickBoundaryCounts :
    (AtRest State.reset ∧ PassTaken State.reset) ∧ AtRest (atLevel .working) ∧ PassTaken (atLevel .working) := by decide
/-- A pass that has begun with the sample of slot 4 still owed. -/
def halfPass : State :=
  latePass.setBoundary { latePass.boundary with scanned := poke latePass.boundary.scanned 4 true }
theorem witness_TickBoundaryCounts_pass :
    (AtRest halfPass ∧ halfPass.boundary.passBegun = true) ∧
      ∃ t, exec (.scanPass ((List.finRange 16).filter fun n => peek halfPass.boundary.scanned n)) halfPass = .next t :=
  ⟨by decide, _, rfl⟩
/-- R71: the sample that a begun pass still owes is taken before the next boundary. -/
theorem test_pass_is_finished :
    after (.tickBoundary lowLines) halfPass (fun t =>
      decide ((peek t.rails.stat 4).verdict = .good ∧ t.clock.tick = 1)) = true := by decide +kernel

/-- WORKING under the standby oscillator, the window of 16 ticks from tick 0 at its end. -/
def looping (l : LoopState) (good : Nat) (locked : Bool) : State :=
  let c := (atLevel .working).clock
  (atLevel .working).setClock
    { c with tick := 16, source := .so, lossArmed := true, loop := l, good := good, locked := locked,
             window := some 0, mode := if locked then .fastLoop else .fastRc }
theorem witness_OscillatorChanges_loss :
    let s := looping .tracking 4 true
    AtRest s ∧ ClockInv s.clock ∧ s.psc.state ≠ .loading ∧ PassTaken s ∧ s.clock.source = .so ∧ s.clock.lossArmed = true ∧
      1952 ≤ 1952 := by decide
theorem witness_OscillatorChanges_return :
    AtRest (atLevel .working) ∧ (atLevel .working).psc.state ≠ .loading ∧ PassTaken (atLevel .working) ∧
      (atLevel .working).clock.source = .rc ∧
      ∀ p ∈ [439, 537, 488, 439], 439 ≤ p ∧ p ≤ 537 := by decide

/-- What LOOP_WINDOW_END starts from, and the error of a count. -/
abbrev LoopStart (s : State) (count e : Nat) : Prop :=
  AtRest s ∧ ClockInv s.clock ∧ waitsIn s .clockUp = false ∧ s.clock.loop ≠ .off ∧ s.clock.source = .so ∧
    s.clock.window = some 0 ∧ (s.clock.tick - 0).toNat = 16 ∧ ((count : Int) - 8192).natAbs = e
theorem witness_LoopWindow_acquiring :
    LoopStart (looping .acquiring 0 false) 8355 163 ∧ LoopStart (looping .acquiring 0 false) 8028 164 := by
  decide
theorem witness_LoopWindow_tracking :
    LoopStart (looping .tracking 2 false) 8232 40 ∧ LoopStart (looping .tracking 3 false) 8152 40 ∧
      LoopStart (looping .tracking 3 false) 8233 41 ∧ LoopStart (looping .tracking 4 true) 8355 163 ∧
      LoopStart (looping .tracking 4 true) 8028 164 ∧ LoopStart (looping .tracking 0 false) 8356 164 := by
  refine ⟨?_, ?_, ?_, ?_, ?_, ?_⟩ <;> decide

theorem witness_BandClasses : (50 : Nat) ≤ 50 ∧ (5 : Nat) ≤ 250 ∧ (250 : Nat) ≤ 250 := by decide

/-- Fields below and above their ranges, one by one (R81). -/
def lowBands : Bands := { gain := 255, nominal := 99, tolGood := 4, tolFail := 4, drain := 9 }
def highBands : Bands := { gain := 4097, nominal := 19001, tolGood := 201, tolFail := 251, drain := 501 }
theorem witness_RailArithmetic_ends :
    (lowBands.gain < 256 ∧ lowBands.nominal < 100 ∧ lowBands.tolGood < 5 ∧
        lowBands.tolFail < (clampBands lowBands).tolGood ∧ lowBands.drain < 10) ∧
      4096 < highBands.gain ∧ 19000 < highBands.nominal ∧ 200 < highBands.tolGood ∧ 250 < highBands.tolFail ∧
        500 < highBands.drain := by decide
theorem witness_RailArithmetic :
    1199 ≤ 1199 ∧ (256 ≤ dram.gain ∧ dram.gain ≤ 4096) ∧ (256 ≤ 4096 ∧ 4096 ≤ 4096) ∧ (100 ≤ dram.nominal ∧ dram.nominal ≤ 19000) ∧
      (5 ≤ dram.tolGood ∧ dram.tolGood ≤ 200) ∧ ((clampBands dram).tolGood ≤ dram.tolFail ∧ dram.tolFail ≤ 250) ∧
      (10 ≤ dram.drain ∧ dram.drain ≤ 500) := by decide

theorem witness_ScanMonitored_rising :
    let s (mV : Nat) := withRail (.monitored dram) .rising mV
    (∀ mV ∈ [1000, 1182, 1650], Sampled (s mV) 4 (railOf (.monitored dram)) dram .rising) ∧
      (bandClass dram (codeAt (s 1000) (railOf (.monitored dram))) ≠ .inGood ∧
        isOver dram (codeAt (s 1000) (railOf (.monitored dram))) = false) ∧
      (bandClass dram (codeAt (s 1182) (railOf (.monitored dram))) = .inGood ∧
        (peek (s 1182).rails.stat 4).inCount + 1 = 3 ∧ channelRuns (s 1182) = false) ∧
      isOver dram (codeAt (s 1650) (railOf (.monitored dram))) = true ∧
        (peek (s 1650).rails.stat 4).overCount + 1 = 3 := by decide
theorem witness_ScanMonitored_good :
    let s (mV : Nat) := withRail (.monitored dram) .good mV
    (∀ mV ∈ [1000, 1182], Sampled (s mV) 4 (railOf (.monitored dram)) dram .good) ∧
      bandClass dram (codeAt (s 1000) (railOf (.monitored dram))) = .outFail ∧
      bandClass dram (codeAt (s 1182) (railOf (.monitored dram))) = .inGood ∧
      (peek (s 1000).rails.stat 4).outCount + 1 = 3 ∧ channelRuns (s 1000) = false := by decide
theorem witness_ScanMonitored_draining :
    let s (mV : Nat) := withRail (.monitored dram) .draining mV
    (∀ mV ∈ [119, 121], Sampled (s mV) 4 (railOf (.monitored dram)) dram .draining) ∧
      belowDrain dram (codeAt (s 119) (railOf (.monitored dram))) = true ∧
      belowDrain dram (codeAt (s 121) (railOf (.monitored dram))) = false ∧
      (peek (s 119).rails.stat 4).lowCount + 1 = 3 ∧ channelRuns (s 119) = false := by decide
/-- The same with the rail critical and every urgent list beginning with a DELAY at index 0. -/
def critical (x : Sense) (v : Verdict) (mV : Nat) : State :=
  let s := withLists (withRail x v mV)
  s.setRails { s.rails with table := poke s.rails.table 4 { railOf x with critical := true } }
/-- The Urgent channel waits in a step of kind `k` on slot 4, and a first fault stands. -/
def urgentWait (k : StepKind) (s : State) : State :=
  ((s.setPsc { s.psc with state := .urgent, target := .softOff, gateClosed := true }).setEng
    { s.eng with urg := { s.eng.urg with running := true, kind := some .fault }, cur := { delay3 with kind := k, opA := 4 },
                 wait := .step }).setFault
    { first := some { cause := .trip, subject := 3, psc := .working, level := .working, tick := 9 },
      further := 0, urgentFails := 0 }
/-- The Normal channel waits in a step of kind `k` on slot 4, as in `inStep`. -/
def stepping (k : StepKind) (s : State) : State :=
  (s.setPsc (inStep k).psc).setEng { (inStep k).eng with cur := { (inStep k).eng.cur with opA := 4 } }
theorem witness_ScanMonitored_critical :
    let x := Sense.monitored dram
    let r := { railOf x with critical := true }
    let s := critical x .rising 1650
    let u := critical x .good 1000
    (Sampled s 4 r dram .rising ∧ FaultListReady s ∧ isOver dram (codeAt s r) = true ∧
        bandClass dram (codeAt s r) ≠ .inGood ∧ (peek s.rails.stat 4).overCount + 1 = 3) ∧
      Sampled u 4 r dram .good ∧ FaultListReady u ∧ bandClass dram (codeAt u r) = .outFail ∧
        (peek u.rails.stat 4).outCount + 1 = 3 := by decide
theorem witness_ScanMonitored_critical_urgent :
    let x := Sense.monitored dram
    let s := urgentWait .waitGood (critical x .rising 1650)
    Sampled s 4 { railOf x with critical := true } dram .rising ∧ UrgentIn s .waitGood ∧ slotOf s.eng.cur = 4 ∧
      s.fault.first.isSome = true := by decide
theorem witness_ScanMonitored_waits :
    let x := Sense.monitored dram
    let s (mV : Nat) := stepping .waitGood (withRail x .rising mV)
    let u := stepping .waitOff (withRail x .draining 0)
    (∀ mV ∈ [1182, 1650], slotOf (s mV).eng.cur = 4 ∧ Sampled (s mV) 4 (railOf x) dram .rising ∧
        SteppingIn (s mV) .waitGood ∧ (s mV).eng.cur.action = .goOn) ∧
      slotOf u.eng.cur = 4 ∧ Sampled u 4 (railOf x) dram .draining ∧ SteppingIn u .waitOff ∧
        belowDrain dram (codeAt u (railOf x)) = true ∧ (peek u.rails.stat 4).lowCount + 1 = 3 := by decide
/-- A DELAY waits while the sample of slot 4 moves its verdict. -/
theorem witness_ScanMonitored_not_awaited :
    let s := stepping .delay (withRail (.monitored dram) .rising 1182)
    Sampled s 4 (railOf (.monitored dram)) dram .rising ∧ channelRuns s = true ∧ s.eng.wait = .step ∧ NotAwaited s 4 := by
  decide
theorem witness_ScanMonitored_slots :
    let s := atLevel .working
    let u := s.setClock { s.clock with mode := .slow, loop := .off, tick := 31 }
    (AtRest s ∧ s.clock.mode ≠ .slow) ∧ (AtRest u ∧ ¬PassHere u ∧ PassHere (u.setClock { u.clock with tick := 32 })) ∧
      (AtRest latePass ∧ latePass.boundary.passBegun = true) ∧
      (∀ v ∈ [Verdict.off, .lost], AtRest (withRail .pgline v 0) ∧ PassHere (withRail .pgline v 0)) ∧
      peek s.boundary.rail 4 = false := by decide
/-- The critical rail of slot 4 at its third sample out of band, and in slot 5 a LOST rail of filter `f` with the same
voltage at its pin, with no FAULT list. -/
def shutting (f : Fin 16) (mV : Nat) : State :=
  let s := critical (.monitored dram) .good mV
  (((s.setRails
    { s.rails with
      table := poke s.rails.table 5 { railOf (.monitored dram) with filter := f },
      stat := poke s.rails.stat 5 { resetStat with verdict := .lost, en := .asserted, lost := 1 } }).setPsc
    { s.psc with policy1 := { s.psc.policy1 with fault := { present := false, value := 0 } } }).setBoundary
    { s.boundary with rail := Vector.replicate 16 true })
theorem witness_ScanMonitored_shutdown :
    ∀ x ∈ [((1 : Fin 16), 119), (3, 119), (0, 1000)],
      let s := shutting x.1 x.2
      let r := { railOf (.monitored dram) with critical := true }
      let y := { railOf (.monitored dram) with filter := x.1 }
      Sampled s 4 r dram .good ∧ Sampled s 5 y dram .lost ∧ r.critical = true ∧ (peek s.rails.stat 5).en = .asserted ∧
        s.eng.urg.running = false ∧ s.psc.policy1.fault.present = false ∧ bandClass dram (codeAt s r) = .outFail ∧
        max 1 r.filter.val ≤ (peek s.rails.stat 4).outCount + 1 ∧ belowDrain dram (codeAt s y) = decide (x.2 = 119) := by
  decide
/-- R86: sampled after the shutdown that another rail of the pass caused, the LOST rail counts as DRAINING; before it,
it takes no sample. -/
theorem test_shutdown_in_pass :
    after (.scanPass [4, 5]) (shutting 3 119) (fun t =>
      decide ((peek t.rails.stat 5).verdict = .draining ∧ (peek t.rails.stat 5).lowCount = 1)) = true ∧
    after (.scanPass [5, 4]) (shutting 3 119) (fun t =>
      decide ((peek t.rails.stat 5).verdict = .draining ∧ (peek t.rails.stat 5).lowCount = 0)) = true := by
  decide +kernel
theorem witness_ScanPowerGood_hands_on :
    let s := stepping .waitGood (withRail .pgline .rising 1)
    let u := stepping .waitOff (withRail .pgline .draining 0)
    (SteppingIn s .waitGood ∧ slotOf s.eng.cur = 4 ∧ s.pins.now.pg.getLsbD 2 = true ∧
        (peek s.rails.stat 4).verdict = .rising ∧ (peek s.rails.stat 4).inCount + 1 = 3) ∧
      SteppingIn u .waitOff ∧ slotOf u.eng.cur = 4 ∧ u.pins.now.pg.getLsbD 2 = false ∧
        (peek u.rails.stat 4).verdict = .draining ∧ (peek u.rails.stat 4).lowCount + 1 = 3 := by decide
theorem witness_ScanPowerGood_critical :
    let s := critical .pgline .good 0
    let u := urgentWait .waitGood s
    (AtRest s ∧ peek s.boundary.rail 4 = true ∧ (peek s.rails.table 4).critical = true ∧
        (peek s.rails.table 4).present = true ∧ s.pins.now.pg.getLsbD 2 = false ∧
        (peek s.rails.stat 4).outCount + 1 = 3 ∧ FaultListReady s) ∧
      UrgentIn u .waitGood ∧ slotOf u.eng.cur = 4 ∧ u.fault.first.isSome = true ∧
        (peek u.rails.stat 4).verdict = .good := by decide
theorem witness_ScanPowerGood :
    ∀ v ∈ [Verdict.rising, .good, .draining, .off, .lost], ∀ mV ∈ [0, 1],
      let s := withRail .pgline v mV
      AtRest s ∧ PassHere s ∧ peek s.boundary.rail 4 = true ∧
        peek s.rails.table 4 = railOf .pgline ∧ (railOf .pgline).present = true ∧ (railOf .pgline).sense = .pgline ∧
        (railOf .pgline).line.val < 8 ∧ (peek s.rails.stat 4).verdict = v ∧ channelRuns s = false ∧
        s.pins.now.pg.getLsbD 2 = decide (mV = 1) ∧ max 1 (railOf .pgline).filter.val = 3 := by decide

/-- A NONE rail in slot 4 with settle time 2 and drain time 3, its timer from tick 0. -/
def timedRail (v : Verdict) (s : State) : State :=
  s.setRails
    { s.rails with
      table := poke s.rails.table 4 (railOf (.timed { value := 2, unit := .t1 } { value := 3, unit := .t1 })),
      stat := poke s.rails.stat 4 { resetStat with verdict := v, timer := some 0 } }
theorem witness_NoneRailTimers :
    let s := atTick 2 (timedRail .rising (atLevel .working))
    let u := atTick 3 (timedRail .draining (atLevel .working))
    (AtRest s ∧ channelRuns s = false ∧ (peek s.rails.stat 4).timer = some 0 ∧
        (peek s.rails.table 4).sense = .timed { value := 2, unit := .t1 } { value := 3, unit := .t1 } ∧
        (peek s.rails.stat 4).verdict = .rising ∧ (s.clock.tick - 0).toNat = 2 * unitTicks .t1) ∧
      AtRest u ∧ channelRuns u = false ∧ (peek u.rails.stat 4).timer = some 0 ∧
        (peek u.rails.table 4).sense = .timed { value := 2, unit := .t1 } { value := 3, unit := .t1 } ∧
        (peek u.rails.stat 4).verdict = .draining ∧ (u.clock.tick - 0).toNat = 3 * unitTicks .t1 := by decide

/-- The step record of operand 4, and a PGLINE rail in slot 4 whose parent 3 is OFF or whose child 5 is asserted. -/
def slot4 : StepRec := { blankStep with opA := 4 }
def withParent : State :=
  let s := withRail .pgline .off 0
  s.setRails { s.rails with table := poke s.rails.table 4 { railOf .pgline with parent := { present := true, value := 3 } } }
def withChild : State :=
  let s := withRail .pgline .good 0
  s.setRails { s.rails with
    table := poke s.rails.table 5 { railOf .pgline with parent := { present := true, value := 4 } },
    stat := poke s.rails.stat 5 { resetStat with verdict := .good, en := .asserted } }
theorem witness_RailSteps_checks :
    (atLevel .working).eng.wait = .none ∧ (peek (withRail .pgline .off 0).rails.table 5).present = false ∧
      parentGood withParent (slotOf slot4) = false ∧ (peek withParent.rails.table (slotOf slot4)).present = true ∧
      childAsserted withChild (slotOf slot4) = true ∧ (peek withChild.rails.table (slotOf slot4)).present = true := by
  decide
theorem witness_RailSteps_not_timed (v : Verdict) (t d : TimeField) :
    (peek (withRail .pgline v 0).rails.table (slotOf slot4)).sense ≠ .timed t d := by
  have h : (peek (withRail .pgline v 0).rails.table (slotOf slot4)).sense = .pgline := by cases v <;> decide
  simp [h]
theorem witness_RailSteps_verdicts :
    ∀ v ∈ [Verdict.off, .draining, .rising, .good, .lost],
      let s := withRail .pgline v 0
      s.eng.wait = .none ∧ (peek s.rails.table (slotOf slot4)).present = true ∧ parentGood s (slotOf slot4) = true ∧
        childAsserted s (slotOf slot4) = false ∧ (peek s.rails.stat (slotOf slot4)).verdict = v := by decide

/-- A NONE rail in slot 4 with a settle and a drain time. -/
def timedAt (a d : Fin 4096) (v : Verdict) : State :=
  let s := atLevel .working
  s.setRails
    { s.rails with
      table := poke s.rails.table 4 (railOf (.timed { value := a, unit := .t1 } { value := d, unit := .t1 })),
      stat := poke s.rails.stat 4 { resetStat with verdict := v, en := .deasserted } }
theorem witness_RailSteps_timed :
    ∀ v ∈ [Verdict.off, .draining, .rising, .good, .lost],
      let s := timedAt 2 0 v
      s.eng.wait = .none ∧ (peek s.rails.table (slotOf slot4)).sense = .timed { value := 2, unit := .t1 } { value := 0, unit := .t1 } ∧
        (peek s.rails.table (slotOf slot4)).present = true ∧ parentGood s (slotOf slot4) = true ∧
        childAsserted s (slotOf slot4) = false ∧ (peek s.rails.stat (slotOf slot4)).verdict = v := by decide
/-- R65: a settle time of 0 takes the rail to GOOD in the event of its RAIL_ON. -/
theorem test_settle_of_zero :
    (peek (beginRailOn slot4 (timedAt 0 0 .off)).rails.stat 4).verdict = .good ∧
      (peek (beginRailOn slot4 (timedAt 0 0 .off)).rails.stat 4).en = .asserted := by decide

/-- A state whose Urgent channel runs a list of a kind. -/
def inUrgent (k : UrgKind) : State :=
  let s := withLists (atLevel .working)
  (s.setPsc { s.psc with state := .urgent, target := .softOff, gateClosed := true }).setEng
    { s.eng with urg := { s.eng.urg with running := true, kind := some k }, cur := delay3, wait := .step,
                 inflight := { emptyReport with isOpen := true, origin := .urgent k, toLevel := .softOff } }
/-- A Fault Record with a first fault and 254 further ones. -/
def faulted : State :=
  State.reset.setFault
    { first := some { cause := .trip, subject := 3, psc := .working, level := .working, tick := 9 },
      further := 254, urgentFails := 0 }
theorem witness_FaultTriggerRecords :
    State.reset.fault.first = none ∧ faulted.fault.first.isSome = true ∧ (inUrgent .fault).eng.urg.running = true ∧
      State.reset.eng.urg.running = false := by decide
theorem witness_UrgentStart :
    (inStep .delay).eng.urg.running = false ∧ (inStep .delay).eng.norm.st ≠ .idle ∧
      (atLevel .suspend).eng.urg.running = false ∧ (atLevel .suspend).eng.norm.st = .idle ∧
      (urgentStartOf (withLists (atLevel .suspend)).psc.policy1 .fault).present = true ∧
      (urgentStartOf (atLevel .suspend).psc.policy1 .fault).present = false ∧
      (peek (withRail .pgline .good 0).rails.stat 4).en = .asserted ∧
      (peek (withRail .pgline .good 0).rails.stat 5).en ≠ .asserted := by decide

/-- An off-notice wire W63 in Policy, the gate open or closed. -/
def withNotice (closed : Bool) (s : State) : State :=
  s.setPsc { s.psc with gateClosed := closed, policy0 := { blankPolicy0 with offNotice := { present := true, value := 63 } } }
theorem witness_UrgentStart_notice :
    ∀ s ∈ [withNotice false (atLevel .suspend), withNotice true (atLevel .suspend)],
      s.eng.urg.running = false ∧ s.hub.waiting = [] ∧ s.board.waiting = [] ∧ s.wire.queue = [] ∧ s.wire.kept = none ∧
        s.psc.policy0.offNotice.present = true := by decide
/-- R19, R125: the gate's closing sends W63 at 1, and its opening W63 at 0. -/
theorem test_off_notice :
    (urgentStart .fault (withNotice false (atLevel .working))).hub.tx.map Frame.payload = [[0x7F]] ∧
      (requestEvent .softOff (withNotice true (atLevel .softOff))).hub.tx.map Frame.payload = [[0x3F]] := by
  decide +kernel

/-- The override hold timer of 8 ticks at its end. -/
def overrideDue (s : State) : State :=
  atTick 8 (s.setWake { s.wake with overrideT := some { start := 0, duration := 8 } })
theorem witness_OverrideExpiry_ignored :
    ∀ s ∈ [State.reset, atLevel .hibernate, atLevel .softOff, inUrgent .override, inUrgent .powerfail],
      AtRest (overrideDue s) ∧ (overrideDue s).wake.overrideT = some { start := 0, duration := 8 } ∧
        ((overrideDue s).clock.tick - 0).toNat = 8 ∧
        ((overrideDue s).psc.state = .softOff ∨ (overrideDue s).psc.state = .hibernate ∨
          (overrideDue s).psc.state = .loading ∨ (overrideDue s).psc.state = .urgent ∧ s.eng.urg.running = true ∧
            (s.eng.urg.kind = some .override ∨ s.eng.urg.kind = some .powerfail)) := by decide
theorem witness_OverrideExpiry_starts :
    ∀ s ∈ [atLevel .working, atLevel .suspend, inStep .delay],
      let s := overrideDue (withLists s)
      AtRest s ∧ s.wake.overrideT = some { start := 0, duration := 8 } ∧ (s.clock.tick - 0).toNat = 8 ∧
        s.eng.urg.running = false ∧
        (s.psc.state = .working ∨ s.psc.state = .suspend ∨ s.psc.state = .transit) ∧
        s.psc.policy1.override.present = true ∧ LongDelay (peek s.eng.steps s.psc.policy1.override.value) := by
  decide

theorem witness_OverrideExpiry_preempts :
    let s := overrideDue (inUrgent .fault)
    AtRest s ∧ s.wake.overrideT = some { start := 0, duration := 8 } ∧ (s.clock.tick - 0).toNat = 8 ∧
      s.psc.state = .urgent ∧ s.psc.target = .softOff ∧ s.psc.gateClosed = true ∧ s.eng.urg.running = true ∧
      s.eng.urg.kind = some .fault ∧ s.psc.policy1.override.present = true ∧
      LongDelay (peek s.eng.steps s.psc.policy1.override.value) := by decide

/-- The AC-fail detector in a state, its sample due, PFAIL low or high; the filter width is 4. -/
def pfailAt (active high : Bool) (n : Nat) (s : State) : State :=
  ((s.setWake { s.wake with pfail := { active := active, count := n } }).setBoundary
    { quietBoundary with pfail := true }).setPins { s.pins with now := { lowLines with pfail := high } }
theorem witness_PfailSamples :
    ∀ s ∈ [pfailAt false true 0 (atLevel .working), pfailAt false false 2 (atLevel .working),
        pfailAt false false 3 (withLists (atLevel .working)), pfailAt true true 3 (inUrgent .powerfail),
        pfailAt true true 3 (atLevel .softOff)],
      AtRest s ∧ s.psc.state ≠ .loading ∧ s.boundary.pfail = true ∧ max 1 s.psc.policy0.pfailWidth.val = 4 ∧
        s.psc.policy0.restore = .stayOff := by decide
theorem witness_PfailSamples_loss :
    let s := pfailAt false false 3 (withLists (atLevel .working))
    s.wake.pfail.active = false ∧ (!s.pins.now.pfail) = true ∧ 4 ≤ s.wake.pfail.count + 1 ∧ s.eng.urg.running = false ∧
      s.psc.policy1.powerfail.present = true ∧ LongDelay (peek s.eng.steps s.psc.policy1.powerfail.value) := by
  decide
theorem witness_PfailSamples_restore :
    let s := pfailAt true true 3 (inUrgent .powerfail)
    s.wake.pfail.active = true ∧ (!s.pins.now.pfail) = false ∧ 4 ≤ s.wake.pfail.count + 1 ∧
      s.eng.urg.running = true ∧ s.eng.urg.kind = some .powerfail ∧ (atLevel .softOff).eng.urg.running = false := by
  decide

theorem witness_PfailSamples_urgent :
    ∀ k ∈ [UrgKind.fault, .override, .powerfail], ∀ b ∈ [false, true],
      let s := pfailAt b b 3 (inUrgent k)
      AtRest s ∧ s.boundary.pfail = true ∧ s.psc.state = .urgent ∧ s.psc.target = .softOff ∧ s.psc.gateClosed = true ∧
        s.eng.urg.running = true ∧ s.eng.urg.kind = some k ∧ max 1 s.psc.policy0.pfailWidth.val ≤ s.wake.pfail.count + 1 ∧
        s.wake.pfail.active = b ∧ (!s.pins.now.pfail) = !b ∧ s.psc.policy1.powerfail.present = true ∧
        LongDelay (peek s.eng.steps s.psc.policy1.powerfail.value) ∧ s.psc.policy0.restore = .stayOff := by decide

/-- A line detector of filter width 2 and mode RISE, its sample due, its line high or low. -/
def lineAt (src : Fin 9) (active high : Bool) (n : Nat) (s : State) : State :=
  ((s.setWake { s.wake with
      table := poke s.wake.table (lineSource src) { mask := 0, mode := .rise, width := 2 },
      det := poke s.wake.det src { active := active, count := n } }).setBoundary
    { quietBoundary with det := poke quietBoundary.det src true }).setPins
    { s.pins with now := { lowLines with ins := if high then 255 else 0, pwrbtn := high } }
theorem witness_DetectorCounts :
    ∀ s ∈ [lineAt 7 true true 1 (atLevel .working), lineAt 7 false true 0 (atLevel .working),
        lineAt 7 true false 1 (atLevel .working)],
      AtRest s ∧ s.psc.state ≠ .loading ∧ peek s.boundary.det 7 = true ∧
        max 1 (peek s.wake.table (lineSource 7)).width.val = 2 := by decide
theorem witness_DetectorCounts_inactive :
    let s := lineAt 8 true false 1 (atLevel .working)
    AtRest s ∧ s.psc.state ≠ .loading ∧ peek s.boundary.det 8 = true ∧ (peek s.wake.det 8).active = true ∧
      lineLevel s.pins.now 8 = false ∧ max 1 (peek s.wake.table (lineSource 8)).width.val ≤ (peek s.wake.det 8).count + 1 := by
  decide
theorem witness_DetectorFires :
    let s := lineAt 7 false true 1 (atLevel .suspend)
    AtRest s ∧ s.psc.state ≠ .loading ∧ peek s.boundary.det 7 = true ∧ HubOpen s ∧ (7 : Fin 9).val < 8 ∧
      s.psc.policy0.trip.present = false ∧ (peek s.wake.det 7).active = false ∧
      lineLevel s.pins.now 7 = activeHigh (peek s.wake.table (lineSource 7)).mode ∧
      max 1 (peek s.wake.table (lineSource 7)).width.val ≤ (peek s.wake.det 7).count + 1 := by decide
/-- A state whose Hub Port has a full transmit queue and `n` notices waiting. -/
def crowded (n : Nat) (s : State) : State :=
  s.setHub { s.hub with tx := List.replicate 8 (noticeFrame 0), waiting := List.replicate n (.notice 1) }
theorem witness_DetectorFires_notices :
    ∀ s ∈ [crowded 15 (atLevel .suspend), crowded 16 (atLevel .suspend), (atLevel .suspend).setLrst true],
      SlotsOffered s ∧ AtRest s := by decide
/-- R146: the notice due while 16 wait is lost, and under LRST none is created (R107). -/
theorem test_notices :
    (noticed 7 (crowded 16 (atLevel .suspend))).hub.counters.noticeLost = 1 ∧
      (noticed 7 (crowded 15 (atLevel .suspend))).hub.waiting.length = 16 ∧
      (noticed 7 ((atLevel .suspend).setLrst true)).hub = idleLink := by decide
theorem witness_ButtonPress :
    let s := lineAt 8 false true 1 (atLevel .working)
    AtRest s ∧ s.psc.state = .working ∧ peek s.boundary.det 8 = true ∧ (peek s.wake.table 8).mask = 0 ∧
      s.wake.overrideT = none ∧ s.psc.policy0.overrideFor.value ≠ 0 ∧ (peek s.wake.det 8).active = false ∧
      s.pins.now.pwrbtn = activeHigh (peek s.wake.table 8).mode ∧
      max 1 (peek s.wake.table 8).width.val ≤ (peek s.wake.det 8).count + 1 := by decide
/-- SUSPEND with the latch set, the entry to WORKING present or not, beginning with a DELAY. -/
def latchedAt (there : Bool) : State :=
  let s := withLists (atLevel .suspend)
  s.setPsc { s.psc with latch := true, trans := poke s.psc.trans 4 { blankTrans with present := there } }
theorem witness_ButtonPress_retries :
    ∀ b ∈ [false, true],
      let s := lineAt 8 false true 1 (latchedAt b)
      AtRest s ∧ s.psc.state = levelState .suspend ∧ Level.suspend ≠ .working ∧ peek s.boundary.det 8 = true ∧
        s.eng.urg.running = false ∧ (peek s.wake.table 8).mask = 0 ∧ s.wake.overrideT = none ∧
        s.psc.policy0.overrideFor.value ≠ 0 ∧ (peek s.wake.det 8).active = false ∧
        s.pins.now.pwrbtn = activeHigh (peek s.wake.table 8).mode ∧
        max 1 (peek s.wake.table 8).width.val ≤ (peek s.wake.det 8).count + 1 ∧ s.psc.latch = true ∧
        s.psc.gateClosed = false ∧ requested s = .working := by decide
theorem witness_ButtonPress_entries :
    EntryDelays (lineAt 8 false true 1 (latchedAt true)) .suspend .working ∧
      (peek (lineAt 8 false true 1 (latchedAt false)).psc.trans (entryIndex .suspend .working)).present = false ∧
      (withNotice true (latchedAt true)).psc.gateClosed = true := by decide
/-- The trip line is IN7. -/
def tripAt7 : State :=
  let s := withLists (lineAt 7 false true 1 (atLevel .working))
  s.setPsc { s.psc with policy0 := { blankPolicy0 with trip := { present := true, value := 7 } } }
theorem witness_TripStartsFault :
    let s := tripAt7
    AtRest s ∧ s.psc.state ≠ .loading ∧ peek s.boundary.det 7 = true ∧ s.eng.urg.running = false ∧
      s.psc.policy0.trip.present = true ∧ s.psc.policy0.trip.value.val = 7 ∧
      (peek s.wake.table (lineSource 7)).mask = 0 ∧ s.fault.first = none ∧ (peek s.wake.det 7).active = false ∧
      lineLevel s.pins.now 7 = activeHigh (peek s.wake.table (lineSource 7)).mode ∧
      max 1 (peek s.wake.table (lineSource 7)).width.val ≤ (peek s.wake.det 7).count + 1 ∧
      s.psc.policy1.fault.present = true ∧ LongDelay (peek s.eng.steps s.psc.policy1.fault.value) := by decide
theorem witness_DelaySteps :
    delay3.kind = .delay ∧ duration delay3.time ≠ 0 ∧ duration { delay3.time with value := 0 } = 0 ∧
      (AtRest (atTick 3 (inStep .delay)) ∧ waitsIn (atTick 3 (inStep .delay)) .delay = true) ∧
      elapsed (atTick 3 (inStep .delay)) (runStart (inStep .delay)) = duration delay3.time ∧
      elapsed (atTick 2 (inStep .delay)) (runStart (inStep .delay)) ≠ duration delay3.time := by decide
theorem witness_MarkSteps : ({ blankStep with kind := .mark, opA := 63 } : StepRec).kind = .mark := by decide
theorem witness_InstantSteps :
    duration { delay3 with kind := StepKind.pulse }.time ≠ 0 ∧ duration blankStep.time = 0 ∧
      (atLevel .working).clock.mode ≠ .slow ∧
      ((atLevel .working).setClock { (atLevel .working).clock with mode := .slow, loop := .off }).clock.mode = .slow ∧
      ({ blankStep with kind := .armWake, opA := 3 } : StepRec).opA.val = (levelCode .softOff).val := by decide
theorem witness_InstantSteps_arming :
    HubOpen armingExample ∧ armedBy .suspend armingExample = [4] ∧ armedBy .working armingExample = [] ∧
      armingExample.hub.tx.length + 1 ≤ 8 ∧ armingExample.wake.queue = [] := by decide
/-- A WAIT_GOOD of slot 4 meets each verdict, and a WAIT_LINE of line 2 a low sample. -/
theorem witness_InstantSteps_waits :
    (∀ v ∈ [Verdict.off, .rising, .good, .lost, .draining],
      let s := withRail .pgline v 0
      s.eng.wait = .none ∧ (peek s.rails.table (slotOf { blankStep with opA := 4 })).present = true ∧
        (peek s.rails.stat (slotOf { blankStep with opA := 4 })).verdict = v) ∧
      (peek (atLevel .working).rails.table 4).present = false ∧ peek (atLevel .working).wake.sample 2 = false ∧
      ∀ m ∈ [CoreMode.fastLoop, .fastRc, .slow],
        ((atLevel .working).setClock { (atLevel .working).clock with mode := m }).clock.mode = m := by decide
/-- A SEND_WIRE of W63 begins, `n` frames in the transmit queue of the Hub Port. -/
def sending (n : Nat) (lrst : Bool) : State :=
  let s := inStep .sendWire
  ((((s.setEng { s.eng with cur := { s.eng.cur with opA := 63 }, wait := .none }).setHub
    { s.hub with tx := List.replicate n (noticeFrame 0), waiting := if n = 8 then [.notice 5] else [] }).setWire
    { s.wire with map := poke s.wire.map 63 { blankWire with action := .own, dir := .up } })).setLrst lrst
theorem witness_InstantSteps_send :
    ∀ s ∈ [sending 7 false, sending 8 false, sending 0 true],
      s.eng.cur.kind = .sendWire ∧ s.eng.wait = .none ∧ channelRuns s = true ∧ SlotsOffered s ∧
        (peek s.wire.map s.eng.cur.opA).action = .own ∧ portOf (peek s.wire.map s.eng.cur.opA).dir = .hub ∧
        (peek s.wire.map 5).action ≠ .own ∧ duration s.eng.cur.time ≠ 0 ∧
        ∀ x ∈ s.hub.waiting ++ s.board.waiting, isSendWire x = false := by decide
theorem witness_ExpiryEndsStep :
    ∀ k ∈ [StepKind.delay, .pulse, .waitGood, .waitOff, .waitLine, .release, .clockUp, .sendWire],
      let s := atTick 3 (inStep k)
      elapsed s s.eng.norm.start = duration s.eng.cur.time ∧ SteppingIn s k ∧ s.eng.cur.action = .goOn := by
  decide
/-- A step of kind `k` at index `i` outside step mode, a DELAY after it, with its flags. -/
def leading (k : StepKind) (i : Fin 256) (p : PscState) (halt commit : Bool) : State :=
  let s := withLists (inStep k)
  atTick 3 ((s.setEng
    { s.eng with
      stepMode := false, cur := { s.eng.cur with commit := commit },
      norm := { s.eng.norm with idx := i, ran := i, retries := 2, haltPending := halt } }).setPsc { s.psc with state := p })
theorem witness_ExpiryEndsStep_leads :
    ∀ k ∈ [StepKind.delay, .pulse, .waitGood, .waitOff, .waitLine, .release, .clockUp], ∀ i ∈ [(0 : Fin 256), 254],
      ∀ p ∈ [PscState.transit, .backout], ∀ b ∈ [false, true],
        let s := leading k i p b (!b)
        RunningIn s k ∧ elapsed s s.eng.norm.start = duration s.eng.cur.time ∧ s.eng.cur.action = .goOn ∧
          s.eng.norm.haltPending = b ∧ s.eng.cur.commit = !b := by decide +kernel
theorem witness_ExpiryEndsStep_urgent :
    ∀ k ∈ [StepKind.delay, .pulse], ∀ i ∈ [(0 : Fin 256), 254],
      let u := urgentWait k (withLists (atLevel .working))
      let s := atTick 3 (u.setEng { u.eng with urg := { u.eng.urg with idx := i } })
      UrgentIn s k ∧ elapsed s s.eng.urg.start = duration s.eng.cur.time := by decide +kernel
/-- R14, R25: a committing DELAY at index 254 leads on to the DELAY at index 255. -/
theorem test_step_leads_on :
    after .stepTimerExpiry (leading .delay 254 .transit false true) (fun t =>
      decide (t.eng.norm.st = .running ∧ t.eng.norm.idx = 255 ∧ t.eng.norm.start = 3 ∧ t.eng.norm.retries = 0 ∧
        t.psc.commit = true)) = true := by decide

theorem witness_FailActions_urgent :
    ∀ k ∈ [StepKind.waitGood, .waitOff, .waitLine, .release, .clockUp],
      let s := atTick 3 (urgentWait k (withLists (atLevel .working)))
      UrgentIn s k ∧ elapsed s s.eng.urg.start = duration s.eng.cur.time := by decide

/-- The Normal channel waits in a step of kind `k` at index 255. -/
def atLast (k : StepKind) : State :=
  let s := withLists (inStep k)
  s.setEng { s.eng with norm := { s.eng.norm with idx := 255, ran := 255 } }
theorem witness_FailActions_runaway :
    ∀ k ∈ [StepKind.delay, .waitGood, .waitOff, .waitLine, .release, .clockUp],
      let s := atTick 3 (atLast k)
      AtRest s ∧ s.eng.norm.st = .running ∧ s.eng.wait = .step ∧ s.eng.cur.kind = k ∧ s.eng.norm.idx = 255 ∧
        elapsed s s.eng.norm.start = duration s.eng.cur.time ∧ FaultListReady s ∧ s.eng.cur.action = .goOn := by decide
/-- R25: a DELAY that ends at index 255 runs away into the FAULT list. -/
theorem test_runaway :
    after .stepTimerExpiry (atTick 3 (atLast .delay)) (fun t =>
      decide (t.psc.state = .urgent ∧ t.eng.last.outcome = some .runaway ∧
        t.fault.first.map FirstFault.cause = some .runaway)) = true := by decide

/-- The step in progress with another fail action and retry count, the retries used so far, step mode off. -/
def failing (a : FailAction) (limit used : Fin 4) : State :=
  let s := inStep .waitGood
  let back : TransEntry := { present := true, mainStart := 0, backout := { present := true, value := 40 } }
  (s.setEng { s.eng with cur := { s.eng.cur with action := a, retry := limit }, stepMode := false,
                         norm := { s.eng.norm with retries := used } }).setPsc
    { s.psc with trans := poke s.psc.trans 1 back }
theorem witness_FailActions_retry :
    let s := failing .retry 0 0
    s.eng.urg.running = false ∧ s.fault.first = none ∧ s.eng.cur.action = .retry ∧ s.eng.norm.retries.val < 1 ∧
      s.eng.stepMode = false ∧ s.eng.norm.haltPending = false := by decide
theorem witness_FailActions_backout :
    ∀ s ∈ [failing .backout 0 0, failing .retry 0 1, failing .retry 3 3],
      s.eng.urg.running = false ∧ s.fault.first = none ∧
        (s.eng.cur.action = .backout ∨ s.eng.cur.action = .retry ∧
          (if s.eng.cur.retry.val = 0 then 1 else s.eng.cur.retry.val) ≤ s.eng.norm.retries.val) ∧
        s.psc.state = .transit ∧ s.psc.commit = false ∧
        (peek s.psc.trans (entryIndex s.psc.current s.psc.target)).backout.present = true := by decide
theorem witness_FailActions_fault :
    let s := failing .backout 0 0
    (failing .fault 0 0).eng.cur.action = .fault ∧ (s.setPsc { s.psc with commit := true }).eng.cur.action = .backout ∧
      (s.setPsc { s.psc with commit := true }).psc.commit = true := by decide

theorem witness_RailWaitsEnd :
    let s := atTick 2 (timedRail .rising ((inStep .waitGood).setEng { (inStep .waitGood).eng with
      cur := { delay3 with kind := .waitGood, opA := 4 } }))
    let u := atTick 3 (timedRail .draining ((inStep .waitOff).setEng { (inStep .waitOff).eng with
      cur := { delay3 with kind := .waitOff, opA := 4 } }))
    let x := (railOf (.timed { value := 2, unit := .t1 } { value := 3, unit := .t1 })).sense
    (SteppingIn s .waitGood ∧ (peek s.rails.table (slotOf s.eng.cur)).sense = x ∧
        (peek s.rails.stat (slotOf s.eng.cur)).verdict = .rising ∧
        (peek s.rails.stat (slotOf s.eng.cur)).timer = some 0 ∧ elapsed s 0 = duration { value := 2, unit := .t1 }) ∧
      SteppingIn u .waitOff ∧ (peek u.rails.table (slotOf u.eng.cur)).sense = x ∧
        (peek u.rails.stat (slotOf u.eng.cur)).verdict = .draining ∧
        (peek u.rails.stat (slotOf u.eng.cur)).timer = some 0 ∧ elapsed u 0 = duration { value := 3, unit := .t1 } := by
  decide
theorem witness_RailWaitsEnd_sampled :
    let x := Sense.monitored dram
    let s (mV : Nat) := stepping .waitGood (withRail x .rising mV)
    let u (mV : Nat) := stepping .waitOff (withRail x .draining mV)
    (∀ mV ∈ [1000, 1182, 1650], Sampled (s mV) (slotOf (s mV).eng.cur) (railOf x) dram .rising ∧
        SteppingIn (s mV) .waitGood ∧ waitsIn (s mV) .waitGood = true ∧ (s mV).eng.cur.action = .goOn) ∧
      (∀ mV ∈ [119, 121], Sampled (u mV) (slotOf (u mV).eng.cur) (railOf x) dram .draining ∧
        SteppingIn (u mV) .waitOff ∧ waitsIn (u mV) .waitOff = true) ∧
      bandClass dram (codeAt (s 1000) (railOf x)) ≠ .inGood ∧ isOver dram (codeAt (s 1000) (railOf x)) = false := by
  decide
theorem witness_RailWaitsEnd_critical :
    let x := Sense.monitored dram
    let r := { railOf x with critical := true }
    let s := stepping .waitGood (critical x .rising 1650)
    let u := urgentWait .waitGood (critical x .rising 1650)
    (slotOf s.eng.cur = 4 ∧ Sampled s 4 r dram .rising ∧ waitsIn s .waitGood = true ∧ s.eng.urg.running = false ∧
        bandClass dram (codeAt s r) ≠ .inGood ∧ isOver dram (codeAt s r) = true ∧
        (peek s.rails.stat 4).overCount + 1 = 3) ∧
      slotOf u.eng.cur = 4 ∧ Sampled u 4 r dram .rising ∧ waitsIn u .waitGood = true ∧ UrgentIn u .waitGood := by
  decide
/-- A WAIT_GOOD on a critical rail about to be LOST, no FAULT list in Policy, one entry in the Hold Queue; and the same
with the FAULT list present, beginning with a DELAY. -/
def losing (list : Bool) : State :=
  let s := stepping .waitGood (critical (.monitored dram) .rising 1650)
  let t := s.setWire { s.wire with queue := [{ wire := 9, level := true }] }
  (t.setEng { t.eng with steps := Vector.replicate 256 delay3 }).setPsc
    { t.psc with policy1 := { blankPolicy1 with fault := { present := list, value := 0 } } }
theorem witness_RailWaitsEnd_cut :
    let r := { railOf (.monitored dram) with critical := true }
    let s := losing false
    (slotOf s.eng.cur = 4 ∧ Sampled s 4 r dram .rising ∧ waitsIn s .waitGood = true ∧ s.eng.urg.running = false ∧
        s.psc.policy1.fault.present = false ∧ s.fault.first = none ∧ (peek s.rails.stat 4).en = .asserted) ∧
      (bandClass dram (codeAt s r) ≠ .inGood ∧ isOver dram (codeAt s r) = true ∧
        (peek s.rails.stat 4).overCount + 1 = 3 ∧ s.wire.queue ≠ [] ∧ s.wire.hold = false ∧ SlotsOffered s) ∧
      FaultListReady (losing true) := by decide
/-- R31, R67, R86: the loss of the awaited critical rail is taken by WAIT_GOOD_COMPLETES with and without a FAULT list. -/
theorem test_wait_good_is_cut :
    after .waitGoodCompletes (losing false) (fun t =>
      decide (t.psc.state = .urgent ∧ t.eng.wait = .builtin ∧ (peek t.rails.stat 4).verdict = .draining ∧
        (peek t.rails.stat 4).lost = 1 ∧ t.eng.last.outcome = some .stopped)) = true ∧
    after .waitGoodCompletes (losing true) (fun t =>
      decide (t.psc.state = .urgent ∧ t.eng.wait = .step ∧ (peek t.rails.stat 4).verdict = .lost)) = true := by
  decide +kernel
theorem witness_WaitLineEnds :
    SteppingIn (inStep .waitLine) .waitLine ∧
      (inStep .waitLine).pins.now.ins.getLsbD (lineOf (inStep .waitLine).eng.cur).val = (inStep .waitLine).eng.cur.opB ∧
      true ≠ (inStep .waitLine).eng.cur.opB := by decide
theorem witness_ClockUpEnds :
    let s := (inStep .clockUp).setClock (looping .tracking 3 false).clock
    SteppingIn s .clockUp ∧ s.clock.mode = .fastRc ∧ s.clock.loop = .tracking ∧ s.clock.locked = false ∧
      s.clock.good = 3 ∧ s.clock.source = .so ∧ s.clock.window = some 0 ∧ elapsed s 0 = 16 := by decide

/-- A state whose Hold Queue holds 8 DOWN entries, the drain frame waiting at the Board Port. -/
def draining8 (s : State) : State :=
  (s.setWire { s.wire with queue := List.replicate 8 { wire := 9, level := true } }).setBoard
    { s.board with waiting := [.drain] }
theorem witness_ReleaseEnds :
    SteppingIn (draining8 (inStep .release)) .release ∧ LastDrain (draining8 (inStep .release)) .down := by
  decide
/-- A Hold Queue of 8 DOWN entries or none, hold active or lifted, `n` frames in the Board Port's transmit queue. -/
def holding (hold : Bool) (m n : Nat) : State :=
  let s := atLevel .working
  (s.setWire { s.wire with hold := hold, queue := List.replicate m { wire := 9, level := true } }).setBoard
    { s.board with tx := List.replicate n (noticeFrame 0) }
theorem witness_InstantSteps_end :
    ∀ s ∈ [holding true 0 0, holding false 8 0, holding true 8 7, holding true 8 8],
      blankStep.kind = .endList ∧ s.eng.wait = .none ∧ s.hub.waiting = [] ∧ s.board.waiting = [] ∧ s.lrst = false ∧
        s.wire.kept = none ∧ (∀ e ∈ s.wire.queue, wireDir s e.wire = .down) ∧ s.wire.queue.length ≤ 8 := by decide
theorem witness_ReleaseEnds_begins :
    ∀ s ∈ [holding true 0 0, holding false 8 0, holding true 8 7, holding true 8 8],
      ({ delay3 with kind := StepKind.release } : StepRec).kind = .release ∧ s.eng.wait = .none ∧ s.hub.waiting = [] ∧
        s.board.waiting = [] ∧ s.lrst = false ∧ s.wire.kept = none ∧ (∀ e ∈ s.wire.queue, wireDir s e.wire = .down) ∧
        s.wire.queue.length ≤ 8 := by decide
/-- R38: with entries held and a free slot, a RELEASE of duration 0 fails with TIMEOUT, hold lifted. -/
theorem test_release_of_zero :
    (beginRelease blankStep (holding true 8 0)).eng.due = .runEnded (.failed .timeout) ∧
      (beginRelease blankStep (holding true 8 0)).wire.hold = false ∧
      (beginRelease blankStep (holding true 0 0)).eng.due = .runEnded .ok := by decide
theorem witness_EndSettles :
    let s := draining8 (inStep .endList)
    AtRest s ∧ s.eng.norm.st = .running ∧ s.eng.urg.running = false ∧ s.eng.wait = .step ∧
      s.eng.cur.kind = .endList ∧ s.psc.state = .transit ∧ LastDrain s .down ∧ s.psc.slot = none ∧
      s.psc.target ≠ .working ∧ ∀ n : Fin 9, (peek s.wake.det n).active = false := by decide
theorem witness_EndSettles_urgent :
    ∀ w ∈ [Wait.step, .builtin, .runaway], ∀ p ∈ [false, true],
      let u := draining8 (urgentWait .endList (atLevel .working))
      let s := (u.setEng { u.eng with wait := w }).setPsc { u.psc with pendingRestore := p }
      AtRest s ∧ s.eng.urg.running = true ∧ s.eng.wait = w ∧ s.eng.cur.kind = .endList ∧ LastDrain s .down ∧
        s.psc.gateClosed = true ∧ s.wake.queue = [] ∧ s.hub.tx.length ≤ 5 ∧ s.psc.pendingRestore = p ∧
        ∀ n : Fin 9, (peek s.wake.det n).active = false := by decide
/-- The same waits with a level in the slot and the entries of the settled level present, each beginning with a DELAY. -/
def settling (q : Level) (closed : Bool) : State :=
  let s := draining8 (inStep .endList)
  let t := (s.setPsc { s.psc with slot := some q, gateClosed := closed })
  (t.setEng { t.eng with steps := Vector.replicate 256 delay3 }).setPsc
    { t.psc with trans := poke t.psc.trans 7 { blankTrans with present := true } }
theorem witness_EndSettles_slot :
    ∀ q ∈ [Level.working, .suspend, .hibernate, .softOff], ∀ b ∈ [false, true],
      let s := settling q b
      AtRest s ∧ s.eng.norm.st = .running ∧ s.eng.urg.running = false ∧ s.eng.wait = .step ∧
        s.eng.cur.kind = .endList ∧ s.psc.state = .transit ∧ LastDrain s .down ∧ s.psc.slot = some q ∧
        s.psc.target = .suspend ∧ s.psc.gateClosed = b ∧ ∀ n : Fin 9, (peek s.wake.det n).active = false := by decide
theorem witness_EndSettles_slot_entries :
    EntryDelays (settling .softOff false) .suspend .softOff ∧
      (peek (settling .hibernate false).psc.trans (entryIndex .suspend .hibernate)).present = false := by decide
/-- R16: the slot is served once the list has settled in its target. -/
theorem test_slot_is_served :
    after .endCompletes (settling .softOff false) (fun t =>
      decide (t.psc.state = .transit ∧ t.psc.current = .suspend ∧ t.psc.target = .softOff ∧ t.psc.slot = none)) = true := by
  decide +kernel
/-- The Urgent channel waits in a step of kind `k` at index 255, `n` entries in the Hold Queue. -/
def urgentLast (k : StepKind) (n : Nat) : State :=
  let s := urgentWait k (atLevel .working)
  let t := s.setEng { s.eng with urg := { s.eng.urg with idx := 255, ran := 255 } }
  atTick 3 (t.setWire { t.wire with queue := List.replicate n { wire := 9, level := true } })
theorem witness_EndSettles_runaway :
    ∀ k ∈ [StepKind.delay, .waitGood, .waitOff, .waitLine, .release, .clockUp], ∀ n ∈ [0, 1],
      let s := urgentLast k n
      AtRest s ∧ s.eng.urg.running = true ∧ s.eng.wait = .step ∧ s.eng.cur.kind = k ∧ s.eng.urg.idx = 255 ∧
        elapsed s s.eng.urg.start = duration s.eng.cur.time ∧ s.wire.hold = false ∧ s.wire.queue.length = n ∧
        s.psc.gateClosed = true ∧ s.wake.queue = [] ∧ HubOpen s ∧ s.hub.tx.length ≤ 5 ∧
        ∀ n : Fin 9, (peek s.wake.det n).active = false := by decide
theorem witness_SettleTakesWakes_arming : armingExample.psc.slot = none ∧ armedBy .suspend armingExample ≠ [] := by decide
theorem witness_SettleTakesWakes :
    boardWake.psc.slot = none ∧ ∀ n : Fin 9, (peek boardWake.wake.det n).active = false := by decide

/-- A level state with the gate closed, with the fault latch set, and with the entry to SUSPEND present. -/
def gated (l : Level) : State := (atLevel l).setPsc { (atLevel l).psc with gateClosed := true }
def latched : State := (atLevel .suspend).setPsc { (atLevel .suspend).psc with latch := true }
theorem witness_RequestInLevelState :
    (gated .softOff).psc.state = levelState .softOff ∧ (gated .softOff).psc.gateClosed = true ∧
      (atLevel .working).psc.gateClosed = false ∧ latched.psc.state = levelState .suspend ∧ latched.psc.latch = true ∧
      (peek (atLevel .working).psc.trans (entryIndex .working .suspend)).present = false ∧
      (peek suspendEntry.psc.trans (entryIndex .working .suspend)).present = true ∧
      suspendEntry.psc.state = levelState .working ∧ suspendEntry.psc.latch = false ∧
      suspendEntry.psc.gateClosed = false := by decide
theorem witness_RequestInLevelState_notice :
    let s := withNotice true (atLevel .softOff)
    s.psc.state = levelState .softOff ∧ s.psc.gateClosed = true ∧ s.hub.waiting = [] ∧ s.board.waiting = [] ∧
      s.wire.kept = none := by decide
theorem witness_RequestOutsideLevelState :
    State.reset.psc.state = .loading ∧ (inUrgent .fault).psc.state = .urgent ∧ (inStep .delay).psc.state = .transit ∧
      (inStep .delay).psc.target = .suspend ∧ (failing .retry 0 0).psc.current = .working ∧
      (failing .retry 0 0).psc.commit = false ∧ (failing .retry 0 0).psc.state = .transit ∧
      (peek (failing .retry 0 0).psc.trans (entryIndex .working .suspend)).backout.present = true := by decide

theorem witness_ReceptionBegins :
    let s := (atLevel .working).setHub { idleLink with needRest := true }
    AtRest s ∧ s.lrst = false ∧ (link s .hub).receiving = none ∧ (link s .hub).needRest = true ∧
      (link s .board).needRest = false ∧ (s.setLrst true).lrst = true := by decide
/-- A reception with or without a slot. -/
def receiving (slot : Bool) : State := (atLevel .working).setHub { idleLink with receiving := some slot }
theorem witness_FrameArrives_drops :
    AtRest (receiving true) ∧ (link (receiving false) .hub).receiving = some false ∧
      (link (receiving true) .hub).receiving = some true ∧ 18 < (List.replicate 19 (0 : Byte)).length ∧
      ([0x30, 0] : List Byte).length < 3 ∧ crc8 [0x30, 0] ≠ 0 := by decide +kernel
theorem witness_FrameArrives_checks :
    crc8 [0x31, 0] = byteAt [0x31, 0, 0xEC] 2 ∧ (byteAt [0x31, 0, 0xEC] 0).toNat % 16 + 3 ≠ 3 ∧
      crc8 [0x50, 0] = byteAt [0x50, 0, 0x0C] 2 ∧ 4 < (byteAt [0x50, 0, 0x0C] 0).toNat / 16 ∧
      (byteAt [0x50, 0, 0x0C] 0).toNat % 16 + 3 = 3 ∧ (byteAt [0, 0, 0] 0).toNat / 16 = 0 ∧ crc8 [0, 0] = 0 ∧
      crc8 [0x40, 0] = byteAt [0x40, 0, 0x5B] 2 ∧ frameCode .mgmtReq = (byteAt [0x40, 0, 0x5B] 0).toNat / 16 := by
  decide +kernel

/-- WORKING with 7 frames in the Hub Port's transmit queue and internal frames waiting there. -/
def hubWaits (w : List Internal) (s : State) : State :=
  s.setHub { idleLink with tx := List.replicate 7 (noticeFrame 0), waiting := w }
theorem witness_SlotsTaken_internal :
    ∀ w ∈ [[Internal.notice 13], [.wires [{ wire := 63, level := true }], .drain], [.sendWire { wire := 7, level := true }]],
      let s := hubWaits w (inStep .sendWire)
      AtRest s ∧ SteppingIn s .sendWire ∧ s.lrst = false ∧ s.wire.kept = none ∧ (link s .hub).tx.length < 8 ∧
        (link s .hub).waiting = w ∧ (link s .board).waiting = [] := by decide
/-- The queue of section 7.4 with its first `n` entries gone, the drain frame at the port of direction `d` ahead of a
notice and with `k` frames sent there. -/
def drainingFrom (n k : Nat) (d : Direction) (s : State) : State :=
  let x := s.setWire { twoDirections.wire with queue := twoDirections.wire.queue.drop n }
  setLink x (portOf d) { idleLink with tx := List.replicate k (noticeFrame 0), waiting := [.drain, .notice 13] }
theorem witness_SlotsTaken_drain_goes_on :
    ∀ x ∈ [(0, Direction.down, 8), (8, .down, 1), (9, .up, 1)], ∀ k ∈ [0, 7],
      ∀ s ∈ [atLevel .working, inStep .endList, inStep .release, inStep .delay],
        let t := drainingFrom x.1 k x.2.1 s
        AtRest t ∧ DrainReady t x.2.1 (t.wire.queue.take x.2.2) (t.wire.queue.drop x.2.2) ∧
          t.wire.queue.drop x.2.2 ≠ [] := by decide
theorem witness_SlotsTaken_drain_ends :
    let u := urgentWait .endList (atLevel .working)
    ∀ s ∈ [atLevel .working, inStep .delay, inStep .release, inStep .endList, u,
        u.setEng { u.eng with wait := .runaway }, u.setEng { u.eng with wait := .builtin }],
      let t := drainingFrom 10 7 .down s
      AtRest t ∧ DrainReady t .down t.wire.queue [] ∧
        ((t.eng.wait = .none ∨ t.eng.wait = .step ∧ t.eng.cur.kind ≠ .endList ∧ t.eng.cur.kind ≠ .release) ∨
          waitsIn t .release = true ∨ waitsIn t .endList = true ∨ t.eng.wait = .runaway ∨ t.eng.wait = .builtin) := by
  decide
/-- Section 7.4: after the frame of the UP wire, the last drain frame waits at the Board Port. -/
theorem test_drain_frame_changes_port :
    after .drainFrameTakesSlot (drainingFrom 9 0 .up (inStep .release)) (fun t =>
      decide (t.wire.queue.map WireLevel.wire = [12] ∧ t.hub.waiting = [.notice 13] ∧ t.board.waiting = [.drain] ∧
        t.eng.wait = .step)) = true := by decide
/-- The agent holds a response for the Hub Port, and a frame stands at the Board Port's head. -/
def responding (f : Frame) : State :=
  (withFrame .board f (hubWaits [] (atLevel .working))).setAgent
    (some { port := .hub, response := responseFrame 5 [1, 0] })
theorem witness_SlotsTaken_response :
    ∀ f ∈ [request [1], { request [1] with kind := .data }, { request [1] with kind := .data, route := false }, { request [1] with kind := .wire }],
      let s := responding f
      AtRest s ∧ s.agent.map Service.port = some .hub ∧ s.lrst = false ∧ s.wire.kept = none ∧
        (link s .hub).tx.length < 8 ∧ (link s .hub).waiting = [] ∧ (link s (Port.other .hub)).rx.head? = some f := by
  decide

theorem witness_LinkResetAsserts :
    ∀ s ∈ [(atLevel .working), inStep .waitGood, inStep .sendWire, inStep .release],
      AtRest s ∧ s.lrst = false ∧ requested (linkReset s) = requested s ∧ (s.setLrst true).lrst = true ∧
        (s.eng.wait = .none ∨ s.eng.wait = .step ∧ s.eng.cur.kind ≠ .endList ∧ s.eng.cur.kind ≠ .release ∨
          SteppingIn s .release) := by decide
theorem witness_LinkResetAsserts_ends :
    let s := draining8 (inStep .endList)
    (AtRest s ∧ s.lrst = false ∧ requested (linkReset s) = requested s ∧ s.eng.norm.st = .running ∧
        s.eng.urg.running = false ∧ s.eng.wait = .step ∧ s.eng.cur.kind = .endList ∧ s.psc.state = .transit ∧
        s.psc.slot = none ∧ s.psc.target ≠ .working ∧ ∀ n : Fin 9, (peek s.wake.det n).active = false) ∧
      ∀ w ∈ [Wait.step, .builtin, .runaway],
        let u := draining8 (urgentWait .endList (atLevel .working))
        let t := u.setEng { u.eng with wait := w }
        AtRest t ∧ t.lrst = false ∧ requested (linkReset t) = requested t ∧ t.eng.urg.running = true ∧
          UrgentDrains t ∧ t.psc.state = .urgent ∧ t.psc.gateClosed = true ∧ t.wake.queue = [] ∧
          ∀ n : Fin 9, (peek t.wake.det n).active = false := by decide
/-- HALTED before a DELAY at index 9, from TRANSIT. -/
def halted : State :=
  let s := withLists (inStep .delay)
  (s.setPsc { s.psc with state := .halted, haltedFrom := some .transit }).setEng
    { s.eng with wait := .none, norm := { s.eng.norm with st := .halted } }
/-- The drain wait of the built-in shutdown under a closed gate, SOFT_OFF requested by W2 at its default level 1, and W63
the off-notice wire, OWN and at 1. -/
def noticing : State :=
  let u := withNotice true (draining8 (urgentWait .endList (atLevel .working)))
  let map := poke (poke u.wire.map 2 { blankWire with action := .track, deflt := true }) 63
    { blankWire with action := .own, dir := .up, deflt := true }
  (u.setEng { u.eng with wait := .builtin }).setWire
    { u.wire with map := map, level := poke (poke u.wire.level 2 true) 63 true }
theorem witness_LinkResetAsserts_notice :
    let s := noticing
    AtRest s ∧ s.lrst = false ∧ requested (linkReset s) = requested s ∧ requested s = .softOff ∧
      policyWiresOk s.wire.map s.psc.policy0 = true ∧ s.psc.policy0.offNotice.present = true ∧
      s.eng.urg.running = true ∧ UrgentDrains s ∧ s.psc.state = .urgent ∧ s.psc.gateClosed = true ∧ s.wake.queue = [] ∧
      (∀ n : Fin 9, (peek s.wake.det n).active = false) ∧
      policyWiresOk (draining8 (inStep .endList)).wire.map (draining8 (inStep .endList)).psc.policy0 = true := by decide
/-- R20, R126: the gate opens at the assertion in either order, and the off-notice wire stands at 0 afterwards. -/
theorem test_reset_opens_gate :
    ∀ b ∈ [false, true], after (.lrstAsserted b) noticing (fun t =>
      decide (t.psc.state = .softOff ∧ t.psc.gateClosed = false ∧ peek t.wire.level 63 = false)) = true := by
  decide +kernel
/-- A state in which W0 stands at 1 and its default is 0, so that link reset asks for WORKING again. -/
def askingOff (s : State) : State := s.setWire { s.wire with level := poke s.wire.level 0 true }
theorem witness_LinkResetAsserts_request :
    ∀ s ∈ [askingOff (atLevel .working), askingOff (atLevel .suspend), askingOff (inStep .waitGood),
        askingOff (inUrgent .fault), askingOff halted],
      AtRest s ∧ s.lrst = false ∧ s.psc.state ≠ .loading ∧ requested (linkReset s) = .working ∧ requested s = .suspend ∧
        (s.eng.wait = .none ∨ s.eng.wait = .step ∧ s.eng.cur.kind ≠ .endList ∧ s.eng.cur.kind ≠ .release) := by decide
theorem witness_LinkResetAsserts_request_clauses :
    let u := askingOff (withLists (failing .retry 0 0))
    let x := askingOff (latchedAt true)
    (u.psc.state = .transit ∧ u.psc.target ≠ .working ∧ MayBackOut u .working ∧ u.eng.urg.running = false ∧
        u.eng.cur.kind = .waitGood ∧
        LongDelay (peek u.eng.steps (peek u.psc.trans (entryIndex u.psc.current u.psc.target)).backout.value)) ∧
      (askingOff (gated .softOff)).psc.gateClosed = true ∧ (x.psc.state = levelState .suspend ∧ x.psc.latch = true) ∧
      EntryDelays (x.setPsc { x.psc with latch := false }) .suspend .working ∧
      (peek (askingOff (atLevel .suspend)).psc.trans (entryIndex .suspend .working)).present = false := by decide
/-- A state under LRST in which W63 is an OWN wire of direction UP. -/
def underReset (s : State) : State :=
  (s.setWire { s.wire with map := poke s.wire.map 63 { blankWire with action := .own, dir := .up } }).setLrst true
theorem witness_LinkResetReleases_together :
    let u := (atLevel .suspend).setWake
      { (atLevel .suspend).wake with queue := [{ source := 10, first := 3, count := 1 }] }
    let x := inStep .sendWire
    ∀ s ∈ [underReset u, underReset (x.setEng { x.eng with cur := { x.eng.cur with opA := 63 } })],
      AtRest s ∧ s.lrst = true ∧ s.psc.state ≠ .loading ∧ s.wire.kept = none ∧ s.hub.tx = [] ∧ s.board.tx = [] ∧
        s.hub.waiting = [] ∧ s.board.waiting = [] ∧ s.wake.queue.length ≤ 8 ∧
        (waitsIn s .sendWire = false ∨ SteppingIn s .sendWire) := by decide
/-- All 64 wires OWN and UP fill the transmit queue, so that the frame of the SEND_WIRE waits. -/
theorem witness_LinkResetReleases_full :
    let x := (inStep .sendWire).setWire
      { (inStep .sendWire).wire with map := Vector.replicate 64 { blankWire with action := .own, dir := .up } }
    (releasedFrames true x).length = 8 ∧ (offered8 (releasedFrames true x) x.hub).tx.length = 8 ∧
      (peek x.wire.map x.eng.cur.opA).dir = .up := by decide +kernel
/-- R113, R127: the OWN wire and the queued wake are sent in the order of the operand. -/
theorem test_reset_reannounces :
    let u := underReset ((atLevel .suspend).setWake
      { (atLevel .suspend).wake with queue := [{ source := 10, first := 3, count := 1 }] })
    after (.lrstReleased true) u (fun t => decide (t.hub.tx = [wireFrame 0 [{ wire := 63, level := false }], noticeFrame 10])) =
        true ∧
      after (.lrstReleased false) u (fun t =>
        decide (t.hub.tx = [noticeFrame 10, wireFrame 0 [{ wire := 63, level := false }]])) = true := by decide +kernel
theorem witness_LinkResetReleases :
    ∀ s ∈ [State.reset, boardWake, atLevel .softOff, inStep .delay],
      let t := (s.setLrst true)
      AtRest t ∧ t.lrst = true ∧ t.wire.kept = none ∧ t.hub.tx = [] ∧ t.board.tx = [] ∧ t.hub.waiting = [] ∧
        t.board.waiting = [] ∧ waitsIn t .sendWire = false ∧ t.wake.queue.length ≤ 8 ∧
        ∀ w : Fin 64, (peek t.wire.map w).action ≠ .own := by decide

/-- The Wire Map of section 7.3 with W63 OWN, and hold lifted or active. -/
def wired (p : Port) (b : Byte) (hold : Bool) (n : Nat) : State :=
  let s := atLevel .working
  withFrame p { kind := .wire, route := false, bit6 := false, tag := 9, payload := [b] }
    (s.setWire { s.wire with
      map := poke exampleWires 63 { blankWire with action := .own, dir := .up }, hold := hold,
      queue := List.replicate n { wire := 9, level := true } })
theorem witness_WireEntryTaken :
    ∀ x ∈ [(Port.hub, (0x80 : Byte), false, 0), (.hub, 0x7F, false, 0), (.board, 0x14, false, 0), (.hub, 0x4D, false, 0),
        (.hub, 0x54, false, 0), (.hub, 0x4C, false, 0), (.hub, 0x4C, true, 15)],
      let s := wired x.1 x.2.1 x.2.2.1 x.2.2.2
      AtRest s ∧ (picked s).map (fun y => (y.1, y.2.payload)) = some (x.1, [x.2.1]) ∧ s.wire.kept = none ∧
        s.hub.waiting = [] ∧ s.board.waiting = [] ∧
        requestedOf s.psc.policy0 (poke s.wire.level (Fin.ofNat 64 x.2.1.toNat) (x.2.1.getLsbD 6)) = requested s := by
  decide
theorem witness_WireEntryTaken_actions :
    (peek (wired .hub 0 true 15).wire.map 63).action = .own ∧ (peek (wired .hub 0 true 15).wire.map 20).action = .consume ∧
      (peek (wired .hub 0 true 15).wire.map 13).action = .pass ∧ (peek (wired .hub 0 true 15).wire.map 12).action = .hold ∧
      (peek (wired .hub 0 true 15).wire.map 20).dir = .down ∧ (peek (wired .hub 0 true 15).wire.map 1).action = .track ∧
      (wired .hub 0 true 15).wire.queue.length < 16 := by decide
/-- A frame of eight entries: PASS, TRACK, HOLD, CONSUME and HOLD wires, a spare bit, an OWN wire, and, on W30 of
direction UP, a misdirected entry; hold active with 14 entries held, or lifted with none. -/
def eightEntries (hold : Bool) : State :=
  let s := wired .hub 0 hold (if hold then 14 else 0)
  withFrame .hub
    { kind := .wire, route := true, bit6 := true, tag := 9, payload := [0x4D, 0x45, 0x4C, 0x54, 0x0C, 0x80, 0x3F, 0x1E] }
    (s.setWire
      { s.wire with
        map := poke (poke s.wire.map 5 { blankWire with action := .track }) 30 { blankWire with action := .track, dir := .up } })
theorem witness_WireEntryTaken_several :
    ∀ b ∈ [false, true],
      let s := eightEntries b
      (AtRest s ∧ (picked s).map (fun y => (y.1, y.2.payload)) = some (.hub, [0x4D, 0x45, 0x4C, 0x54, 0x0C, 0x80, 0x3F, 0x1E]) ∧
          s.wire.kept = none ∧ s.hub.waiting = [] ∧ s.board.waiting = []) ∧
        (s.wire.hold = true ∨ s.wire.queue = []) ∧ s.wire.queue.length + 2 ≤ 16 ∧
        [(0x4D : Byte), 0x45, 0x4C, 0x54, 0x0C, 0x80, 0x3F, 0x1E].map (entryEnd s .hub) =
          [.accepted .pass, .accepted .track, .accepted .hold, .accepted .consume, .accepted .hold, .spare, .ownDrop,
            .misdirected] ∧
        ∀ w ∈ [(13 : Fin 64), 5, 12, 20], w ∉ [s.psc.policy0.reqSusp, s.psc.policy0.reqHib, s.psc.policy0.reqOff] := by
  decide
/-- R119, R120: what that frame forwards, with hold active and with hold lifted. -/
theorem test_wire_entries :
    [false, true].map (fun b => after .wireFrameTaken (eightEntries b) (fun t =>
      decide (t.board.tx.map Frame.payload = [if b then [0x4D, 0x45] else [0x4D, 0x45, 0x4C, 0x0C]] ∧
        t.wire.ownDrop = 1 ∧ t.wire.misdirected = 1 ∧ t.hub.counters.malformed = 1))) = [true, true] := by decide
/-- A HOLD entry of W12 from the Hub Port while the drain of 15 or of one entry waits there at the full port. -/
def joining (n : Nat) : State :=
  let s := wired .hub 0x4C false n
  s.setHub { s.hub with tx := List.replicate 8 (noticeFrame 0), waiting := [.drain] }
theorem witness_WireEntryTaken_joins :
    ∀ n ∈ [1, 15],
      let s := joining n
      AtRest s ∧ (picked s).map (fun y => (y.1, y.2.payload)) = some (.hub, [0x4C]) ∧ s.wire.kept = none ∧
        (link s (Port.other .hub)).waiting = [] ∧ Internal.drain ∈ (link s .hub).waiting ∧ 8 ≤ (link s .hub).tx.length ∧
        s.wire.hold = false ∧ s.wire.queue ≠ [] ∧ s.wire.queue.length < 16 ∧ (peek s.wire.map 12).action = .hold ∧
        (peek s.wire.map 12).dir = .down ∧
        (12 : Fin 64) ∉ [s.psc.policy0.reqSusp, s.psc.policy0.reqHib, s.psc.policy0.reqOff] := by decide
/-- A frame of W13 (PASS) at 1, of W2 at 1, which asks for SOFT_OFF, and of W12 (HOLD) at 0, while W12 at 1 is held, in an
uncommitted transition from SOFT_OFF to WORKING whose back-out list is one END. -/
def backingOut : State :=
  let s := wired .hub 0 true 1
  let t := (s.setPsc
    { s.psc with
      state := .transit, current := .softOff, target := .working,
      trans := Vector.replicate 16 { present := true, mainStart := 0, backout := { present := true, value := 7 } } }).setEng
    { (inStep .waitGood).eng with stepMode := false }
  withFrame .hub { kind := .wire, route := false, bit6 := false, tag := 9, payload := [0x4D, 0x42, 0x0C] }
    (t.setWire
      { t.wire with
        queue := [{ wire := 12, level := true }], map := poke t.wire.map 2 { blankWire with action := .consume } })
theorem witness_WireEntryTaken_drain :
    let s := backingOut
    (AtRest s ∧ (picked s).map (fun y => (y.1, y.2.payload)) = some (.hub, [0x4D, 0x42, 0x0C]) ∧ s.wire.kept = none ∧
        s.hub.waiting = [] ∧ s.board.waiting = []) ∧
      (s.psc.state = .transit ∧ s.eng.norm.st = .running ∧ s.eng.urg.running = false ∧ s.eng.wait = .step ∧
        s.eng.cur.kind = .waitGood ∧ s.wire.hold = true ∧ s.wire.queue.length = 1 ∧
        (link s (Port.other .hub)).tx.length < 7 ∧ s.psc.current ≠ .working) ∧
      ((∀ n : Fin 9, (peek s.wake.det n).active = false) ∧ (∀ y ∈ s.wire.queue, wireDir s y.wire = .down) ∧
        (peek s.wire.map 13).action = .pass ∧ (peek s.wire.map 2).action = .consume ∧ (peek s.wire.map 2).dir = .down ∧
        (peek s.wire.map 12).action = .hold ∧ (peek s.wire.map 12).dir = .down) ∧
      (requestedOf s.psc.policy0 (poke (poke s.wire.level 13 true) 2 true) = .softOff ∧ requested s ≠ .softOff ∧
        s.psc.current ≠ s.psc.target ∧ MayBackOut s s.psc.current ∧ (peek s.eng.steps 7).kind = .endList) := by decide
/-- R120: the entries of one wire leave in their arrival order, W13 first in the frame's own slot, then W12 at 1 and 0. -/
theorem test_drain_keeps_order :
    after .wireFrameTaken backingOut (fun t =>
      decide (t.board.tx.map Frame.payload = [[0x4D], [0x4C, 0x0C]] ∧ t.psc.state = .softOff ∧ t.wire.hold = false)) = true := by
  decide +kernel
/-- Request wire W0 as a TRACK wire taken at 1 in a state. -/
def asking (s : State) : State :=
  withFrame .hub { kind := .wire, route := false, bit6 := false, tag := 9, payload := [0x40] } s
theorem witness_WireEntryTaken_request :
    ∀ s ∈ [asking (withLists (atLevel .working)), asking (gated .softOff), asking (inUrgent .fault), asking (inStep .delay)],
      (AtRest s ∧ (picked s).map (fun y => (y.1, y.2.payload)) = some (.hub, [0x40]) ∧ s.wire.kept = none ∧
          s.hub.waiting = [] ∧ s.board.waiting = []) ∧
        (peek s.wire.map 0).action = .track ∧ (peek s.wire.map 0).dir = .down ∧
        requestedOf s.psc.policy0 (poke s.wire.level 0 true) = .suspend ∧ requested s = .working := by decide
theorem witness_WireEntryTaken_request_states :
    let s := asking (withLists (atLevel .working))
    let t := s.setPsc { s.psc with trans := poke s.psc.trans 1 { blankTrans with present := true } }
    let u := (latchedAt true).setWire { (latchedAt true).wire with level := poke (latchedAt true).wire.level 0 true }
    (s.psc.state = levelState .working ∧ s.psc.gateClosed = false ∧
        (peek s.psc.trans (entryIndex .working .suspend)).present = false) ∧
      (EntryDelays t .working .suspend ∧ t.eng.urg.running = false ∧ t.psc.latch = false) ∧
      requested u = .suspend ∧ requestedOf u.psc.policy0 (poke u.wire.level 0 false) = .working ∧ u.psc.latch = true ∧
        (asking (inUrgent .fault)).psc.state = .urgent := by decide
/-- The rest of R10 to R12 at a request for SUSPEND: the target in TRANSIT, the from-level of a transition that may back
out by a DELAY, and one that may not. -/
theorem witness_WireEntryTaken_request_transit :
    let s := asking (inStep .delay)
    let u := s.setPsc { s.psc with current := .suspend, target := .working }
    let back : TransEntry := { present := true, mainStart := 0, backout := { present := true, value := 0 } }
    let t := withLists (u.setPsc { u.psc with trans := poke u.psc.trans (entryIndex .suspend .working) back })
    s.psc.target = .suspend ∧ ¬MayBackOut u .suspend ∧ MayBackOut t .suspend ∧ t.psc.target ≠ .suspend ∧
      t.eng.urg.running = false ∧ t.eng.cur.kind = .delay ∧
      LongDelay (peek t.eng.steps (peek t.psc.trans (entryIndex .suspend .working)).backout.value) := by decide
theorem witness_HoldQueueFull :
    (wired .hub 0 true 16).wire.queue.length = 16 ∧
      (wired .hub 0 true 16).wire.queue = List.replicate 15 { wire := 9, level := true } ++ { wire := 9, level := true } :: [] ∧
      ∀ y ∈ (wired .hub 0 true 16).wire.queue, y.wire ≠ 12 := by decide

/-- One frame taken by the classifier. -/
def taking (p : Port) (k : FrameKind) (route : Bool) (payload : List Byte) : State :=
  withFrame p { kind := k, route := route, bit6 := true, tag := 63, payload := payload } (atLevel .suspend)
theorem witness_DataAndMisrouted :
    ∀ x ∈ [(Port.hub, FrameKind.data, false), (.board, .data, true), (.board, .mgmtReq, false), (.hub, .wake, true)],
      let s := taking x.1 x.2.1 x.2.2 []
      AtRest s ∧ (picked s).map (fun y => (y.1, y.2.kind, y.2.route)) = some x ∧ s.wire.kept = none ∧
        s.hub.waiting = [] ∧ s.board.waiting = [] := by decide
/-- A frame of each kind at the head of each port's queue, the pointer at port `p`, with the full Board Port of a stalled
controller and a busy agent where `busy`. -/
def heads (p : Port) (f g : Frame) (busy : Bool) : State :=
  let s := atLevel .working
  let s := (s.setHub { s.hub with rx := [f, g] }).setBoard
    { s.board with rx := [g], tx := if busy then List.replicate 8 (noticeFrame 0) else [] }
  (s.setWire { s.wire with pointer := p }).setAgent
    (if busy then some { port := .hub, response := responseFrame 5 [1, 0] } else none)
theorem witness_DataAndMisrouted_heads :
    ∀ k ∈ [FrameKind.wire, .data, .mgmtReq, .wake], ∀ p ∈ [Port.hub, .board],
      let f := { request [1] with kind := k, route := decide (k = .mgmtReq) }
      (heads p f f false).wire.kept = none ∧ HeadGoes (heads p f f false) p f := by decide
/-- A DATA frame that goes to the full Board Port. -/
def stalled : Frame := { request [1] with kind := .data, route := false }
theorem witness_DataAndMisrouted_other_head :
    HeadStuck (heads .hub stalled (noticeFrame 0) true) .hub ∧
      HeadGoes (heads .hub stalled (noticeFrame 0) true) .board (noticeFrame 0) := by decide
theorem witness_DataAndMisrouted_stuck :
    let s := heads .hub stalled (request [1]) true
    AtRest s ∧ s.wire.kept = none ∧ HeadStuck s .hub ∧ HeadStuck s .board := by decide
/-- R115: the head of the port that the pointer names, or of the other port where that one has no slot to go to. -/
theorem test_classifier_turns :
    (picked (heads .hub stalled (request [1]) false)).map Prod.fst = some .hub ∧
      (picked (heads .board stalled (request [1]) false)).map Prod.fst = some .board ∧
      (picked (heads .hub stalled (noticeFrame 0) true)).map Prod.fst = some .board ∧
      picked (heads .hub stalled (request [1]) true) = none := by decide
theorem witness_BoardWakeFires :
    ∀ bs ∈ [[(3 : Byte)], [4], []],
      let s := taking .board .wake false bs
      AtRest s ∧ (picked s).map (fun y => (y.1, y.2.kind, y.2.payload)) = some (.board, .wake, bs) ∧ SlotsOffered s := by
  decide

/-- A request from a port at the part in SUSPEND. -/
def asked (p : Port) (payload : List Byte) (s : State) : State := withFrame p (request payload) s
theorem witness_Requests :
    ∀ p ∈ [Port.hub, .board], ∀ s ∈ [atLevel .working, inStep .delay],
      Requests (asked p [1] s) p (request [1]) ∧ (asked p [1] s).psc.state ≠ .loading := by decide
theorem witness_ReadsAnswered :
    ∀ x ∈ [([] : List Byte), [0], [5], [1], [2, 1, 15, 1], [2, 1, 16, 1]], ∀ p ∈ [Port.hub, .board],
      Requests (asked p x (atLevel .working)) p (request x) ∧ (asked p x (atLevel .working)).psc.state ≠ .loading := by
  decide
theorem witness_ReadsAnswered_ranges :
    (byteAt [] 0).toNat = 0 ∧ 4 < (byteAt [5] 0).toNat ∧ readOk 1 15 1 = true ∧ readOk 1 16 1 = false := by decide
theorem witness_ReadsAnswered_limits :
    (∀ x ∈ [[(1 : Byte), 2], [2, 1, 0], [2, 1, 0, 1, 0]], ∀ p ∈ [Port.hub, .board],
      Requests (asked p x (atLevel .working)) p (request x) ∧ Requests (asked p x (loading 1)) p (request x) ∧
        (asked p x (loading 1)).psc.state = .loading ∧ (asked p x (atLevel .working)).psc.state ≠ .loading) ∧
      ((14 : Nat) < 16 ∧ 14 ∉ [0, 5, 10, 15] ∧ readOk 3 15 1 = false ∧ readOk 13 4 1 = false ∧ readOk 6 1 1 = true) := by
  decide
/-- A report with every optional field present. -/
def fullReport : Report :=
  { emptyReport with
    origin := .urgent .fault, outcome := some .completed, endTick := some 9, steps := 65535, warnings := 255,
    firstFailure := some { step := 255, kind := .notOwn }, lastMark := some 63, wakeList := [13, 0],
    goodTimes := poke emptyReport.goodTimes 15 (some 16777215) }
theorem witness_ReadsAnswered_layouts :
    ReportFits fullReport ∧ ReportFits emptyReport ∧ WakeInv boardWake.wake ∧ (faulted.fault.further ≤ 255) ∧
      boardWake.wake.queue.length ≤ 8 ∧ boardWake.wire.queue.length ≤ 16 ∧ readOk 9 8 1 = true ∧ readOk 13 0 4 = true := by
  decide
theorem witness_ReadsAnswered_rails :
    let x := peek (withRail .pgline .good 0).rails.stat 4
    x.mV ≤ 65535 ∧ x.inCount ≤ 15 ∧ x.overCount ≤ 15 ∧ x.outCount ≤ 15 ∧ x.lowCount ≤ 15 ∧ x.lost ≤ 255 ∧
      (∀ n ∈ [State.reset.hub.counters.overrun, State.reset.wire.collapse], n ≤ 65535) ∧
      State.reset.clock.lockChanges ≤ 255 := by decide
theorem witness_RequestsGuarded :
    ((.halt, 4, 1) : Instr × Byte × Byte) ∈ requestCodes ∧ ((.writeTablePolicy, 3, 6) : Instr × Byte × Byte) ∈ requestCodes ∧
      Requests (asked .board [4, 1] (loading 1)) .board (request [4, 1]) ∧ (asked .board [4, 1] (loading 1)).psc.state = .loading ∧
      Requests (asked .board [4, 1] (atLevel .working)) .board (request [4, 1]) ∧
      (asked .board [4, 1] (atLevel .working)).psc.state ≠ .loading := by decide
/-- A WRITE_TABLE request that carries `n` bytes after its op code. -/
theorem witness_RequestsGuarded_ranges :
    ∀ x ∈ [([3] : List Byte), [3, 0], [3, 7, 0], [3, 4, 63], [3, 4, 64, 1], [3, 3, 5, 0, 0, 0], [3, 6, 2, 0, 0, 0, 0, 0, 0, 0, 0, 0],
        [4], [4, 0], [4, 9], [4, 1, 0]],
      let s := asked .hub x (atLevel .working)
      Requests s .hub (request x) ∧ s.psc.state ≠ .loading ∧ (x.head? = some 3 ∨ x.head? = some 4) := by decide
theorem witness_RequestsGuarded_limits :
    ((.writeTableWiremap, 3, 4) : Instr × Byte × Byte) ∈ requestCodes ∧ ([3, 4, 64, 1] : List Byte).length = 3 + tableBytes 4 ∧
      tableUnits 4 ≤ 64 ∧ ([3, 3, 5, 0, 0, 0] : List Byte).length = 3 + tableBytes 3 ∧ tableUnits 6 ≤ 2 ∧
      ([3, 4, 63] : List Byte).length ≠ 3 + tableBytes 4 := by decide

/-- A WRITE_TABLE request of one record. -/
def writing (tid index : Byte) (bs : List Byte) (s : State) : State := asked .hub (3 :: tid :: index :: bs) s
theorem witness_TableWrites_requests :
    ∀ x ∈ [(Instr.writeTableRail, Table.rail, (1 : Byte), (15 : Byte), clampedRail),
        (.writeTableStep, .step, 2, 255, encodeStep delay3), (.writeTableTransition, .transition, 3, 14, [3, 1, 2]),
        (.writeTableWiremap, .wiremap, 4, 63, [4]), (.writeTableWakesrc, .wakesrc, 5, 13, [15, 0]),
        (.writeTablePolicy, .policy, 6, 0, encodePolicy0 blankPolicy0), (.writeTablePolicy, .policy, 6, 1, encodePolicy1 blankPolicy1)],
      let s := writing x.2.2.1 x.2.2.2.1 x.2.2.2.2 (atLevel .working)
      (x.1, 3, x.2.2.1) ∈ requestCodes ∧ tableOf x.2.2.1.toNat = some x.2.1 ∧
        Requests s .hub (request (3 :: x.2.2.1 :: x.2.2.2.1 :: x.2.2.2.2)) ∧ x.2.2.2.2.length = recLen x.2.1 ∧
        indexOk x.2.1 x.2.2.2.1.toNat = true ∧ s.psc.state = .working ∧
        (checkRecord s x.2.1 x.2.2.2.1.toNat x.2.2.2.2).isSome = true := by decide
theorem witness_TableWrites_refused :
    let s := writing 4 63 [5] (atLevel .working)
    let t := writing 1 4 (encodeRail blankRail) (withRail .pgline .good 0)
    let u := writing 2 0 (encodeStep delay3) (inStep .delay)
    (Requests s .hub (request [3, 4, 63, 5]) ∧ checkRecord s .wiremap 63 [5] = none) ∧
      (Requests t .hub (request (3 :: 1 :: 4 :: encodeRail blankRail)) ∧
        (checkRecord t .rail 4 (encodeRail blankRail)).isSome = true ∧ (peek t.rails.stat 4).verdict ≠ .off) ∧
      Requests u .hub (request (3 :: 2 :: 0 :: encodeStep delay3)) ∧ u.psc.state = .transit ∧
        (peek (atLevel .working).rails.stat 15).verdict = .off := by decide
theorem witness_TableWrites_effects :
    let s := writing 5 13 [15, 0] (atLevel .working)
    (9 : Nat) ≤ (9 : Fin 14).val ∧ activeHigh (peek s.wake.table 8).mode = activeHigh .fall ∧
      requestedOf blankPolicy0 s.wire.level = requested s := by decide

/-- WAKESRC writes to source 4: HIGH with mask SUSPEND over LOW, and over the same mask and sense. -/
theorem witness_TableWrites_wakes :
    ∀ bs ∈ [[(2 : Byte), 2], [3, 3]],
      let s := writing 5 4 bs armingExample
      Requests s .hub (request (3 :: 5 :: 4 :: bs)) ∧ bs.length = 2 ∧ (4 : Byte).toNat = (4 : Fin 9).val ∧
        s.psc.state ≠ .loading ∧ (checkRecord s .wakesrc 4 bs).isSome = true := by decide
/-- The Policy that asks by W3, W1 and W2, all three HOLD wires, W3 standing at 1. -/
def otherPolicy (s : State) : State :=
  let held : WireEntry := { blankWire with action := .hold }
  writing 6 0 (encodePolicy0 { blankPolicy0 with reqSusp := 3 })
    (s.setWire { s.wire with map := poke (poke (poke s.wire.map 3 held) 1 held) 2 held, level := poke s.wire.level 3 true })
theorem witness_TableWrites_policy :
    ∀ s ∈ [otherPolicy (atLevel .working), otherPolicy (withLists suspendEntry), otherPolicy (gated .softOff)],
      Requests s .hub (request (3 :: 6 :: 0 :: encodePolicy0 { blankPolicy0 with reqSusp := 3 })) ∧
        (encodePolicy0 { blankPolicy0 with reqSusp := 3 }).length = 9 ∧
        (checkRecord s .policy 0 (encodePolicy0 { blankPolicy0 with reqSusp := 3 })).isSome = true ∧
        (s.psc.state = .working ∨ s.psc.state = .softOff) ∧
        requestedOf { blankPolicy0 with reqSusp := 3 } s.wire.level = .suspend ∧ requested s = .working := by decide
theorem witness_TableWrites_policy_states :
    let s := otherPolicy (withLists suspendEntry)
    EntryDelays s .working .suspend ∧ s.eng.urg.running = false ∧ s.psc.gateClosed = false ∧
      (peek (otherPolicy (atLevel .working)).psc.trans (entryIndex .working .suspend)).present = false ∧
      (otherPolicy (gated .softOff)).psc.gateClosed = true := by decide
/-- Policy record 0 with the PFAIL width and the override time at their limits, and one above each. -/
def policyBytes (width low : Byte) : List Byte := [0, 1, 2, 0, 0, low, 0x27, width, 0]
theorem witness_TableWrites_clamps :
    (checkRecord State.reset .policy 0 (policyBytes 15 0x80)).map Checked.clamped = some false ∧
      (checkRecord State.reset .policy 0 (policyBytes 16 0x80)).map Checked.clamped = some true ∧
      (checkRecord State.reset .policy 0 (policyBytes 15 0x81)).map Checked.clamped = some true := by decide
theorem witness_TableWrites_clamp_times :
    decodeTime ((0x80 : Byte).toNat + 256 * (0x27 : Byte).toNat) = some { value := 1920, unit := .t1k } ∧
      decodeTime ((0x81 : Byte).toNat + 256 * (0x27 : Byte).toNat) = some { value := 1921, unit := .t1k } :=
  ⟨rfl, rfl⟩
/-- R99: a write that adds the Armed Level to a level-mode source whose detector is ACTIVE fires it. -/
theorem test_wake_source_write_arms :
    after .writeTableWakesrc (writing 5 4 [3, 3] armingExample) (fun t =>
      decide (t.hub.tx = [noticeFrame 4] ∧ (peek t.wake.table 4).mask = 3)) = true := by decide

theorem witness_ControlsAct :
    ∀ c ∈ [(1 : Byte), 3, 4, 5, 6, 7, 8], ∀ s ∈ [inStep .delay, atLevel .working, halted],
      Requests (asked .hub [4, c] s) .hub (request [4, c]) ∧ (asked .hub [4, c] s).psc.state ≠ .loading ∧
        (asked .hub [4, c] s).psc.latch = false := by decide
theorem witness_ControlsAct_states :
    (inStep .delay).psc.state = .transit ∧ (atLevel .working).psc.state = .working ∧ halted.psc.state = .halted ∧
      latched.psc.latch = true ∧
      requested (latched.setWire { latched.wire with level := poke latched.wire.level 0 true }) ≠ .working := by decide
theorem witness_ControlsAct_elsewhere :
    let s := asked .hub [4, 5] (inStep .delay)
    let t := s.setPsc { s.psc with latch := true }
    Requests t .hub (request [4, 5]) ∧ t.psc.latch = true ∧ requested t = .working ∧ t.psc.gateClosed = false ∧
      t.psc.state ≠ .suspend ∧ t.psc.state ≠ .hibernate ∧ t.psc.state ≠ .softOff := by decide

theorem witness_ControlsAct_retries :
    ∀ b ∈ [false, true],
      let s := asked .hub [4, 5] (latchedAt b)
      Requests s .hub (request [4, 5]) ∧ s.psc.state = levelState .suspend ∧ s.psc.latch = true ∧
        s.eng.urg.running = false ∧ s.psc.gateClosed = false ∧ requested s = .working := by decide
theorem witness_ControlsAct_entries :
    EntryDelays (asked .hub [4, 5] (latchedAt true)) .suspend .working ∧
      (peek (asked .hub [4, 5] (latchedAt false)).psc.trans (entryIndex .suspend .working)).present = false ∧
      (asked .hub [4, 5] (withNotice true (latchedAt true))).psc.gateClosed = true := by decide
/-- R18: the cleared latch takes the request for WORKING again. -/
theorem test_clear_fault_retries :
    after .clearFault (asked .hub [4, 5] (latchedAt true)) (fun t =>
      decide (t.psc.state = .transit ∧ t.psc.target = .working ∧ t.psc.latch = false)) = true := by decide

theorem witness_ContinueResumes :
    let s := asked .hub [4, 2] halted
    Requests s .hub (request [4, 2]) ∧ s.psc.state = .halted ∧ s.psc.haltedFrom = some .transit ∧ s.psc.slot = none ∧
      s.eng.norm.st = .halted ∧ s.eng.urg.running = false ∧ LongDelay (peek s.eng.steps s.eng.norm.idx) ∧
      Requests (asked .hub [4, 2] (atLevel .working)) .hub (request [4, 2]) := by decide
/-- HALTED in an uncommitted transition from WORKING to SUSPEND whose back-out list begins with a DELAY, a level in the
slot. -/
def haltedWith (h : HaltedFrom) (q : Level) : State :=
  let back : TransEntry := { present := true, mainStart := 0, backout := { present := true, value := 0 } }
  asked .hub [4, 2] (halted.setPsc
    { halted.psc with haltedFrom := some h, slot := some q, trans := poke halted.psc.trans 1 back })
theorem witness_ContinueResumes_slot :
    ∀ h ∈ [HaltedFrom.transit, .backout], ∀ q ∈ [Level.working, .suspend, .softOff],
      let s := haltedWith h q
      Requests s .hub (request [4, 2]) ∧ s.psc.state = .halted ∧ s.psc.haltedFrom = some h ∧ s.psc.slot = some q ∧
        s.eng.norm.st = .halted ∧ s.eng.wait = .none ∧ s.eng.urg.running = false ∧
        LongDelay (peek s.eng.steps s.eng.norm.idx) := by decide
theorem witness_ContinueResumes_backout :
    let s := haltedWith .transit .working
    Level.working ≠ s.psc.target ∧ MayBackOut s .working ∧ ¬MayBackOut s .suspend ∧
      LongDelay (peek s.eng.steps (peek s.psc.trans (entryIndex s.psc.current s.psc.target)).backout.value) := by decide
/-- R17: the from-level in the slot begins back-out at CONTINUE. -/
theorem test_continue_backs_out :
    after .continueRun (haltedWith .transit .working) (fun t =>
      decide (t.psc.state = .backout ∧ t.psc.target = .working ∧ t.psc.slot = none)) = true := by decide

theorem witness_RecordsRoundTrip :
    ((railOf (.monitored dram)).line.val ≤ 11 ∧ clampBands dram = dram) ∧ (railOf .pgline).line.val ≤ 7 ∧
      ((15 : Fin 64).val ≤ opALimit .railOn ∧ (63 : Fin 64).val ≤ opALimit .mark) ∧
      duration { value := 1920, unit := .t1k } ≤ 1966080 := by decide
/-- R161: bytes of each table that pass its validation, at the ends of their ranges. -/
theorem witness_RecordsRoundTrip_stored :
    (checkRecord State.reset .rail 11 clampedRail).isSome = true ∧
      (checkRecord State.reset .step 255 (encodeStep delay3)).isSome = true ∧
      (checkRecord State.reset .wiremap 63 [0x1C]).isSome = true ∧
      (checkRecord State.reset .wakesrc 13 [15, 0xF3]).isSome = true ∧
      (checkRecord State.reset .policy 0 (encodePolicy0 blankPolicy0)).isSome = true := by decide
/-- R161: a STEP, a WIREMAP and a WAKESRC record, bit by bit. -/
theorem test_record_bytes :
    encodeStep { kind := .waitGood, opA := 4, opB := true, time := { value := 3, unit := .t32 }, action := .retry,
                 retry := 2, commit := true } = [0b01010011, 4, 1, 2, 0x03, 0x10] ∧
      encodeWire { dir := .up, action := .own, deflt := true } = [0b00011100] ∧
      encodeWake { mask := 0b1001, mode := .low, width := 15 } = [0b00001001, 0b11110011] ∧
      encodeTrans { present := true, mainStart := 200, backout := { present := true, value := 7 } } = [3, 200, 7] := by
  decide
theorem witness_FramesRoundTrip :
    (request (List.replicate 15 0)).kind ≠ .mgmtRsp ∧ (request (List.replicate 15 0)).payload.length ≤ 15 := by decide

/-- WORKING with one command waiting. -/
def oneWaiting : State := (atLevel .working).setPending [.tickBoundary lowLines]
/-- Its step answers a next state, as the hypotheses of the invariants ask. -/
theorem witness_StepRunsFrontCommand :
    oneWaiting.pending = .tickBoundary lowLines :: [] ∧ ∃ t, step oneWaiting = .next t := ⟨rfl, _, rfl⟩
theorem witness_EngineComesToRest : oneWaiting.eng.due = .nothing := by decide
theorem witness_ClockInvariant : ClockInv oneWaiting.clock := by decide
theorem witness_RecordInvariants : FaultInv oneWaiting.fault ∧ WakeInv oneWaiting.wake := by decide
theorem witness_QueueInvariant : QueueInv oneWaiting := by decide
theorem witness_PscInvariant : PscInv oneWaiting := by
  refine ⟨by decide, ?_, by decide, by decide, by decide⟩
  show Settled oneWaiting ∧ _
  decide
/-- WORKING with the enable lines driven and a PGLINE rail GOOD in slot 4. -/
def inService : State :=
  let s := oneWaiting
  s.setRails
    { s.rails with
      table := poke s.rails.table 4 (railOf .pgline),
      stat := poke (Vector.replicate 16 { resetStat with en := .deasserted }) 4
        { resetStat with verdict := .good, en := .asserted, outCount := 2 } }
theorem witness_RailInvariant : RailInv inService := by
  unfold RailInv
  decide
theorem witness_RailInvariant_psc : PscInv inService ∧ ∃ t, step inService = .next t := by
  refine ⟨⟨by decide, ?_, by decide, by decide, by decide⟩, _, rfl⟩
  show Settled inService ∧ _
  decide
theorem witness_step : after (.tickBoundary lowLines) (oneWaiting.setPending []) (fun t => decide (t.clock.tick = 1)) = true := by
  decide

end Sys2Proof.Tests
end

/-! PROOFS. The Sequence Engine (chapter 2): the MARK step. -/

namespace Sys2Proof.Machine

/-- The run of a MARK record is the meaning of the MARK kind. -/
theorem runKind_of_mark {r : StepRec} (s : State) (h : r.kind = .mark) : runKind r s = beginMark r s := by
  simp only [runKind, h]

/-- What a MARK step does: the mark code of operand A goes to the last mark of the in-flight report, and the
run ends with success (R41). -/
theorem beginMark_eq (r : StepRec) (s : State) :
    beginMark r s =
      succeed (s.setEng { s.eng with inflight := { s.eng.inflight with lastMark := some r.opA } }) := rfl

/-- Settles O27: the kind selects the MARK meaning, whose one effect is the report's last mark. -/
theorem markSteps : Obligations.MarkSteps := by
  intro r s hkind
  calc runKind r s = beginMark r s := runKind_of_mark s hkind
    _ = succeed (s.setEng { s.eng with inflight := { s.eng.inflight with lastMark := some r.opA } }) :=
      beginMark_eq r s

end Sys2Proof.Machine

/-! PROOFS. Rail measurement (chapter 4): the band class and the two properties of a sample. -/

namespace Sys2Proof.Machine

section SampleClasses

variable (b : Bands) (code : BitVec 10)

/-! The thresholds of R75, read as integers so that a lower end is a difference. -/

theorem overRange_iff : overRange code = true ↔ code.toNat = 1023 := by
  simp only [overRange, decide_eq_true_eq]

theorem inBand_iff (half mV : Nat) :
    inBand b half mV = true ↔ (b.nominal : Int) - half ≤ mV ∧ (mV : Int) ≤ b.nominal + half := by
  simp only [inBand, Bool.and_eq_true, decide_eq_true_eq]
  omega

theorem cast_goodHalf : (goodHalf b : Int) = b.nominal * b.tolGood / 1000 := by
  simp only [goodHalf, Int.natCast_ediv, Int.natCast_mul, Nat.cast_ofNat]

theorem cast_failHalf : (failHalf b : Int) = b.nominal * b.tolFail / 1000 := by
  simp only [failHalf, Int.natCast_ediv, Int.natCast_mul, Nat.cast_ofNat]

theorem cast_drainMv : (drainMv b : Int) = b.nominal * b.drain / 1000 := by
  simp only [drainMv, Int.natCast_ediv, Int.natCast_mul, Nat.cast_ofNat]

variable {b}

/-- The good band lies within the fail band (R75). -/
theorem goodHalf_le_failHalf (htol : b.tolGood ≤ b.tolFail) : goodHalf b ≤ failHalf b :=
  Nat.div_le_div_right (Nat.mul_le_mul_left b.nominal htol)

theorem inBand_mono {half wider mV : Nat} (hle : half ≤ wider) (hin : inBand b half mV = true) :
    inBand b wider mV = true := by
  rw [inBand_iff] at hin ⊢
  omega

variable (b)

/-! When a sample has each class and each property (R76). -/

theorem bandClass_eq_inGood_iff :
    bandClass b code = .inGood ↔
      overRange code = false ∧ inBand b (goodHalf b) (railMv code b.gain) = true := by
  unfold bandClass
  split_ifs <;> simp_all

theorem bandClass_eq_hyst_iff :
    bandClass b code = .hyst ↔
      overRange code = false ∧ inBand b (failHalf b) (railMv code b.gain) = true ∧
        inBand b (goodHalf b) (railMv code b.gain) = false := by
  unfold bandClass
  split_ifs <;> simp_all

variable {b} in
/-- Outside the fail band is outside the good band too, so the class test on the good band never hides a failure. -/
theorem bandClass_eq_outFail_iff (htol : b.tolGood ≤ b.tolFail) :
    bandClass b code = .outFail ↔
      overRange code = true ∨ inBand b (failHalf b) (railMv code b.gain) = false := by
  have hmono := inBand_mono (b := b) (mV := railMv code b.gain) (goodHalf_le_failHalf htol)
  unfold bandClass
  split_ifs <;> simp_all

theorem isOver_iff :
    isOver b code = true ↔ overRange code = true ∨ b.nominal + failHalf b < railMv code b.gain := by
  simp only [isOver, Bool.or_eq_true, decide_eq_true_eq]

theorem belowDrain_iff :
    belowDrain b code = true ↔ overRange code = false ∧ railMv code b.gain < drainMv b := by
  simp only [belowDrain, Bool.and_eq_true, Bool.not_eq_true', decide_eq_true_eq]

/-! Relations between the classes and the properties (R76). -/

variable {b code}

theorem bandClass_of_isOver (htol : b.tolGood ≤ b.tolFail) (hover : isOver b code = true) :
    bandClass b code = .outFail := by
  rw [bandClass_eq_outFail_iff code htol, ← Bool.not_eq_true (inBand _ _ _), inBand_iff]
  obtain hfull | habove := (isOver_iff b code).1 hover
  · exact .inl hfull
  · exact .inr (by omega)

theorem isOver_of_below_failBand (hfull : overRange code = false)
    (hlow : (railMv code b.gain : Int) < b.nominal - failHalf b) : isOver b code = false := by
  rw [← Bool.not_eq_true, isOver_iff, hfull]
  simp only [Bool.false_eq_true, false_or]
  omega

theorem classes_of_overRange (htol : b.tolGood ≤ b.tolFail) (hfull : overRange code = true) :
    bandClass b code = .outFail ∧ isOver b code = true ∧ belowDrain b code = false := by
  have hover : isOver b code = true := (isOver_iff b code).2 (.inl hfull)
  have hdrain : belowDrain b code = false := by simp only [belowDrain, hfull, Bool.not_true, Bool.false_and]
  exact ⟨bandClass_of_isOver htol hover, hover, hdrain⟩

theorem bandClass_of_belowDrain (htol : b.tolGood ≤ b.tolFail)
    (hbelow : (drainMv b : Int) < b.nominal - failHalf b) (hdrain : belowDrain b code = true) :
    bandClass b code = .outFail := by
  obtain ⟨-, hlow⟩ := (belowDrain_iff b code).1 hdrain
  rw [bandClass_eq_outFail_iff code htol, ← Bool.not_eq_true (inBand _ _ _), inBand_iff]
  exact .inr (by omega)

end SampleClasses

/-- From the lowest stored gain on, one code step is worth more than one millivolt before rounding
(1200 × 256 > 262144), so two codes never round to the same rail voltage. -/
theorem railMv_lt_railMv {gain : Nat} (hgain : 256 ≤ gain) {lo hi : BitVec 10} (hlt : lo.toNat < hi.toNat) :
    railMv lo gain < railMv hi gain := by
  have hstep : lo.toNat * 1200 * gain + 262144 ≤ hi.toNat * 1200 * gain := by
    calc lo.toNat * 1200 * gain + 262144
        ≤ lo.toNat * 1200 * gain + 1200 * gain := by omega
      _ = (lo.toNat + 1) * 1200 * gain := by ring
      _ ≤ hi.toNat * 1200 * gain := by gcongr; exact hlt
  unfold railMv
  omega

/-- The code is determined by the rail voltage it gives; so is all that is derived from the code. -/
theorem railMv_injective {gain : Nat} (hgain : 256 ≤ gain) : Function.Injective (railMv · gain) := by
  intro c d (hmV : railMv c gain = railMv d gain)
  refine BitVec.eq_of_toNat_eq (le_antisymm (not_lt.1 fun hlt => ?_) (not_lt.1 fun hlt => ?_))
  · exact (railMv_lt_railMv hgain hlt).ne' hmV
  · exact (railMv_lt_railMv hgain hlt).ne hmV

/-- Settles O12: the conditions and relations of R76 read over the integers, and the code recovered from the
rail voltage. -/
theorem bandClasses : Obligations.BandClasses := by
  intro b code htol _
  dsimp only
  simp only [← cast_goodHalf, ← cast_failHalf, ← cast_drainMv, ← inBand_iff, ← overRange_iff,
    Bool.not_eq_true]
  refine ⟨bandClass_eq_inGood_iff b code, bandClass_eq_hyst_iff b code, bandClass_eq_outFail_iff code htol,
    ?above, ?low, bandClass_of_isOver htol, isOver_of_below_failBand, classes_of_overRange htol,
    bandClass_of_belowDrain htol, ?determined⟩
  case above => rw [isOver_iff]; norm_cast
  case low => rw [belowDrain_iff]; norm_cast
  case determined =>
    intro other hgain hmV
    obtain rfl : other = code := railMv_injective hgain hmV
    exact ⟨rfl, rfl, rfl⟩

end Sys2Proof.Machine

/-! PROOFS. What the operations below the engine can do to a step that waits: they leave it waiting or end it,
and say nothing else to the engine. -/

namespace Sys2Proof.Machine

/-- How the wait of state `s` may end where the Hold Queue is left as in `t` (R25, R28, R43, R86): a drain is over only
with an empty queue, and only a waiting step succeeds or fails. -/
def Ending (s t : State) : RunEnd → Prop
  | .ok => s.eng.wait = .step ∧ channelRuns s = true ∧ (s.eng.cur.kind = .endList → t.wire.queue = [])
  | .failed _ => s.eng.wait = .step ∧ channelRuns s = true
  | .runawayDrained => s.eng.wait = .runaway ∧ t.wire.queue = []
  | .builtinDrained => s.eng.wait = .builtin ∧ t.wire.queue = []

/-- State `t` comes from `s` by an operation below the engine: the PSC and the loader as they were, hold not set, an
empty Hold Queue left empty, and of the engine only the in-flight report moved and the wait ended (R62, R124). -/
structure Ends (s t : State) : Prop where
  psc : t.psc = s.psc
  loader : t.loader = s.loader
  hold : t.wire.hold = true → s.wire.hold = true
  queue : s.wire.queue = [] → t.wire.queue = []
  engine : t.eng = { s.eng with wait := t.eng.wait, due := t.eng.due, inflight := t.eng.inflight }
  isOpen : t.eng.inflight.isOpen = s.eng.inflight.isOpen
  ended : (t.eng.wait = s.eng.wait ∧ t.eng.due = s.eng.due) ∨
    ∃ e, Ending s t e ∧ t.eng.wait = .none ∧ t.eng.due = .runEnded e

/-- A wait that can end is one. -/
theorem Ending.wait_ne_none {s t : State} {e : RunEnd} (h : Ending s t e) : s.eng.wait ≠ .none := by
  cases e <;> intro hn <;> simp_all [Ending]

variable {r s t u : State}

theorem Ends.norm (h : Ends s t) : t.eng.norm = s.eng.norm := by rw [h.engine]
theorem Ends.urg (h : Ends s t) : t.eng.urg = s.eng.urg := by rw [h.engine]
theorem Ends.cur (h : Ends s t) : t.eng.cur = s.eng.cur := by rw [h.engine]
theorem Ends.channelRuns (h : Ends s t) : channelRuns t = channelRuns s := by
  simp only [Machine.channelRuns, h.norm, h.urg]

theorem Ends.refl (s : State) : Ends s s := ⟨rfl, rfl, id, id, rfl, rfl, .inl ⟨rfl, rfl⟩⟩

/-- An end of the wait in a later state is one seen from the earlier state in which the same step waits. -/
theorem Ending.of_waiting (h : Ends s t) (hw : t.eng.wait = s.eng.wait) {e : RunEnd} (he : Ending t u e) :
    Ending s u e := by
  cases e <;> simpa only [Ending, hw, h.channelRuns, h.cur] using he

/-- An end of the wait stays one while an empty queue stays empty. -/
theorem Ending.of_later (h : Ends t u) {e : RunEnd} (he : Ending s t e) : Ending s u e := by
  have hq := h.queue
  cases e <;> simp only [Ending] at he ⊢ <;> tauto

theorem Ends.trans (h : Ends s t) (g : Ends t u) : Ends s u where
  psc := g.psc.trans h.psc
  loader := g.loader.trans h.loader
  hold hu := h.hold (g.hold hu)
  queue hs := g.queue (h.queue hs)
  engine := by rw [g.engine, h.engine]
  isOpen := g.isOpen.trans h.isOpen
  ended := by
    obtain ⟨gw, gd⟩ | ⟨e, ge, gw, gd⟩ := g.ended
    · obtain ⟨hw, hd⟩ | ⟨e, he, hw, hd⟩ := h.ended
      · exact .inl ⟨gw.trans hw, gd.trans hd⟩
      · exact .inr ⟨e, he.of_later g, gw.trans hw, gd.trans hd⟩
    · obtain ⟨hw, -⟩ | ⟨e', -, hw, -⟩ := h.ended
      · exact .inr ⟨e, ge.of_waiting h hw, gw, gd⟩
      · exact absurd hw ge.wait_ne_none

/-- With nothing awaited, the engine but for its report stays as it was. -/
theorem Ends.of_wait_none (h : Ends s t) (hw : s.eng.wait = .none) : t.eng.wait = .none ∧ t.eng.due = s.eng.due := by
  obtain ⟨hw', hd⟩ | ⟨e, he, -⟩ := h.ended
  · exact ⟨hw'.trans hw, hd⟩
  · exact absurd hw he.wait_ne_none

/-! ## The operations, innermost first -/

/-- An operation that leaves the engine alone, sets no hold and fills no empty queue. -/
theorem Ends.of_same (hp : t.psc = s.psc) (hl : t.loader = s.loader) (he : t.eng = s.eng)
    (hh : t.wire.hold = true → s.wire.hold = true) (hq : s.wire.queue = [] → t.wire.queue = []) : Ends s t :=
  ⟨hp, hl, hh, hq, by rw [he], by rw [he], .inl (by rw [he]; exact ⟨rfl, rfl⟩)⟩

/-- An operation that leaves PSC, loader, engine and classifier alone. -/
theorem Ends.of_frame (h : Ends r s)
    (hf : t.psc = s.psc ∧ t.loader = s.loader ∧ t.eng = s.eng ∧ t.wire = s.wire) : Ends r t := by
  obtain ⟨hp, hl, he, hw⟩ := hf
  exact h.trans (.of_same hp hl he (by rw [hw]; exact id) (by rw [hw]; exact id))

theorem Ends.ite {c : Prop} [Decidable c] (ht : c → Ends r s) (he : ¬c → Ends r t) :
    Ends r (if c then s else t) := by
  split
  · exact ht ‹_›
  · exact he ‹_›

theorem ends_setRails {x : Rails} (h : Ends r s) : Ends r (s.setRails x) := h.of_frame (by simp)
theorem ends_setWake {x : Wake} (h : Ends r s) : Ends r (s.setWake x) := h.of_frame (by simp)
theorem ends_setClock {x : Clock} (h : Ends r s) : Ends r (s.setClock x) := h.of_frame (by simp)
theorem ends_setPins {x : Pins} (h : Ends r s) : Ends r (s.setPins x) := h.of_frame (by simp)
theorem ends_setBoundary {x : Boundary} (h : Ends r s) : Ends r (s.setBoundary x) := h.of_frame (by simp)
theorem ends_setFault {x : FaultRecord} (h : Ends r s) : Ends r (s.setFault x) := h.of_frame (by simp)
theorem ends_setLink {p : Port} {l : Link} (h : Ends r s) : Ends r (setLink s p l) := h.of_frame (by simp)
theorem ends_countPort {p : Port} {f : PortCounters → PortCounters} (h : Ends r s) : Ends r (countPort p f s) :=
  ends_setLink h
theorem ends_queueTx {p : Port} {f : Frame} (h : Ends r s) : Ends r (queueTx p f s) := ends_setLink h
theorem ends_dropWaiting {p : Port} (h : Ends r s) : Ends r (dropWaiting p s) := ends_setLink h
theorem ends_joinWaiting {p : Port} {f : Internal} (h : Ends r s) : Ends r (joinWaiting p f s) :=
  h.of_frame (by simp)
theorem ends_withdrawSendWire (h : Ends r s) : Ends r (withdrawSendWire s) := h.of_frame (by simp)
theorem ends_ensureDrain (h : Ends r s) : Ends r (ensureDrain s) := h.of_frame (by simp)
theorem ends_driveLine {n : Fin 8} {b : Bool} (h : Ends r s) : Ends r (driveLine n b s) := ends_setPins h

/-- A change of the classifier that sets no hold and fills no empty queue. -/
theorem ends_setWire {x : Classifier} (hh : x.hold = true → s.wire.hold = true)
    (hq : s.wire.queue = [] → x.queue = []) (h : Ends r s) : Ends r (s.setWire x) :=
  h.trans (.of_same rfl rfl rfl hh hq)

theorem ends_setLevel {w : Fin 64} {b : Bool} (h : Ends r s) : Ends r (setLevel w b s) := ends_setWire id id h

/-- The end of a wait, where the wait may so end. -/
theorem ends_endRunWith {e : RunEnd} (he : Ending s s e) (h : Ends r s) : Ends r (endRunWith e s) :=
  h.trans ⟨rfl, rfl, id, id, rfl, rfl, .inr ⟨e, he, rfl, rfl⟩⟩

theorem waitsIn_iff {k : StepKind} :
    waitsIn s k = true ↔ s.eng.wait = .step ∧ s.eng.cur.kind = k ∧ channelRuns s = true := by
  simp [waitsIn, and_assoc]

/-- A waiting step other than an END that is handed its success. -/
theorem ends_handOn_ok {k : StepKind} (hk : k ≠ .endList) (h : Ends r s) : Ends r (handOn k .ok s) := by
  unfold handOn
  refine .ite (fun hw => ends_endRunWith ?_ h) fun _ => h
  obtain ⟨hwait, rfl, hrun⟩ := waitsIn_iff.1 hw
  exact ⟨hwait, hrun, fun he => absurd he hk⟩

theorem ends_handOn_failed {k : StepKind} {f : FailKind} (h : Ends r s) : Ends r (handOn k (.failed f) s) := by
  unfold handOn
  refine .ite (fun hw => ends_endRunWith ?_ h) fun _ => h
  obtain ⟨hwait, -, hrun⟩ := waitsIn_iff.1 hw
  exact ⟨hwait, hrun⟩

theorem ends_handOnDrained (h : Ends r s) : Ends r (handOnDrained s) := by
  unfold handOnDrained
  refine .ite (fun _ => h) fun hq => ?_
  have hq : s.wire.queue = [] := not_not.1 hq
  cases hw : s.eng.wait with
  | none => exact h
  | step =>
    refine .ite (fun hk => ends_endRunWith ⟨hw, ?_, fun _ => hq⟩ h) fun _ => h
    obtain hk | hk := Bool.or_eq_true_iff.1 hk
    · exact (waitsIn_iff.1 hk).2.2
    · exact (waitsIn_iff.1 hk).2.2
  | runaway => exact ends_endRunWith ⟨hw, hq⟩ h
  | builtin => exact ends_endRunWith ⟨hw, hq⟩ h

theorem ends_takeDrain {p : Port} (h : Ends r s) : Ends r (takeDrain p s) := by
  unfold takeDrain
  refine .ite (fun _ => h) fun _ => ?_
  refine ends_handOnDrained (ends_ensureDrain (ends_setWire ?_ ?_ (ends_queueTx h)))
  · simp
  · simp +contextual

theorem ends_takeOldest {p : Port} (h : Ends r s) : Ends r (takeOldest p s) := by
  unfold takeOldest
  split
  · exact h
  · exact ends_queueTx (ends_dropWaiting h)
  · exact ends_queueTx (ends_dropWaiting h)
  · exact ends_takeDrain (ends_dropWaiting h)
  · exact ends_handOn_ok (by simp) (ends_setLevel (ends_queueTx (ends_dropWaiting h)))

theorem ends_pumpN {n : Nat} (h : Ends r s) : Ends r (pumpN n s) := by
  induction n generalizing s with
  | zero => exact h
  | succ n ih => exact .ite (fun _ => ih (ends_takeOldest h)) fun _ => .ite (fun _ => ih (ends_takeOldest h)) fun _ => h

theorem ends_pump (h : Ends r s) : Ends r (pump s) := ends_pumpN h

theorem ends_createInternal {p : Port} {f : Internal} (h : Ends r s) : Ends r (createInternal p f s) :=
  ends_pump (ends_joinWaiting h)

theorem ends_liftHold (h : Ends r s) : Ends r (liftHold s) :=
  .ite (fun _ => ends_pump (ends_ensureDrain (ends_setWire (by simp) id h))) fun _ => h

theorem ends_sendOffNotice {b : Bool} (h : Ends r s) : Ends r (sendOffNotice b s) :=
  .ite (fun _ => ends_createInternal (ends_setLevel h)) fun _ => h

theorem ends_createNotice {src : Fin 14} (h : Ends r s) : Ends r (createNotice src s) :=
  .ite (fun _ => h) fun _ => .ite (fun _ => ends_countPort h) fun _ => ends_createInternal h

theorem ends_takeFire {src : Fin 14} (h : Ends r s) : Ends r (takeFire src s) :=
  .ite (fun _ => ends_createNotice h) fun _ => .ite (fun _ => ends_setWake h) fun _ =>
    .ite (fun _ => ends_createNotice (ends_setWake h)) fun _ => ends_setWake h

theorem ends_fire {src : Fin 14} (h : Ends r s) : Ends r (fire src s) := .ite (fun _ => ends_takeFire h) fun _ => h

theorem ends_foldl {α : Type} {f : State → α → State} (hf : ∀ s a, Ends s (f s a)) (l : List α) (h : Ends r s) :
    Ends r (l.foldl f s) := by
  induction l generalizing s with
  | nil => exact h
  | cons a l ih => exact ih (h.trans (hf s a))

theorem ends_armingFire {a b : Level} {n : Fin 9} (h : Ends r s) : Ends r (armingFire a b s n) :=
  .ite (fun _ => ends_takeFire h) fun _ => h

theorem ends_setArmed {l : Level} (h : Ends r s) : Ends r (setArmed l s) :=
  ends_foldl (fun s _ => ends_armingFire (.refl s)) _ (ends_setWake h)

theorem ends_forceFast (h : Ends r s) : Ends r (forceFast s) := .ite (fun _ => ends_setClock h) fun _ => h

theorem ends_clockDown (h : Ends r s) : Ends r (clockDown s) := .ite (fun _ => h) fun _ => ends_setClock h

theorem ends_handOnFastLoop (h : Ends r s) : Ends r (handOnFastLoop s) :=
  .ite (fun _ => ends_handOn_ok (by simp) h) fun _ => h

theorem ends_setLocked (h : Ends r s) : Ends r (setLocked s) :=
  .ite (fun _ => h) fun _ => ends_handOnFastLoop (ends_setClock h)

/-- A change of the in-flight report that neither opens nor closes it. -/
theorem ends_onReport {f : Report → Report} (hf : ∀ x, (f x).isOpen = x.isOpen) (h : Ends r s) :
    Ends r (onReport f s) :=
  h.trans ⟨rfl, rfl, id, id, rfl, hf _, .inl ⟨rfl, rfl⟩⟩

theorem ends_setStat {slot : Fin 16} {x : RailStat} (h : Ends r s) : Ends r (setStat slot x s) := ends_setRails h
theorem ends_setEn {slot : Fin 16} {e : EnLevel} (h : Ends r s) : Ends r (setEn slot e s) := ends_setRails h

theorem ends_writeGoodTime {slot : Fin 16} (h : Ends r s) : Ends r (writeGoodTime slot s) :=
  .ite (fun _ => ends_onReport (fun _ => rfl) h) fun _ => h

theorem ends_handOnVerdict {slot : Fin 16} {v : Verdict} (h : Ends r s) : Ends r (handOnVerdict slot v s) := by
  refine .ite (fun _ => h) fun _ => ?_
  cases v with
  | good => exact ends_handOn_ok (by simp) h
  | lost => exact .ite (fun _ => h) fun _ => ends_handOn_failed h
  | off => exact ends_handOn_ok (by simp) h
  | rising => exact h
  | draining => exact h

theorem ends_moveVerdict {slot : Fin 16} {v : Verdict} (h : Ends r s) : Ends r (moveVerdict slot v s) :=
  ends_handOnVerdict (.ite (fun _ => ends_writeGoodTime (ends_setStat h)) fun _ => ends_setStat h)

theorem ends_railOn {slot : Fin 16} (h : Ends r s) : Ends r (railOn slot s) := by
  have hup : Ends r (moveVerdict slot .rising (setEn slot .asserted s)) := ends_moveVerdict (ends_setEn h)
  unfold railOn
  split
  · dsimp only
    split
    · exact .ite (fun _ => ends_moveVerdict hup) fun _ => hup
    · exact hup
  · dsimp only
    split
    · exact .ite (fun _ => ends_moveVerdict hup) fun _ => hup
    · exact hup
  all_goals exact h

theorem ends_railOff {slot : Fin 16} (h : Ends r s) : Ends r (railOff slot s) := by
  have hdown : Ends r (moveVerdict slot .draining (setEn slot .deasserted s)) := ends_moveVerdict (ends_setEn h)
  unfold railOff
  split
  all_goals try exact h
  all_goals
    dsimp only
    split
    · exact .ite (fun _ => ends_moveVerdict hdown) fun _ => hdown
    · exact hdown

theorem ends_shutdownRails (h : Ends r s) : Ends r (shutdownRails s) :=
  ends_foldl (fun s _ => .ite (fun _ => ends_railOff (.refl s)) fun _ => .refl s) _ h

/-! ## A run as it begins: a step that waits, whose wait may be over at once (R25, R26) -/

/-- A step waits after an operation, as it would have before it. -/
theorem Ends.awaitStep (hw : s.eng.wait = .none) (hd : s.eng.due = .nothing) (h : Ends s t) :
    Ends (awaitStep s) (Machine.awaitStep t) where
  psc := h.psc
  loader := h.loader
  hold := h.hold
  queue := h.queue
  engine := by simp only [Machine.awaitStep, State.setEng_eng]; rw [h.engine]
  isOpen := h.isOpen
  ended := .inl ⟨rfl, by simpa [Machine.awaitStep, hd] using (h.of_wait_none hw).2⟩

/-- A run that ends as it begins ends a step that waited. -/
theorem Ends.endRun {e : RunEnd} (he : Ending (Machine.awaitStep s) t e) (h : Ends s t) :
    Ends (Machine.awaitStep s) (endRunWith e t) where
  psc := h.psc
  loader := h.loader
  hold := h.hold
  queue := h.queue
  engine := by simp only [endRunWith, Machine.awaitStep, State.setEng_eng]; rw [h.engine]
  isOpen := h.isOpen
  ended := .inr ⟨e, by cases e <;> exact he, rfl, rfl⟩

section Begin

variable {rec : StepRec} (hw : s.eng.wait = .none) (hd : s.eng.due = .nothing) (hrun : channelRuns s = true)
  (hcur : s.eng.cur.kind = rec.kind)
include hrun

/-- A failure at once is that of a step of the running channel. -/
theorem ending_failed {k : FailKind} : Ending (Machine.awaitStep s) t (.failed k) := ⟨rfl, hrun⟩

/-- A success at once, but for an END, is that of a step of the running channel. -/
theorem ending_ok (hk : s.eng.cur.kind ≠ .endList) : Ending (Machine.awaitStep s) t .ok :=
  ⟨rfl, hrun, fun he => absurd he hk⟩

include hw hd

theorem ends_awaitOrTimeout (h : Ends s t) : Ends (awaitStep s) (awaitOrTimeout rec t) :=
  .ite (fun _ => h.endRun (ending_failed hrun)) fun _ => h.awaitStep hw hd

theorem ends_beginEnd : Ends (awaitStep s) (beginEnd s) :=
  have hlift : Ends s (liftHold s) := ends_liftHold (.refl s)
  .ite (fun hq => hlift.endRun ⟨rfl, hrun, fun _ => hq⟩) fun _ => hlift.awaitStep hw hd

omit hw hd in
theorem ends_beginSendWire : Ends (awaitStep s) (beginSendWire rec s) := by
  refine .ite (fun _ => (Ends.refl s).endRun (ending_failed hrun)) fun _ => ?_
  have hsend : Ends (awaitStep s) (createInternal (portOf (wireDir s rec.opA))
      (.sendWire { wire := rec.opA, level := rec.opB }) (awaitStep s)) := ends_createInternal (.refl _)
  refine .ite (fun hwait => ends_endRunWith ⟨hwait.1, ?_⟩ (ends_withdrawSendWire hsend)) fun _ => hsend
  simpa [channelRuns] using hsend.channelRuns.trans hrun

include hcur

/-- The run of a record of the running channel is a wait that may be over at once. -/
theorem ends_runKind : Ends (awaitStep s) (runKind rec s) := by
  have hnot {k : StepKind} (hk : rec.kind = k) (hne : k ≠ .endList) : s.eng.cur.kind ≠ .endList := by
    rw [hcur, hk]
    exact hne
  have hfail {k : FailKind} : Ends (awaitStep s) (failWith k s) := (Ends.refl s).endRun (ending_failed hrun)
  unfold runKind
  split
  next => exact ends_beginEnd hw hd hrun
  next hk =>
    have hok := ending_ok (t := railOn (slotOf rec) s) hrun (hnot hk (by simp))
    exact .ite (fun _ => hfail) fun _ => .ite (fun _ => hfail) fun _ => (ends_railOn (.refl s)).endRun hok
  next hk =>
    have hok := ending_ok (t := railOff (slotOf rec) s) hrun (hnot hk (by simp))
    exact .ite (fun _ => hfail) fun _ => .ite (fun _ => hfail) fun _ => (ends_railOff (.refl s)).endRun hok
  next hk =>
    refine .ite (fun _ => hfail) fun _ => ?_
    split
    · exact (Ends.refl s).endRun (ending_ok hrun (hnot hk (by simp)))
    · exact hfail
    all_goals exact ends_awaitOrTimeout hw hd hrun (.refl s)
  next hk =>
    exact .ite (fun _ => hfail) fun _ => .ite (fun _ => (Ends.refl s).endRun (ending_ok hrun (hnot hk (by simp))))
      fun _ => ends_awaitOrTimeout hw hd hrun (.refl s)
  next hk =>
    exact .ite (fun _ => (Ends.refl s).endRun (ending_ok hrun (hnot hk (by simp)))) fun _ =>
      (Ends.refl s).awaitStep hw hd
  next hk => exact (ends_driveLine (.refl s)).endRun (ending_ok hrun (hnot hk (by simp)))
  next hk =>
    exact .ite (fun _ => (Ends.refl s).endRun (ending_ok hrun (hnot hk (by simp)))) fun _ =>
      ends_awaitOrTimeout hw hd hrun (.refl s)
  next hk =>
    exact .ite (fun _ => (ends_driveLine (ends_driveLine (.refl s))).endRun (ending_ok hrun (hnot hk (by simp))))
      fun _ => (ends_driveLine (.refl s)).awaitStep hw hd
  next => exact ends_beginSendWire hrun
  next hk =>
    have hlift : Ends s (liftHold s) := ends_liftHold (.refl s)
    have hok : Ends (awaitStep s) (succeed (liftHold s)) := hlift.endRun (ending_ok hrun (hnot hk (by simp)))
    exact .ite (fun _ => hok) fun _ => .ite (fun _ => hlift.endRun (ending_failed hrun)) fun _ =>
      .ite (fun _ => hok) fun _ => hlift.awaitStep hw hd
  next hk =>
    exact .ite (fun _ => (Ends.refl s).endRun (ending_ok hrun (hnot hk (by simp)))) fun _ =>
      ends_awaitOrTimeout hw hd hrun (ends_forceFast (.refl s))
  next hk => exact (ends_clockDown (.refl s)).endRun (ending_ok hrun (hnot hk (by simp)))
  next hk => exact (ends_setArmed (.refl s)).endRun (ending_ok hrun (hnot hk (by simp)))
  next hk =>
    have hmark := ends_onReport (f := fun x => { x with lastMark := some rec.opA }) (fun _ => rfl) (.refl s)
    exact hmark.endRun (ending_ok hrun (hnot hk (by simp)))

end Begin

end Sys2Proof.Machine

/-! PROOFS. What every operation keeps of the blocks it works on: the relations of the Clock Unit, the Fault Record, the
Wake Unit, the rails and the queues, with the end of a run handed to an engine that waits for nothing else. -/

namespace Sys2Proof.Machine

/-- The end of a run stands due only where nothing is awaited any more (R25, R43). -/
def Calm (s : State) : Prop := ∀ e, s.eng.due = .runEnded e → s.eng.wait = .none

/-- Most WAKE notices that wait at a port (R107, R146). -/
def noticeRoom : Port → Nat
  | .hub => 16
  | .board => 0

/-- A port within an event: its queues keep their capacities with the slot kept for a frame being formed counted as
taken, and are empty in reset (R120, R142, R145, R146, R147). -/
def PortMid (s : State) (p : Port) : Prop :=
  rxInUse (link s p) ≤ 4 ∧ (link s p).tx.length + (if s.wire.kept = some p then 1 else 0) ≤ 8 ∧
    noticesWaiting (link s p) ≤ noticeRoom p ∧
    (s.powered = true → s.lrst = true →
      (link s p).rx = [] ∧ (link s p).receiving = none ∧ (link s p).tx = [] ∧ (link s p).waiting = [])

/-- The queues within an event. -/
def QueueMid (s : State) : Prop := (∀ p, PortMid s p) ∧ s.wire.queue.length ≤ 16

/-- The rails outside the image load. -/
def RailsOk (x : Rails) : Prop := ∀ n : Fin 16, RailRelation false (peek x.table n) (peek x.stat n)

/-- The image load is over (R1, R140). -/
def Loaded (s : State) : Prop := s.psc.state ≠ .loading ∧ s.loader.phase = .done

/-- State `t` comes from `s` by operations that keep the relations of each block; the load is not begun again. -/
structure KeepsBlocks (s t : State) : Prop where
  clock : ClockInv s.clock → ClockInv t.clock
  fault : FaultInv s.fault → FaultInv t.fault
  wake : WakeInv s.wake → WakeInv t.wake
  calm : Calm s → Calm t
  loaded : Loaded s → Loaded t
  rails : Loaded s → RailsOk s.rails → RailsOk t.rails

/-- Besides, the queues keep their capacities, the slot kept for a frame stays kept and LRST keeps its level. -/
structure Keeps (s t : State) : Prop extends KeepsBlocks s t where
  kept : t.wire.kept = s.wire.kept
  lrst : t.lrst = s.lrst
  queues : QueueMid s → QueueMid t

variable {r s t u : State}

theorem KeepsBlocks.trans (h : KeepsBlocks s t) (g : KeepsBlocks t u) : KeepsBlocks s u where
  clock := g.clock ∘ h.clock
  fault := g.fault ∘ h.fault
  wake := g.wake ∘ h.wake
  calm := g.calm ∘ h.calm
  loaded := g.loaded ∘ h.loaded
  rails hs := g.rails (h.loaded hs) ∘ h.rails hs

theorem KeepsBlocks.refl (s : State) : KeepsBlocks s s := ⟨id, id, id, id, id, fun _ => id⟩
theorem Keeps.refl (s : State) : Keeps s s := ⟨.refl s, rfl, rfl, id⟩

theorem Keeps.trans (h : Keeps s t) (g : Keeps t u) : Keeps s u :=
  ⟨h.toKeepsBlocks.trans g.toKeepsBlocks, g.kept.trans h.kept, g.lrst.trans h.lrst, g.queues ∘ h.queues⟩

theorem Keeps.ite {c : Prop} [Decidable c] (ht : c → Keeps r s) (he : ¬c → Keeps r t) :
    Keeps r (if c then s else t) := by
  split
  · exact ht ‹_›
  · exact he ‹_›

theorem keeps_foldl {α : Type} {f : State → α → State} (hf : ∀ s a, Keeps s (f s a)) (l : List α) (h : Keeps r s) :
    Keeps r (l.foldl f s) := by
  induction l generalizing s with
  | nil => exact h
  | cons a l ih => exact ih (h.trans (hf s a))

/-! ## One block replaced -/

theorem keeps_setPsc {x : Psc} (hx : s.psc.state ≠ .loading → x.state ≠ .loading) (h : Keeps r s) :
    Keeps r (s.setPsc x) :=
  h.trans ⟨⟨id, id, id, id, fun ⟨hs, hdone⟩ => ⟨hx hs, hdone⟩, fun _ => id⟩, rfl, rfl, id⟩

/-- A change of the engine that hands over no end of a run beside a wait. -/
theorem keeps_setEng {x : Engine}
    (hx : (x.wait = s.eng.wait ∧ x.due = s.eng.due) ∨ x.wait = .none ∨ ∀ e, x.due ≠ .runEnded e)
    (h : Keeps r s) : Keeps r (s.setEng x) := by
  refine h.trans ⟨⟨id, id, id, fun hs => ?_, id, fun _ => id⟩, rfl, rfl, id⟩
  intro e he
  obtain ⟨hw, hd⟩ | hw | hd := hx
  · exact hw.trans (hs e (hd.symm.trans he))
  · exact hw
  · exact absurd he (hd e)

/-- A wait begins with nothing due. -/
theorem keeps_await {w : Wait} (hd : Calm r → s.eng.due = .nothing) (h : Keeps r s) :
    Keeps r (s.setEng { s.eng with wait := w }) :=
  ⟨⟨h.clock, h.fault, h.wake, fun hr e he => by simp [hd hr] at he, h.loaded, h.rails⟩, h.kept, h.lrst, h.queues⟩

theorem keeps_setAgent {x : Option Service} (h : Keeps r s) : Keeps r (s.setAgent x) :=
  h.trans ⟨⟨id, id, id, id, id, fun _ => id⟩, rfl, rfl, id⟩
theorem keeps_setLoader {x : Loader} (hx : Loaded r → s.loader.phase = .done → x.phase = .done) (h : Keeps r s) :
    Keeps r (s.setLoader x) :=
  ⟨⟨h.clock, h.fault, h.wake, h.calm, fun hr => ⟨(h.loaded hr).1, hx hr (h.loaded hr).2⟩, h.rails⟩, h.kept, h.lrst,
    h.queues⟩
theorem keeps_setPins {x : Pins} (h : Keeps r s) : Keeps r (s.setPins x) :=
  h.trans ⟨⟨id, id, id, id, id, fun _ => id⟩, rfl, rfl, id⟩
theorem keeps_setBoundary {x : Boundary} (h : Keeps r s) : Keeps r (s.setBoundary x) :=
  h.trans ⟨⟨id, id, id, id, id, fun _ => id⟩, rfl, rfl, id⟩
theorem keeps_setUses {x : Nat} (h : Keeps r s) : Keeps r (s.setUses x) :=
  h.trans ⟨⟨id, id, id, id, id, fun _ => id⟩, rfl, rfl, id⟩
theorem keeps_setClock {x : Clock} (hx : ClockInv s.clock → ClockInv x) (h : Keeps r s) : Keeps r (s.setClock x) :=
  h.trans ⟨⟨hx, id, id, id, id, fun _ => id⟩, rfl, rfl, id⟩
theorem keeps_setFault {x : FaultRecord} (hx : FaultInv s.fault → FaultInv x) (h : Keeps r s) :
    Keeps r (s.setFault x) :=
  h.trans ⟨⟨id, hx, id, id, id, fun _ => id⟩, rfl, rfl, id⟩
theorem keeps_setWake {x : Wake} (hx : WakeInv s.wake → WakeInv x) (h : Keeps r s) : Keeps r (s.setWake x) :=
  h.trans ⟨⟨id, id, hx, id, id, fun _ => id⟩, rfl, rfl, id⟩
theorem keeps_setRails {x : Rails} (hx : Loaded r → RailsOk s.rails → RailsOk x) (h : Keeps r s) :
    Keeps r (s.setRails x) :=
  ⟨⟨h.clock, h.fault, h.wake, h.calm, h.loaded, fun hr hs => hx hr (h.rails hr hs)⟩, h.kept, h.lrst, h.queues⟩
theorem keeps_setWire {x : Classifier} (hk : x.kept = s.wire.kept)
    (hq : s.wire.queue.length ≤ 16 → x.queue.length ≤ 16) (h : Keeps r s) : Keeps r (s.setWire x) := by
  refine h.trans ⟨⟨id, id, id, id, id, fun _ => id⟩, hk, rfl, fun hs => ⟨fun p => ?_, hq hs.2⟩⟩
  have hp := hs.1 p
  cases p <;> simpa [PortMid, link, hk] using hp

theorem link_setLink (s : State) (p q : Port) (l : Link) :
    link (setLink s p l) q = if q = p then l else link s q := by
  cases p <;> cases q <;> rfl

/-- A change of one port that keeps that port's capacities. -/
theorem keeps_setLink {p : Port} {l : Link} (hl : PortMid s p → PortMid (setLink s p l) p) (h : Keeps r s) :
    Keeps r (setLink s p l) := by
  refine h.trans ⟨⟨?_, ?_, ?_, ?_, ?_, ?_⟩, ?_, ?_, fun hs => ⟨fun q => ?_, ?_⟩⟩
  case refine_9 =>
    obtain rfl | hq := eq_or_ne q p
    · exact hl (hs.1 q)
    · have hp := hs.1 q
      simpa [PortMid, link_setLink, hq] using hp
  case refine_10 => simpa using hs.2
  all_goals simp [Calm, Loaded]

/-! ## Ports and their waiting frames -/

/-- A port's share of the queues by the changed link. -/
theorem portMid_setLink {p : Port} {l : Link} :
    PortMid (setLink s p l) p ↔
      rxInUse l ≤ 4 ∧ l.tx.length + (if s.wire.kept = some p then 1 else 0) ≤ 8 ∧ noticesWaiting l ≤ noticeRoom p ∧
        (s.powered = true → s.lrst = true → l.rx = [] ∧ l.receiving = none ∧ l.tx = [] ∧ l.waiting = []) := by
  simp [PortMid, link_setLink]

theorem keeps_countPort {p : Port} {f : PortCounters → PortCounters} (h : Keeps r s) : Keeps r (countPort p f s) :=
  keeps_setLink (fun hp => portMid_setLink.2 hp) h

theorem slotFree_iff {p : Port} :
    slotFree s p = true ↔
      (link s p).tx.length + (if s.wire.kept = some p then 1 else 0) < 8 ∧ s.lrst = false := by
  simp only [slotFree, Bool.and_eq_true, decide_eq_true_eq, Bool.not_eq_true']
  rfl

theorem keeps_queueTx {p : Port} {f : Frame} (hf : slotFree s p = true) (h : Keeps r s) : Keeps r (queueTx p f s) := by
  obtain ⟨hroom, hlrst⟩ := slotFree_iff.1 hf
  refine keeps_setLink (fun ⟨hrx, _, hn, _⟩ => portMid_setLink.2 ⟨hrx, ?_, hn, ?_⟩) h
  · simp only [List.length_append, List.length_singleton]
    omega
  · simp [hlrst]

/-- Whether a waiting frame is a WAKE notice. -/
def isNotice : Internal → Bool
  | .notice _ => true
  | .wires _ => false
  | .drain => false
  | .sendWire _ => false

theorem noticesWaiting_eq (l : Link) : noticesWaiting l = l.waiting.countP isNotice := by
  rw [List.countP_eq_length_filter]
  unfold noticesWaiting
  congr 2

theorem keeps_dropWaiting {p : Port} (h : Keeps r s) : Keeps r (dropWaiting p s) := by
  refine keeps_setLink (fun ⟨hrx, htx, hn, hempty⟩ => portMid_setLink.2 ⟨hrx, htx, ?_, fun hpow hl => ?_⟩) h
  · rw [noticesWaiting_eq] at hn ⊢
    exact ((List.tail_sublist _).countP_le).trans hn
  · obtain ⟨hrx, hrec, htx, hw⟩ := hempty hpow hl
    exact ⟨hrx, hrec, htx, by simp [hw]⟩

theorem keeps_joinWaiting {p : Port} {f : Internal}
    (hf : isNotice f = true → noticesWaiting (link s p) < noticeRoom p) (h : Keeps r s) :
    Keeps r (joinWaiting p f s) := by
  refine .ite (fun _ => h) fun hlrst => ?_
  refine keeps_setLink (fun ⟨hrx, htx, hn, _⟩ => portMid_setLink.2 ⟨hrx, htx, ?_, fun _ hl => absurd hl hlrst⟩) h
  rw [noticesWaiting_eq] at hn hf ⊢
  rw [List.countP_append]
  cases hnot : isNotice f with
  | false => simpa [hnot] using hn
  | true => simpa [hnot] using hf hnot

theorem keeps_filterWaiting {p : Port} {f : Internal → Bool} (h : Keeps r s) :
    Keeps r (setLink s p { link s p with waiting := (link s p).waiting.filter f }) := by
  refine keeps_setLink (fun ⟨hrx, htx, hn, hempty⟩ => portMid_setLink.2 ⟨hrx, htx, ?_, fun hpow hl => ?_⟩) h
  · rw [noticesWaiting_eq] at hn ⊢
    exact ((List.filter_sublist).countP_le).trans hn
  · obtain ⟨hrx, hrec, htx, hw⟩ := hempty hpow hl
    exact ⟨hrx, hrec, htx, by simp [hw]⟩

theorem keeps_withdrawSendWire (h : Keeps r s) : Keeps r (withdrawSendWire s) :=
  keeps_filterWaiting (p := .board) (keeps_filterWaiting (p := .hub) h)

/-! ## The end of a run, hold and the drain -/

theorem keeps_endRunWith {e : RunEnd} (h : Keeps r s) : Keeps r (endRunWith e s) := keeps_setEng (.inr (.inl rfl)) h

theorem keeps_handOn {k : StepKind} {e : RunEnd} (h : Keeps r s) : Keeps r (handOn k e s) :=
  .ite (fun _ => keeps_endRunWith h) fun _ => h

theorem keeps_handOnDrained (h : Keeps r s) : Keeps r (handOnDrained s) := by
  refine .ite (fun _ => h) fun _ => ?_
  cases s.eng.wait with
  | none => exact h
  | step => exact .ite (fun _ => keeps_endRunWith h) fun _ => h
  | runaway => exact keeps_endRunWith h
  | builtin => exact keeps_endRunWith h

theorem keeps_setLevel {w : Fin 64} {b : Bool} (h : Keeps r s) : Keeps r (setLevel w b s) := keeps_setWire rfl id h

theorem keeps_ensureDrain (h : Keeps r s) : Keeps r (ensureDrain s) := by
  unfold ensureDrain
  split
  · exact h
  · exact .ite (fun _ => h) fun _ => keeps_joinWaiting (by simp [isNotice]) h

theorem keeps_takeDrain {p : Port} (hf : slotFree s p = true) (h : Keeps r s) : Keeps r (takeDrain p s) := by
  refine .ite (fun _ => h) fun _ => keeps_handOnDrained (keeps_ensureDrain (keeps_setWire rfl ?_ (keeps_queueTx hf h)))
  intro hq
  simp only [List.length_drop]
  omega

/-- Taking the oldest frame off the waiting order frees and fills no slot. -/
theorem slotFree_dropWaiting (p : Port) (s : State) : slotFree (dropWaiting p s) p = slotFree s p := by
  cases p <;> rfl

theorem keeps_takeOldest {p : Port} (hf : slotFree s p = true) (h : Keeps r s) : Keeps r (takeOldest p s) := by
  have hf' : slotFree (dropWaiting p s) p = true := (slotFree_dropWaiting p s).trans hf
  have hdrop : Keeps r (dropWaiting p s) := keeps_dropWaiting h
  unfold takeOldest
  split
  · exact h
  · exact keeps_queueTx hf' hdrop
  · exact keeps_queueTx hf' hdrop
  · exact keeps_takeDrain hf' hdrop
  · exact keeps_handOn (keeps_setLevel (keeps_queueTx hf' hdrop))

theorem slotFree_of_canTakeOldest {p : Port} (h : canTakeOldest s p = true) : slotFree s p = true := by
  simp only [canTakeOldest, Bool.and_eq_true] at h
  exact h.1.1

theorem keeps_pumpN {n : Nat} (h : Keeps r s) : Keeps r (pumpN n s) := by
  induction n generalizing s with
  | zero => exact h
  | succ n ih =>
    exact .ite (fun hc => ih (keeps_takeOldest (slotFree_of_canTakeOldest hc) h)) fun _ =>
      .ite (fun hc => ih (keeps_takeOldest (slotFree_of_canTakeOldest hc) h)) fun _ => h

theorem keeps_pump (h : Keeps r s) : Keeps r (pump s) := keeps_pumpN h

theorem keeps_createInternal {p : Port} {f : Internal}
    (hf : isNotice f = true → noticesWaiting (link s p) < noticeRoom p) (h : Keeps r s) :
    Keeps r (createInternal p f s) :=
  keeps_pump (keeps_joinWaiting hf h)

theorem keeps_liftHold (h : Keeps r s) : Keeps r (liftHold s) :=
  .ite (fun _ => keeps_pump (keeps_ensureDrain (keeps_setWire rfl id h))) fun _ => h

theorem keeps_sendOffNotice {b : Bool} (h : Keeps r s) : Keeps r (sendOffNotice b s) :=
  .ite (fun _ => keeps_createInternal (by simp [isNotice]) (keeps_setLevel h)) fun _ => h

/-! ## Wake fires and arming -/

theorem keeps_createNotice {src : Fin 14} (h : Keeps r s) : Keeps r (createNotice src s) :=
  .ite (fun _ => h) fun _ => .ite (fun _ => keeps_countPort h) fun hroom =>
    keeps_createInternal (fun _ => by simpa [Config.noticeLimit, noticeRoom, link] using hroom) h

theorem satInc_pos {m n : Nat} (hm : 1 ≤ m) : 1 ≤ satInc m n := by
  simp only [satInc]
  omega

/-- A further fire changes no source of the queue and keeps its counts in range (R106). -/
theorem wakeInv_bump {w : Wake} {src : Fin 14} (h : WakeInv w) : WakeInv { w with queue := bumpEntry src w.queue } := by
  obtain ⟨hlen, hnodup, hcount, hmissed⟩ := h
  have hsource : (bumpEntry src w.queue).map WakeEntry.source = w.queue.map WakeEntry.source := by
    simp only [bumpEntry, List.map_map]
    refine List.map_congr_left fun e _ => ?_
    simp only [Function.comp]
    split <;> rfl
  refine ⟨by simpa [bumpEntry] using hlen, by simpa only [hsource] using hnodup, ?_, hmissed⟩
  intro e he
  obtain ⟨x, hx, rfl⟩ := List.mem_map.1 he
  split
  · exact ⟨satInc_pos (by decide), satInc_le _ _⟩
  · exact hcount x hx

/-- A new source joins a queue that has room and does not hold it (R105). -/
theorem wakeInv_append {w : Wake} {e : WakeEntry} (hroom : w.queue.length < 8)
    (hnew : e.source ∉ w.queue.map WakeEntry.source) (hcount : e.count = 1) (h : WakeInv w) :
    WakeInv { w with queue := w.queue ++ [e] } := by
  obtain ⟨hlen, hnodup, hcounts, hmissed⟩ := h
  refine ⟨by simpa using hroom, ?_, ?_, hmissed⟩
  · rw [List.map_append, List.nodup_append]
    exact ⟨hnodup, by simp, by simpa using fun a ha hae => hnew (by simpa using ⟨a, ha, hae⟩)⟩
  · intro x hx
    obtain hx | hx := List.mem_append.1 hx
    · exact hcounts x hx
    · obtain rfl := List.mem_singleton.1 hx
      omega

theorem wakeInv_miss {w : Wake} {src : Fin 14} {b : Bool} (h : WakeInv w) :
    WakeInv { w with missed := poke w.missed src (satInc Config.max8 (peek w.missed src)), overflow := b } := by
  obtain ⟨hlen, hnodup, hcount, hmissed⟩ := h
  refine ⟨hlen, hnodup, hcount, fun n => ?_⟩
  rw [peek_poke]
  split
  · exact satInc_le _ _
  · exact hmissed n

theorem keeps_takeFire {src : Fin 14} (h : Keeps r s) : Keeps r (takeFire src s) := by
  refine .ite (fun _ => keeps_createNotice h) fun _ => .ite (fun _ => keeps_setWake wakeInv_bump h) fun hnew =>
    .ite (fun hroom => keeps_createNotice (keeps_setWake (wakeInv_append hroom ?_ rfl) h)) fun _ =>
      keeps_setWake wakeInv_miss h
  simpa using hnew

theorem keeps_fire {src : Fin 14} (h : Keeps r s) : Keeps r (fire src s) := .ite (fun _ => keeps_takeFire h) fun _ => h

/-- A change of the Wake Unit outside its queue and its missed counts. -/
theorem keeps_setWake_same {x : Wake} (hq : x.queue = s.wake.queue) (hm : x.missed = s.wake.missed) (h : Keeps r s) :
    Keeps r (s.setWake x) :=
  keeps_setWake (fun hs => by simpa only [WakeInv, hq, hm] using hs) h

theorem keeps_armingFire {a b : Level} {n : Fin 9} (h : Keeps r s) : Keeps r (armingFire a b s n) :=
  .ite (fun _ => keeps_takeFire h) fun _ => h

theorem keeps_setArmed {l : Level} (h : Keeps r s) : Keeps r (setArmed l s) :=
  keeps_foldl (fun s _ => keeps_armingFire (.refl s)) _ (keeps_setWake_same rfl rfl h)

/-! ## Core clock -/

theorem clockInv_startLoop {c : Clock} (hslow : c.mode = .slow) (h : ClockInv c) :
    ClockInv { startLoop c with mode := .fastRc } := by
  have hlocked : c.locked = false := by grind
  simp_all [ClockInv, startLoop]

theorem keeps_forceFast (h : Keeps r s) : Keeps r (forceFast s) :=
  .ite (fun hslow => keeps_setClock (clockInv_startLoop hslow) h) fun _ => h

/-- LOCKED clears where the loop does not track: whatever moves the loop out of TRACKING keeps the relations if it
clears LOCKED besides (R131, R132, R134). -/
theorem clockInv_clearLocked {c : Clock} (hmode : c.mode = .fastLoop → c.locked = true)
    (hslow : c.mode = .slow ↔ c.loop = .off) (harmed : c.lossArmed = true ↔ c.source = .so)
    (hwindow : c.window.isSome = true → c.source = .so ∧ c.loop ≠ .off) (hgood : c.good = 0)
    (hchanges : c.lockChanges ≤ 255) : ClockInv (clearLocked c) := by
  have hsat : satInc Config.max8 c.lockChanges ≤ 255 := satInc_le _ _
  unfold clearLocked
  split <;> simp_all [ClockInv]
  grind

theorem clockInv_down {c : Clock} (h : ClockInv c) :
    ClockInv (clearLocked { c with mode := .slow, loop := .off, good := 0, window := none }) := by
  obtain ⟨-, -, -, harmed, -, -, -, hchanges⟩ := h
  exact clockInv_clearLocked (by simp) (by simp) harmed (by simp) rfl hchanges

theorem keeps_clockDown (h : Keeps r s) : Keeps r (clockDown s) :=
  .ite (fun _ => h) fun _ => keeps_setClock clockInv_down h

/-! ## Reports -/

theorem keeps_onReport {f : Report → Report} (h : Keeps r s) : Keeps r (onReport f s) :=
  keeps_setEng (.inl ⟨rfl, rfl⟩) h
theorem keeps_openReport {o : Origin} {a b : Level} (h : Keeps r s) : Keeps r (openReport o a b s) :=
  keeps_setEng (.inl ⟨rfl, rfl⟩) h
theorem keeps_closeReport {o : ReportOutcome} (h : Keeps r s) : Keeps r (closeReport o s) :=
  keeps_setEng (.inl ⟨rfl, rfl⟩) h

/-! ## Rail verdicts -/

/-- The status of a rail whose verdict has just changed (R62). -/
def movedStat (s : State) (slot : Fin 16) (v : Verdict) (x : RailStat) : RailStat :=
  { x with verdict := v, inCount := 0, overCount := 0, outCount := 0, lowCount := 0, timer := timerOf s slot v }

/-- What a rail's status must hold for a change to verdict `v` (R57, R61, R65). -/
def ReadyFor (v : Verdict) (c : RailRec) (x : RailStat) : Prop :=
  x.en ≠ .undriven ∧ (x.en = .asserted ↔ v = .rising ∨ v = .good ∨ v = .lost) ∧ (isNoneRail c = true → v ≠ .lost) ∧
    x.lost ≤ 255

theorem one_le_actingFilter (f : Fin 16) : 1 ≤ actingFilter f := le_max_left _ _

/-- A timer runs where a NONE rail has become RISING or DRAINING (R65, R66). -/
theorem timerOf_isSome (s : State) (slot : Fin 16) (v : Verdict) :
    (timerOf s slot v).isSome = true ↔
      isNoneRail (peek s.rails.table slot) = true ∧ (v = .rising ∨ v = .draining) := by
  unfold timerOf isNoneRail
  cases (peek s.rails.table slot).sense <;> cases v <;> simp

theorem railRelation_moved {slot : Fin 16} {v : Verdict} {x : RailStat}
    (h : ReadyFor v (peek s.rails.table slot) x) :
    RailRelation false (peek s.rails.table slot) (movedStat s slot v x) := by
  obtain ⟨hdriven, hen, hnone, hlost⟩ := h
  have hf := one_le_actingFilter (peek s.rails.table slot).filter
  exact ⟨by simpa [movedStat] using hdriven, hen, timerOf_isSome s slot v, hnone,
    ⟨⟨hf, hf, hf, hf⟩, fun _ => ⟨rfl, rfl⟩, fun _ => rfl, fun _ => rfl⟩, hlost⟩

/-- Rails in which one slot's status has been written. -/
theorem railsOk_poke {x : Rails} {slot : Fin 16} {y : RailStat} (h : RailsOk x)
    (hy : RailRelation false (peek x.table slot) y) : RailsOk { x with stat := poke x.stat slot y } := by
  intro n
  obtain rfl | hn := eq_or_ne slot n
  · rw [peek_poke_self]
    exact hy
  · rw [peek_poke_ne _ _ hn]
    exact h n

theorem keeps_setStat {slot : Fin 16} {y : RailStat}
    (hy : RailRelation false (peek s.rails.table slot) (peek s.rails.stat slot) →
      RailRelation false (peek s.rails.table slot) y) (h : Keeps r s) : Keeps r (setStat slot y s) :=
  keeps_setRails (fun _ hs => railsOk_poke hs (hy (hs slot))) h

theorem keeps_writeGoodTime {slot : Fin 16} (h : Keeps r s) : Keeps r (writeGoodTime slot s) :=
  .ite (fun _ => keeps_onReport h) fun _ => h

theorem keeps_handOnVerdict {slot : Fin 16} {v : Verdict} (h : Keeps r s) : Keeps r (handOnVerdict slot v s) := by
  refine .ite (fun _ => h) fun _ => ?_
  cases v with
  | good => exact keeps_handOn h
  | lost => exact .ite (fun _ => h) fun _ => keeps_handOn h
  | off => exact keeps_handOn h
  | rising => exact h
  | draining => exact h

theorem poke_poke {α : Type} {n : Nat} (v : Vector α n) (i : Fin n) (a b : α) : poke (poke v i a) i b = poke v i b :=
  table_ext fun j => by simp only [peek_poke]; split <;> rfl

/-- A change of verdict after the rail's status has been written: its enable line moved, its losses counted. -/
theorem keeps_moveVerdict_setStat {slot : Fin 16} {v : Verdict} {y : RailStat}
    (hy : RailRelation false (peek s.rails.table slot) (peek s.rails.stat slot) →
      ReadyFor v (peek s.rails.table slot) y) (h : Keeps r s) :
    Keeps r (moveVerdict slot v (setStat slot y s)) := by
  have hset : Keeps r (setStat slot (movedStat s slot v y) (setStat slot y s)) := by
    have htwice : setStat slot (movedStat s slot v y) (setStat slot y s) = setStat slot (movedStat s slot v y) s := by
      simp [setStat, poke_poke]
    rw [htwice]
    exact keeps_setStat (fun hs => railRelation_moved (hy hs)) h
  have hpeek : peek (setStat slot y s).rails.stat slot = y := by simp [setStat]
  unfold moveVerdict
  rw [hpeek]
  exact keeps_handOnVerdict (.ite (fun _ => keeps_writeGoodTime hset) fun _ => hset)

theorem setStat_self (slot : Fin 16) (s : State) : setStat slot (peek s.rails.stat slot) s = s := by
  have : poke s.rails.stat slot (peek s.rails.stat slot) = s.rails.stat :=
    table_ext fun j => by
      rw [peek_poke]
      split
      · subst_vars; rfl
      · rfl
  rw [setStat, this]
  rfl

theorem keeps_moveVerdict {slot : Fin 16} {v : Verdict}
    (hv : RailRelation false (peek s.rails.table slot) (peek s.rails.stat slot) →
      ReadyFor v (peek s.rails.table slot) (peek s.rails.stat slot)) (h : Keeps r s) :
    Keeps r (moveVerdict slot v s) := by
  simpa only [setStat_self] using keeps_moveVerdict_setStat hv h

/-- A rail that is on becomes GOOD as it stands. -/
theorem readyFor_good {c : RailRec} {x : RailStat} (hon : x.verdict = .rising ∨ x.verdict = .good)
    (h : RailRelation false c x) : ReadyFor .good c x := by
  obtain ⟨hdriven, hen, -, -, -, hlost⟩ := h
  refine ⟨by simpa using hdriven, ?_, by simp, hlost⟩
  rw [hen]
  tauto

/-- A draining rail becomes OFF as it stands. -/
theorem readyFor_off {c : RailRec} {x : RailStat} (hoff : x.verdict = .draining) (h : RailRelation false c x) :
    ReadyFor .off c x := by
  obtain ⟨hdriven, hen, -, -, -, hlost⟩ := h
  refine ⟨by simpa using hdriven, ?_, by simp, hlost⟩
  rw [hen, hoff]
  simp

/-- The verdict and the record of a slot whose verdict has just been moved. -/
@[simp] theorem moveVerdict_verdict (slot : Fin 16) (v : Verdict) (s : State) :
    (peek (moveVerdict slot v s).rails.stat slot).verdict = v := by
  unfold moveVerdict
  split <;> simp [setStat]

theorem keeps_railOn {slot : Fin 16} (h : Keeps r s) : Keeps r (railOn slot s) := by
  have hup : Keeps r (moveVerdict slot .rising (setEn slot .asserted s)) :=
    keeps_moveVerdict_setStat (fun ⟨_, _, _, _, _, hlost⟩ => ⟨by simp, by simp, by simp, hlost⟩) h
  have hgood : Keeps r (moveVerdict slot .good (moveVerdict slot .rising (setEn slot .asserted s))) :=
    keeps_moveVerdict (readyFor_good (.inl (moveVerdict_verdict _ _ _))) hup
  unfold railOn
  split
  all_goals try exact h
  all_goals
    dsimp only
    split
    · exact .ite (fun _ => hgood) fun _ => hup
    · exact hup

theorem keeps_railOff {slot : Fin 16} (h : Keeps r s) : Keeps r (railOff slot s) := by
  have hdown : Keeps r (moveVerdict slot .draining (setEn slot .deasserted s)) :=
    keeps_moveVerdict_setStat (fun ⟨_, _, _, _, _, hlost⟩ => ⟨by simp, by simp, by simp, hlost⟩) h
  have hoff : Keeps r (moveVerdict slot .off (moveVerdict slot .draining (setEn slot .deasserted s))) :=
    keeps_moveVerdict (readyFor_off (moveVerdict_verdict _ _ _)) hdown
  unfold railOff
  split
  all_goals try exact h
  all_goals
    dsimp only
    split
    · exact .ite (fun _ => hoff) fun _ => hdown
    · exact hdown

theorem keeps_shutdownRails (h : Keeps r s) : Keeps r (shutdownRails s) :=
  keeps_foldl (fun s _ => .ite (fun _ => keeps_railOff (.refl s)) fun _ => .refl s) _ h

theorem keeps_driveLine {n : Fin 8} {b : Bool} (h : Keeps r s) : Keeps r (driveLine n b s) := keeps_setPins h

/-! ## Channels, faults and urgent starts -/

theorem keeps_cutStep (h : Keeps r s) : Keeps r (cutStep s) := by
  refine keeps_setEng (.inr (.inl rfl)) (.ite (fun _ => ?_) fun _ => h)
  split
  · exact keeps_driveLine h
  · exact keeps_withdrawSendWire h
  · exact h

theorem keeps_idleNorm (h : Keeps r s) : Keeps r (idleNorm s) := keeps_setEng (.inl ⟨rfl, rfl⟩) h
theorem keeps_startNorm {o : NormOrigin} {i : Fin 256} (h : Keeps r s) : Keeps r (startNorm o i s) :=
  keeps_setEng (.inr (.inl rfl)) h

theorem keeps_stopNorm (h : Keeps r s) : Keeps r (stopNorm s) :=
  keeps_setEng (.inl ⟨rfl, rfl⟩) <| .ite (fun _ => h) fun _ =>
    keeps_closeReport (keeps_setEng (.inl ⟨rfl, rfl⟩) (keeps_idleNorm (keeps_cutStep h)))

theorem keeps_writeFault {c : FaultCause} {i : Fin 256} (h : Keeps r s) : Keeps r (writeFault c i s) := by
  unfold writeFault
  split
  · exact keeps_setFault (fun ⟨hfurther, hfails, _⟩ => ⟨hfurther, hfails, by simp⟩) h
  · exact keeps_setFault (fun ⟨_, hfails, _⟩ => ⟨satInc_le _ _, hfails, by simp [*]⟩) h

/-- The built-in shutdown ends no wait where nothing is awaited. -/
theorem due_shutdownRails (hw : s.eng.wait = .none) : (shutdownRails s).eng.due = s.eng.due :=
  ((ends_shutdownRails (.refl s)).of_wait_none hw).2

theorem keeps_startUrgentList {k : UrgKind} (h : Keeps r s) : Keeps r (startUrgentList k s) := by
  refine .ite (fun _ => keeps_setEng (.inr (.inl rfl)) h) fun _ => ?_
  refine .ite (fun _ => keeps_endRunWith (keeps_shutdownRails (keeps_setEng (.inr (.inl rfl)) h))) fun _ => ?_
  exact keeps_await (fun _ => due_shutdownRails rfl) (keeps_shutdownRails (keeps_setEng (.inr (.inl rfl)) h))

theorem keeps_enterUrgent (h : Keeps r s) : Keeps r (enterUrgent s) :=
  have hpsc : Keeps r (s.setPsc { s.psc with
      state := .urgent, target := .softOff, commit := false, haltedFrom := none, gateClosed := true }) :=
    keeps_setPsc (by simp) h
  .ite (fun _ => hpsc) fun _ => keeps_sendOffNotice hpsc

theorem keeps_urgentStart {k : UrgKind} (h : Keeps r s) : Keeps r (urgentStart k s) :=
  keeps_startUrgentList (keeps_openReport (keeps_forceFast (keeps_liftHold (keeps_enterUrgent (keeps_stopNorm h)))))

theorem keeps_preempt {k : UrgKind} (h : Keeps r s) : Keeps r (preempt k s) :=
  keeps_startUrgentList (keeps_forceFast (keeps_openReport (keeps_closeReport (keeps_cutStep h))))

theorem keeps_triggerFault {c : FaultCause} {i : Fin 256} (h : Keeps r s) : Keeps r (triggerFault c i s) :=
  .ite (fun _ => keeps_writeFault h) fun _ => keeps_urgentStart (keeps_setPsc id (keeps_writeFault h))

theorem keeps_triggerOverride (h : Keeps r s) : Keeps r (triggerOverride s) :=
  .ite (fun _ => keeps_urgentStart h) fun _ => .ite (fun _ => keeps_preempt h) fun _ => h

theorem keeps_triggerPowerfail (h : Keeps r s) : Keeps r (triggerPowerfail s) :=
  .ite (fun _ => keeps_setPsc id h) fun _ =>
    .ite (fun _ => keeps_preempt (keeps_setPsc id h)) fun _ => keeps_urgentStart (keeps_setPsc id h)

/-- A sensed rail that is on becomes LOST, with one loss more (R67, R68). -/
theorem keeps_railLost_setStat {slot : Fin 16} {y : RailStat}
    (hy : RailRelation false (peek s.rails.table slot) (peek s.rails.stat slot) →
      ReadyFor .lost (peek s.rails.table slot) y) (h : Keeps r s) : Keeps r (railLost slot (setStat slot y s)) := by
  have hmove : Keeps r (moveVerdict slot .lost (setStat slot { y with lost := satInc Config.max8 y.lost } s)) :=
    keeps_moveVerdict_setStat (fun hs => by
      obtain ⟨hdriven, hen, hnone, -⟩ := hy hs
      exact ⟨hdriven, hen, hnone, satInc_le _ _⟩) h
  have hpeek : peek (setStat slot y s).rails.stat slot = y := by simp [setStat]
  have htwice (z : RailStat) : setStat slot z (setStat slot y s) = setStat slot z s := by simp [setStat, poke_poke]
  unfold railLost
  rw [hpeek]
  dsimp only
  rw [htwice]
  exact .ite (fun _ => keeps_triggerFault hmove) fun _ => hmove

/-! ## Requests and settling -/

theorem keeps_openGate (h : Keeps r s) : Keeps r (openGate s) := keeps_sendOffNotice (keeps_setPsc id h)

theorem keeps_refuse {a b : Level} {o : ReportOutcome} (h : Keeps r s) : Keeps r (refuse a b o s) :=
  keeps_closeReport (keeps_openReport h)

theorem keeps_startTransition {a b : Level} (h : Keeps r s) : Keeps r (startTransition a b s) :=
  keeps_startNorm (keeps_openReport (keeps_setWire rfl id (keeps_setPsc (by simp) h)))

theorem keeps_backOut (h : Keeps r s) : Keeps r (backOut s) :=
  keeps_startNorm (keeps_setPsc (by simp) (keeps_cutStep h))

theorem keeps_requestInLevel {a b : Level} (h : Keeps r s) : Keeps r (requestInLevel a b s) :=
  .ite (fun _ => .ite (fun _ => keeps_openGate h) fun _ => keeps_setPsc id h) fun _ => .ite (fun _ => h) fun _ =>
    .ite (fun _ => keeps_refuse h) fun _ => .ite (fun _ => keeps_startTransition h) fun _ =>
      keeps_setPsc id (keeps_refuse h)

theorem keeps_requestInTransit {q : Level} (h : Keeps r s) : Keeps r (requestInTransit q s) :=
  .ite (fun _ => keeps_setPsc id h) fun _ => .ite (fun _ => keeps_backOut h) fun _ => keeps_setPsc id h

theorem keeps_requestEvent {q : Level} (h : Keeps r s) : Keeps r (requestEvent q s) := by
  unfold requestEvent
  split
  · exact h
  · exact keeps_requestInLevel h
  · exact keeps_requestInLevel h
  · exact keeps_requestInLevel h
  · exact keeps_requestInLevel h
  · exact keeps_requestInTransit h
  · exact keeps_setPsc id h
  · exact keeps_setPsc id h
  · exact keeps_setPsc id h

theorem keeps_requestIfChanged {q : Level} (h : Keeps r s) : Keeps r (requestIfChanged q s) :=
  .ite (fun _ => h) fun _ => keeps_requestEvent h

theorem keeps_clearLatch (h : Keeps r s) : Keeps r (clearLatch s) :=
  .ite (fun _ => .ite (fun _ => keeps_requestEvent (keeps_setPsc id h)) fun _ => keeps_setPsc id h) fun _ => h

theorem keeps_serveSlot {x : Level} (h : Keeps r s) : Keeps r (serveSlot x s) := by
  unfold serveSlot
  dsimp only
  split
  · exact keeps_setPsc id h
  · exact .ite (fun _ => keeps_requestEvent (keeps_setPsc id h)) fun _ => keeps_setPsc id h

theorem wakeInv_emptied {w : Wake} (h : WakeInv w) : WakeInv { w with queue := [] } := by
  obtain ⟨-, -, -, hmissed⟩ := h
  exact ⟨by simp, by simp, by simp, hmissed⟩

theorem keeps_reportWakes {x : Level} (h : Keeps r s) : Keeps r (reportWakes x s) :=
  .ite (fun _ => keeps_setWake wakeInv_emptied (keeps_onReport h)) fun _ => h

theorem levelState_ne_loading (x : Level) : levelState x ≠ .loading := by cases x <;> simp [levelState]

theorem keeps_settle {x : Level} {o : ReportOutcome} (h : Keeps r s) : Keeps r (settle x o s) :=
  keeps_serveSlot <| keeps_setPsc (fun _ => levelState_ne_loading x) <| keeps_closeReport <| keeps_reportWakes <|
    keeps_setArmed <| keeps_setPsc id h

theorem keeps_settleNorm (h : Keeps r s) : Keeps r (settleNorm s) :=
  keeps_settle (keeps_setEng (.inl ⟨rfl, rfl⟩) (keeps_idleNorm h))

theorem keeps_restoreAction (h : Keeps r s) : Keeps r (restoreAction s) := by
  unfold restoreAction
  exact keeps_setPsc (by split <;> simp) (.ite (fun _ => keeps_takeFire h) fun _ => h)

theorem keeps_urgentEnd {o : ReportOutcome} (h : Keeps r s) : Keeps r (urgentEnd o s) := by
  have hset := keeps_settle (x := .softOff) (o := o) (keeps_setEng (x := { s.eng with
    urg := { s.eng.urg with running := false, kind := none, idx := s.eng.urg.ran } }) (.inl ⟨rfl, rfl⟩) h)
  unfold urgentEnd
  refine .ite (fun _ => keeps_restoreAction ?_) fun _ => ?_
  · exact .ite (fun _ => keeps_openGate hset) fun _ => hset
  · exact .ite (fun _ => keeps_openGate hset) fun _ => hset

/-! ## The step kinds as their runs begin -/

section Begin

/-! A run begins with nothing awaited and nothing due. -/

variable {rec : StepRec} (hw : s.eng.wait = .none) (hd : s.eng.due = .nothing) (h : Keeps r s)

theorem keeps_awaitStep (hd : s.eng.due = .nothing) (h : Keeps r s) : Keeps r (awaitStep s) :=
  keeps_await (fun _ => hd) h

theorem keeps_awaitOrTimeout (hd : s.eng.due = .nothing) (h : Keeps r s) : Keeps r (awaitOrTimeout rec s) :=
  .ite (fun _ => keeps_endRunWith h) fun _ => keeps_awaitStep hd h

include hw hd in
/-- The lifting of hold finds nothing to end where nothing is awaited. -/
theorem due_liftHold_of_wait_none : (liftHold s).eng.due = .nothing :=
  ((ends_liftHold (.refl s)).of_wait_none hw).2.trans hd

include hw hd h

theorem keeps_beginEnd : Keeps r (beginEnd s) :=
  .ite (fun _ => keeps_endRunWith (keeps_liftHold h)) fun _ =>
    keeps_awaitStep (due_liftHold_of_wait_none hw hd) (keeps_liftHold h)

omit hw hd in
theorem keeps_beginRailOn : Keeps r (beginRailOn rec s) :=
  .ite (fun _ => keeps_endRunWith h) fun _ => .ite (fun _ => keeps_endRunWith h) fun _ =>
    keeps_endRunWith (keeps_railOn h)

omit hw hd in
theorem keeps_beginRailOff : Keeps r (beginRailOff rec s) :=
  .ite (fun _ => keeps_endRunWith h) fun _ => .ite (fun _ => keeps_endRunWith h) fun _ =>
    keeps_endRunWith (keeps_railOff h)

omit hw in
theorem keeps_beginWaitGood : Keeps r (beginWaitGood rec s) := by
  refine .ite (fun _ => keeps_endRunWith h) fun _ => ?_
  split
  · exact keeps_endRunWith h
  · exact keeps_endRunWith h
  all_goals exact keeps_awaitOrTimeout hd h

omit hw in
theorem keeps_beginWaitOff : Keeps r (beginWaitOff rec s) :=
  .ite (fun _ => keeps_endRunWith h) fun _ => .ite (fun _ => keeps_endRunWith h) fun _ => keeps_awaitOrTimeout hd h

omit hw in
theorem keeps_beginDelay : Keeps r (beginDelay rec s) :=
  .ite (fun _ => keeps_endRunWith h) fun _ => keeps_awaitStep hd h

omit hw in
theorem keeps_beginWaitLine : Keeps r (beginWaitLine rec s) :=
  .ite (fun _ => keeps_endRunWith h) fun _ => keeps_awaitOrTimeout hd h

omit hw in
theorem keeps_beginPulse : Keeps r (beginPulse rec s) :=
  .ite (fun _ => keeps_endRunWith (keeps_driveLine (keeps_driveLine h))) fun _ =>
    keeps_awaitStep hd (keeps_driveLine h)

omit hw in
theorem keeps_beginSendWire : Keeps r (beginSendWire rec s) := by
  have hsend := keeps_createInternal (p := portOf (wireDir s rec.opA))
    (f := .sendWire { wire := rec.opA, level := rec.opB }) (by simp [isNotice]) (keeps_awaitStep hd h)
  exact .ite (fun _ => keeps_endRunWith h) fun _ =>
    .ite (fun _ => keeps_endRunWith (keeps_withdrawSendWire hsend)) fun _ => hsend

theorem keeps_beginRelease : Keeps r (beginRelease rec s) :=
  .ite (fun _ => keeps_endRunWith (keeps_liftHold h)) fun _ => .ite (fun _ => keeps_endRunWith (keeps_liftHold h)) fun _ =>
    .ite (fun _ => keeps_endRunWith (keeps_liftHold h)) fun _ =>
      keeps_awaitStep (due_liftHold_of_wait_none hw hd) (keeps_liftHold h)

omit hw in
theorem keeps_beginClockUp : Keeps r (beginClockUp rec s) := by
  refine .ite (fun _ => keeps_endRunWith h) fun _ => keeps_awaitOrTimeout ?_ (keeps_forceFast h)
  simpa using hd

theorem keeps_runKind : Keeps r (runKind rec s) := by
  unfold runKind
  split
  · exact keeps_beginEnd hw hd h
  · exact keeps_beginRailOn h
  · exact keeps_beginRailOff h
  · exact keeps_beginWaitGood hd h
  · exact keeps_beginWaitOff hd h
  · exact keeps_beginDelay hd h
  · exact keeps_endRunWith (keeps_driveLine h)
  · exact keeps_beginWaitLine hd h
  · exact keeps_beginPulse hd h
  · exact keeps_beginSendWire hd h
  · exact keeps_beginRelease hw hd h
  · exact keeps_beginClockUp hd h
  · exact keeps_endRunWith (keeps_clockDown h)
  · exact keeps_endRunWith (keeps_setArmed h)
  · exact keeps_endRunWith (keeps_onReport h)

end Begin

/-- As a run begins nothing is awaited and nothing is due. -/
theorem enterRun_rest (b : Bool) (s : State) : (enterRun b s).eng.wait = .none ∧ (enterRun b s).eng.due = .nothing := by
  unfold enterRun
  dsimp only
  split <;> exact ⟨rfl, rfl⟩

theorem keeps_enterRun {b : Bool} (h : Keeps r s) : Keeps r (enterRun b s) :=
  .ite (fun _ => keeps_setEng (.inr (.inl rfl)) (keeps_onReport h)) fun _ =>
    keeps_setEng (.inr (.inl rfl)) (keeps_onReport h)

theorem keeps_beginRun {b : Bool} (h : Keeps r s) : Keeps r (beginRun b s) :=
  keeps_runKind (enterRun_rest b s).1 (enterRun_rest b s).2 (keeps_enterRun h)

/-! ## What follows the end of a run -/

theorem keeps_haltPoint {b : Bool} (h : Keeps r s) : Keeps r (haltPoint b s) :=
  .ite (fun _ => keeps_setPsc (by simp) (keeps_setEng (.inr (.inr (by simp))) h)) fun _ =>
    keeps_setEng (.inr (.inr (by simp))) h

theorem keeps_commitNow (h : Keeps r s) : Keeps r (commitNow s) := keeps_onReport (keeps_setPsc id h)

theorem keeps_runawayNorm (h : Keeps r s) : Keeps r (runawayNorm s) :=
  keeps_triggerFault <| keeps_closeReport <| keeps_idleNorm <| keeps_setUses <|
    .ite (fun _ => keeps_commitNow h) fun _ => h

theorem keeps_leadOn (h : Keeps r s) : Keeps r (leadOn s) := by
  have hcommit : Keeps r (if commitsHere s then commitNow s else s) := .ite (fun _ => keeps_commitNow h) fun _ => h
  unfold leadOn
  split
  · exact keeps_runawayNorm h
  · exact keeps_haltPoint (keeps_setEng (.inl ⟨rfl, rfl⟩) hcommit)

theorem keeps_faultEnd (h : Keeps r s) : Keeps r (faultEnd s) :=
  keeps_triggerFault (keeps_closeReport (keeps_idleNorm h))

theorem keeps_backOutOrFault (h : Keeps r s) : Keeps r (backOutOrFault s) :=
  .ite (fun _ => keeps_backOut h) fun _ => keeps_faultEnd h

theorem keeps_retryOrBackOut (h : Keeps r s) : Keeps r (retryOrBackOut s) :=
  .ite (fun _ => keeps_haltPoint (keeps_setEng (.inl ⟨rfl, rfl⟩) h)) fun _ => keeps_backOutOrFault h

theorem keeps_failNorm {k : FailKind} (h : Keeps r s) : Keeps r (failNorm k s) := by
  have hrec := keeps_onReport (f := recordFailure s.eng.norm.idx k) h
  unfold failNorm
  dsimp only
  split
  · exact keeps_leadOn (keeps_onReport hrec)
  · exact keeps_retryOrBackOut hrec
  · exact keeps_backOutOrFault hrec
  · exact keeps_faultEnd hrec

theorem keeps_endNorm {e : RunEnd} (h : Keeps r s) : Keeps r (endNorm e s) := by
  cases e with
  | ok => exact .ite (fun _ => keeps_settleNorm h) fun _ => keeps_leadOn h
  | failed k => exact keeps_failNorm h
  | runawayDrained => exact h
  | builtinDrained => exact h

section Urgent

/-! An urgent run has ended, and nothing else is awaited or due. -/

variable (hrest : Calm r → s.eng.wait = .none ∧ s.eng.due = .nothing) (h : Keeps r s)
include hrest h

theorem keeps_runawayUrg : Keeps r (runawayUrg s) := by
  refine .ite (fun _ => keeps_urgentEnd (keeps_liftHold h)) fun _ => keeps_await (fun hr => ?_) (keeps_liftHold h)
  obtain ⟨hw, hd⟩ := hrest hr
  exact due_liftHold_of_wait_none hw hd

theorem keeps_leadOnUrg : Keeps r (leadOnUrg s) := by
  unfold leadOnUrg
  split
  · exact keeps_runawayUrg hrest h
  · exact keeps_setEng (.inr (.inr (by simp))) h

theorem keeps_failUrg {k : FailKind} : Keeps r (failUrg k s) :=
  keeps_leadOnUrg hrest (keeps_setFault (fun ⟨hfurther, _, hfirst⟩ => ⟨hfurther, satInc_le _ _, hfirst⟩)
    (keeps_onReport h))

theorem keeps_endUrg {e : RunEnd} : Keeps r (endUrg e s) := by
  cases e with
  | ok => exact .ite (fun _ => keeps_urgentEnd h) fun _ => keeps_leadOnUrg hrest h
  | failed k => exact keeps_failUrg hrest h
  | runawayDrained => exact keeps_urgentEnd h
  | builtinDrained => exact keeps_urgentEnd h

end Urgent

/-! ## The chain of one event -/

theorem keeps_chainStep (h : Keeps r s) : Keeps r (chainStep s) := by
  unfold chainStep
  split
  · exact h
  · exact .ite (fun _ => keeps_beginRun h) fun _ => keeps_setEng (.inr (.inr (by simp))) h
  next e hdue =>
    have hdone : Keeps r (s.setEng { s.eng with due := .nothing }) := keeps_setEng (.inr (.inr (by simp))) h
    refine .ite (fun _ => .ite (fun _ => ?_) fun _ => keeps_endNorm hdone) fun _ => hdone
    exact keeps_endUrg (s := s.setEng { s.eng with due := .nothing }) (fun hr => ⟨h.calm hr e hdue, rfl⟩) hdone

theorem keeps_chainN {n : Nat} (h : Keeps r s) : Keeps r (chainN n s) := by
  induction n generalizing s with
  | zero => exact h
  | succ n ih => exact .ite (fun _ => h) fun _ => ih (keeps_chainStep h)

theorem keeps_runChain (h : Keeps r s) : Keeps r (runChain s) := keeps_chainN h

end Sys2Proof.Machine

/-! PROOFS. The chain of one event is short (R25): each link brings the running channel nearer to the end of the lists that
the event can still run, and there are never more than 8704 links of them. -/

namespace Sys2Proof.Machine

variable {r s t u : State}

/-! ## How many links an event can still run -/

/-- Links of the Normal channel's list from here on: four runs of two links for each index (R25, R44). -/
def listLinks (n : Norm) : Due → Nat
  | .nothing => 0
  | .beginRun rerun => 8 * (255 - n.idx.val) + 2 * (if rerun then 3 - n.retries.val else 3) + 2
  | .runEnded _ => 8 * (255 - n.idx.val) + 2 * (3 - n.retries.val) + 1

/-- Links of an urgent list from here on: two for each index (R25, R46). -/
def urgentLinks (n : Urg) : Due → Nat
  | .nothing => 0
  | .beginRun _ => 2 * (255 - n.idx.val) + 2
  | .runEnded _ => 2 * (255 - n.idx.val) + 1

/-- Links that may follow a Normal list: a back-out list of 2048 while the transition may be backed out, the 512 of an
urgent list, and the two lists of a transition that the slot asks for at the settle (R10, R16, R45). -/
def followers (p : Psc) : Nat :=
  (if p.state = .transit ∧ p.commit = false then 2048 else 0) + 512 + (if p.slot.isSome then 4096 else 0)

/-- A bound of the links the chain of an event still runs. A transition can follow an urgent list only behind an open
gate, in states that no run reaches (R16, R19). -/
def links (s : State) : Nat :=
  if s.eng.due = .nothing then 0
  else if s.eng.urg.running then urgentLinks s.eng.urg s.eng.due + (if s.psc.gateClosed then 0 else 4608)
  else listLinks s.eng.norm s.eng.due + followers s.psc

theorem links_of_rest (h : s.eng.due = .nothing) : links s = 0 := by simp [links, h]

theorem links_of_urgent (hu : s.eng.urg.running = true) (hd : s.eng.due ≠ .nothing) :
    links s = urgentLinks s.eng.urg s.eng.due + (if s.psc.gateClosed then 0 else 4608) := by
  simp [links, hu, hd]

theorem links_of_normal (hu : s.eng.urg.running = false) (hd : s.eng.due ≠ .nothing) :
    links s = listLinks s.eng.norm s.eng.due + followers s.psc := by
  simp [links, hu, hd]

theorem listLinks_le (n : Norm) (d : Due) : listLinks n d ≤ 2048 := by
  cases d with
  | nothing => simp [listLinks]
  | beginRun b => simp only [listLinks]; split <;> omega
  | runEnded e => simp only [listLinks]; omega

theorem urgentLinks_le (n : Urg) (d : Due) : urgentLinks n d ≤ 512 := by
  cases d <;> simp only [urgentLinks] <;> omega

theorem followers_le (p : Psc) : followers p ≤ 6656 := by
  unfold followers
  split_ifs <;> omega

theorem le_followers (p : Psc) : 512 ≤ followers p := by
  unfold followers
  omega

theorem links_pos (h : s.eng.due ≠ .nothing) : 0 < links s := by
  unfold links
  rw [if_neg h]
  split
  · cases hd : s.eng.due <;> simp_all [urgentLinks]
  · have := le_followers s.psc
    omega

theorem links_le (s : State) : links s ≤ Config.chainFuel := by
  have hn := listLinks_le s.eng.norm s.eng.due
  have hu := urgentLinks_le s.eng.urg s.eng.due
  have hf := followers_le s.psc
  show links s ≤ 16384
  unfold links
  split_ifs <;> omega

/-! ## Urgent starts -/

theorem startUrgentList_running (k : UrgKind) (s : State) : (startUrgentList k s).eng.urg.running = true := by
  unfold startUrgentList
  dsimp only
  split
  · rfl
  · have hurg := (ends_shutdownRails (.refl (s.setEng { s.eng with
      urg := { s.eng.urg with running := true, kind := some k, idx := 0, start := s.clock.tick },
      wait := .none, due := .nothing }))).urg
    split <;> simp [endRunWith, hurg]

theorem urgentStart_running (k : UrgKind) (s : State) : (urgentStart k s).eng.urg.running = true :=
  startUrgentList_running k _

theorem urgentStart_gateClosed (k : UrgKind) (s : State) : (urgentStart k s).psc.gateClosed = true := by
  simp only [urgentStart, startUrgentList_frame, openReport_frame, forceFast_frame, liftHold_frame]
  unfold enterUrgent
  dsimp only
  split <;> simp

theorem links_urgentStart (k : UrgKind) (s : State) : links (urgentStart k s) ≤ 512 := by
  by_cases hd : (urgentStart k s).eng.due = .nothing
  · simp [links_of_rest hd]
  · rw [links_of_urgent (urgentStart_running k s) hd, urgentStart_gateClosed]
    simpa using urgentLinks_le _ _

theorem links_triggerFault {c : FaultCause} {i : Fin 256} (hu : s.eng.urg.running = false) :
    links (triggerFault c i s) ≤ 512 := by
  unfold triggerFault
  simp only [hu, Bool.false_eq_true, if_false]
  exact links_urgentStart _ _

/-! ## Requests and settling -/

/-- Of the engine's run: nothing is awaited in either state, and the same links are to come. -/
def SameRun (s t : State) : Prop := t.eng.wait = .none ∧ t.eng.due = s.eng.due ∧ links t = links s

/-- An operation below the engine that finds nothing awaited leaves the run as it was. -/
theorem Ends.sameRun (h : Ends s t) (hw : s.eng.wait = .none) : SameRun s t := by
  obtain ⟨hw', hd⟩ := h.of_wait_none hw
  exact ⟨hw', hd, by simp [links, hd, h.norm, h.urg, h.psc]⟩

theorem openGate_rest (hw : s.eng.wait = .none) (hd : s.eng.due = .nothing) :
    (openGate s).eng.wait = .none ∧ (openGate s).eng.due = .nothing := by
  obtain ⟨hw', hd'⟩ := (ends_sendOffNotice (b := false) (.refl (s.setPsc { s.psc with gateClosed := false }))).of_wait_none hw
  exact ⟨hw', hd'.trans hd⟩

/-- A transition that has just started, its slot empty. -/
theorem links_startTransition {a b : Level} (hslot : s.psc.slot = none) (hu : s.eng.urg.running = false) :
    links (startTransition a b s) ≤ 4608 := by
  have hurg : (startTransition a b s).eng.urg.running = false := hu
  rw [links_of_normal hurg (by simp [startTransition, startNorm])]
  have hl := listLinks_le (startTransition a b s).eng.norm (startTransition a b s).eng.due
  have hf : followers (startTransition a b s).psc = 2560 := by
    simp [followers, startTransition, startNorm, openReport, hslot]
  omega

/-- A request event in a level state with nothing to do starts a transition, or nothing (R7, R8, R9). -/
theorem requestInLevel_cases (a b : Level) (s : State) (hw : s.eng.wait = .none) (hd : s.eng.due = .nothing) :
    ((requestInLevel a b s).eng.wait = .none ∧ (requestInLevel a b s).eng.due = .nothing) ∨
      (s.psc.gateClosed = false ∧ requestInLevel a b s = startTransition a b s) := by
  unfold requestInLevel
  split
  · split
    · exact .inl (openGate_rest hw hd)
    · exact .inl ⟨hw, hd⟩
  next hgate =>
    split
    · exact .inl ⟨hw, hd⟩
    · split
      · exact .inl ⟨hw, hd⟩
      · split
        · exact .inr ⟨by simpa using hgate, rfl⟩
        · exact .inl ⟨hw, hd⟩

theorem requestEvent_levelState (x q : Level) (s : State) (h : s.psc.state = levelState x) :
    requestEvent q s = requestInLevel x q s := by
  unfold requestEvent
  cases x <;> simp [h, levelState]

/-- The slot's level, served at a settle, starts a transition or nothing, and leaves the slot empty (R16). -/
theorem serveSlot_links {x : Level} (hstate : s.psc.state = levelState x) (hw : s.eng.wait = .none)
    (hd : s.eng.due = .nothing) (hu : s.eng.urg.running = false) :
    (serveSlot x s).eng.wait = .none ∧
      ((serveSlot x s).eng.due = .nothing ∨
        s.psc.gateClosed = false ∧ s.psc.slot.isSome = true ∧ (serveSlot x s).psc.gateClosed = false ∧
          links (serveSlot x s) ≤ 4608) := by
  unfold serveSlot
  dsimp only
  split
  · exact ⟨hw, .inl hd⟩
  next q hslot =>
    split
    next hgate =>
      rw [requestEvent_levelState x q _ (by simpa using hstate)]
      obtain ⟨hw', hd'⟩ | ⟨-, hstart⟩ := requestInLevel_cases x q (s.setPsc { s.psc with slot := none }) hw hd
      · exact ⟨hw', .inl hd'⟩
      · rw [hstart]
        exact ⟨rfl, .inr ⟨hgate.1, by simp [hslot], hgate.1, links_startTransition rfl hu⟩⟩
    · exact ⟨hw, .inl hd⟩

/-- A settle with nothing awaited or due (R15, R16). -/
theorem settle_links {x : Level} {o : ReportOutcome} (hw : s.eng.wait = .none) (hd : s.eng.due = .nothing)
    (hu : s.eng.urg.running = false) :
    (settle x o s).eng.wait = .none ∧
      ((settle x o s).eng.due = .nothing ∨
        s.psc.gateClosed = false ∧ s.psc.slot.isSome = true ∧ (settle x o s).psc.gateClosed = false ∧
          links (settle x o s) ≤ 4608) := by
  have harm := ends_setArmed (l := x) (.refl (s.setPsc
    { s.psc with current := x, target := x, commit := false, haltedFrom := none }))
  obtain ⟨hw', hd'⟩ := harm.of_wait_none hw
  have hpsc := harm.psc
  have hu' := harm.urg
  unfold settle
  dsimp only
  generalize setArmed x _ = v at hw' hd' hpsc hu' ⊢
  have hrep : (reportWakes x v).eng.wait = .none ∧ (reportWakes x v).eng.due = .nothing ∧
      (reportWakes x v).eng.urg = s.eng.urg ∧ (reportWakes x v).psc = v.psc := by
    unfold reportWakes
    split <;> exact ⟨hw', hd'.trans hd, hu', rfl⟩
  obtain ⟨hw'', hd'', hu'', hp''⟩ := hrep
  have hserve := serveSlot_links (x := x) (s := (closeReport o (reportWakes x v)).setPsc
    { (closeReport o (reportWakes x v)).psc with state := levelState x }) rfl hw'' hd'' (by simpa [closeReport, hu''] using hu)
  simpa [closeReport, hp'', hpsc] using hserve

/-- What follows a settle of the Normal channel is less than the END and the slot it served (R15, R16). -/
theorem settleNorm_links (hw : s.eng.wait = .none) (hd : s.eng.due = .nothing) (hu : s.eng.urg.running = false) :
    (settleNorm s).eng.due = .nothing ∨ s.psc.slot.isSome = true ∧ links (settleNorm s) ≤ 4608 := by
  unfold settleNorm
  dsimp only
  have h := (settle_links (x := (idleNorm s).psc.target)
    (o := if s.psc.state = .backout then ReportOutcome.backedOut else .completed)
    (s := (idleNorm s).setEng { (idleNorm s).eng with norm := { (idleNorm s).eng.norm with haltPending := false } })
    hw hd hu).2
  obtain h | ⟨-, hslot, -, hle⟩ := h
  · exact .inl h
  · exact .inr ⟨hslot, hle⟩

/-- The restore action fires source 13 or nothing, and clears both marks (R22). -/
theorem restoreAction_cases (s : State) :
    ∃ u, (u = s ∨ u = takeFire 13 s) ∧
      restoreAction s = u.setPsc { u.psc with pendingRestore := false, restoreOn := false } :=
  ⟨_, (ite_eq_or_eq _ _ _).symm, rfl⟩

theorem restoreAction_sameRun (hw : s.eng.wait = .none) : SameRun s (restoreAction s) := by
  obtain ⟨u, rfl | rfl, hu⟩ := restoreAction_cases s <;> rw [hu]
  · exact ⟨hw, rfl, rfl⟩
  · exact (ends_takeFire (.refl s)).sameRun hw

/-- What follows an urgent end is less than the gate that stood open (R16, R20, R89). -/
theorem urgentEnd_links {o : ReportOutcome} (hw : s.eng.wait = .none) (hd : s.eng.due = .nothing) :
    (urgentEnd o s).eng.due = .nothing ∨ s.psc.gateClosed = false ∧ links (urgentEnd o s) ≤ 4608 := by
  have h := settle_links (x := .softOff) (o := o)
    (s := s.setEng { s.eng with urg := { s.eng.urg with running := false, kind := none, idx := s.eng.urg.ran } })
    hw hd rfl
  unfold urgentEnd
  dsimp only
  generalize settle .softOff o _ = v at h ⊢
  obtain ⟨hwv, hv⟩ := h
  have hgate : (if v.psc.gateClosed = true ∧ requested v = .softOff then openGate v else v).eng.wait = .none ∧
      ((if v.psc.gateClosed = true ∧ requested v = .softOff then openGate v else v).eng.due = .nothing ∨
        s.psc.gateClosed = false ∧
          links (if v.psc.gateClosed = true ∧ requested v = .softOff then openGate v else v) ≤ 4608) := by
    obtain hdv | ⟨hopen, -, hopenv, hle⟩ := hv
    · split
      · obtain ⟨hw', hd'⟩ := openGate_rest hwv hdv
        exact ⟨hw', .inl hd'⟩
      · exact ⟨hwv, .inl hdv⟩
    · rw [if_neg (by simp [hopenv])]
      exact ⟨hwv, .inr ⟨hopen, hle⟩⟩
  generalize (if v.psc.gateClosed = true ∧ requested v = .softOff then openGate v else v) = g at hgate ⊢
  obtain ⟨hwg, hg⟩ := hgate
  have hlast : SameRun g (if g.psc.pendingRestore then restoreAction g else g) := by
    split
    · exact restoreAction_sameRun hwg
    · exact ⟨hwg, rfl, rfl⟩
  obtain ⟨-, hdue, hlinks⟩ := hlast
  rw [hdue, hlinks]
  exact hg

/-! ## Each link brings the end nearer -/

/-- A run that begins stays with its list. -/
theorem links_beginRun {b : Bool} (hd : s.eng.due = .beginRun b) (hrun : channelRuns s = true) :
    links (beginRun b s) < links s := by
  have hrest := enterRun_rest b s
  have hpsc : (enterRun b s).psc = s.psc := by unfold enterRun; dsimp only; split <;> rfl
  have hrun' : channelRuns (enterRun b s) = true := by
    unfold enterRun
    dsimp only
    split <;> exact hrun
  have h := ends_runKind (rec := (enterRun b s).eng.cur) hrest.1 hrest.2 hrun' rfl
  have hne : s.eng.due ≠ .nothing := by simp [hd]
  unfold beginRun
  dsimp only
  generalize runKind _ _ = v at h ⊢
  obtain ⟨-, hdv⟩ | ⟨e, -, -, hdv⟩ := h.ended
  · rw [links_of_rest (hdv.trans hrest.2)]
    exact links_pos hne
  · have hdv' : v.eng.due ≠ .nothing := by simp [hdv]
    have hnorm : v.eng.norm = (enterRun b s).eng.norm := h.norm
    have hurg : v.eng.urg = (enterRun b s).eng.urg := h.urg
    have hpscv : v.psc = s.psc := h.psc.trans hpsc
    cases hu : s.eng.urg.running with
    | true =>
      have hur : (enterRun b s).eng.urg.running = true ∧ (enterRun b s).eng.urg.idx = s.eng.urg.idx := by
        simp [enterRun, onReport, hu]
      rw [links_of_urgent hu hne, links_of_urgent (by rw [hurg]; exact hur.1) hdv', hdv, hd, hpscv, hurg]
      simp only [urgentLinks, hur.2]
      omega
    | false =>
      have hur : (enterRun b s).eng.urg.running = false ∧ (enterRun b s).eng.norm.idx = s.eng.norm.idx ∧
          (enterRun b s).eng.norm.retries = if b then s.eng.norm.retries else 0 := by
        simp [enterRun, onReport, hu]
      obtain ⟨hur, hidx, hret⟩ := hur
      rw [links_of_normal hu hne, links_of_normal (by rw [hurg]; exact hur) hdv', hdv, hd, hpscv, hnorm]
      simp only [listLinks, hidx, hret]
      cases b
      · simp
      · simp

/-- A run of the Urgent channel that has ended leads to less (R25, R46). -/
theorem leadOnUrg_links (hw : s.eng.wait = .none) (hd : s.eng.due = .nothing) (hu : s.eng.urg.running = true) :
    links (leadOnUrg s) < 2 * (255 - s.eng.urg.idx.val) + 1 + (if s.psc.gateClosed then 0 else 4608) := by
  unfold leadOnUrg
  split
  next hidx =>
    unfold runawayUrg
    have hlift := ends_liftHold (.refl s)
    obtain ⟨hw', hd'⟩ := hlift.of_wait_none hw
    dsimp only
    split
    · obtain h | ⟨hgate, hle⟩ := urgentEnd_links (o := .runaway) hw' (hd'.trans hd)
      · rw [links_of_rest h]
        omega
      · rw [hlift.psc] at hgate
        simp only [hgate, Bool.false_eq_true, if_false]
        omega
    · rw [links_of_rest (by exact hd'.trans hd)]
      omega
  next hidx =>
    refine (links_of_urgent ?_ ?_).trans_lt ?_
    · exact hu
    · simp
    · show 2 * (255 - (s.eng.urg.idx.val + 1)) + 2 + (if s.psc.gateClosed then 0 else 4608) < _
      omega

theorem endUrg_links {e : RunEnd} (hw : s.eng.wait = .none) (hd : s.eng.due = .nothing)
    (hu : s.eng.urg.running = true) :
    links (endUrg e s) < 2 * (255 - s.eng.urg.idx.val) + 1 + (if s.psc.gateClosed then 0 else 4608) := by
  have hend {o : ReportOutcome} :
      links (urgentEnd o s) < 2 * (255 - s.eng.urg.idx.val) + 1 + (if s.psc.gateClosed then 0 else 4608) := by
    obtain h | ⟨hgate, hle⟩ := urgentEnd_links (o := o) hw hd
    · rw [links_of_rest h]
      omega
    · simp only [hgate, Bool.false_eq_true, if_false]
      omega
  cases e with
  | ok =>
    show links (if _ then _ else _) < _
    split
    · exact hend
    · exact leadOnUrg_links hw hd hu
  | failed k => exact leadOnUrg_links (s := ((onReport _ s).setFault _)) hw hd hu
  | runawayDrained => exact hend
  | builtinDrained => exact hend

/-- A halt point runs on or halts (R48). -/
theorem links_haltPoint (b : Bool) (hu : s.eng.urg.running = false) :
    links (haltPoint b s) ≤ listLinks s.eng.norm (.beginRun b) + followers s.psc := by
  unfold haltPoint
  split
  · rw [links_of_rest (by simp [haltAt])]
    omega
  · refine (links_of_normal ?_ ?_).le
    · exact hu
    · simp

theorem followers_commit (p : Psc) : followers { p with commit := true } ≤ followers p := by
  simp only [followers, and_false, if_false, Bool.true_eq_false]
  omega

theorem leadOn_links (hu : s.eng.urg.running = false) :
    links (leadOn s) < 8 * (255 - s.eng.norm.idx.val) + 1 + followers s.psc := by
  unfold leadOn
  split
  · have hf := le_followers s.psc
    have h : links (runawayNorm s) ≤ 512 := by
      unfold runawayNorm
      dsimp only
      refine links_triggerFault ?_
      split <;> exact hu
    omega
  next hidx =>
    refine (links_haltPoint false ?_).trans_lt ?_
    · dsimp only
      split <;> exact hu
    · have hf : followers (if commitsHere s then commitNow s else s).psc ≤ followers s.psc := by
        split
        · exact followers_commit s.psc
        · exact le_rfl
      simp only [listLinks, State.setEng_eng, State.setEng_psc, Bool.false_eq_true, if_false]
      omega

theorem links_faultEnd (hu : s.eng.urg.running = false) : links (faultEnd s) ≤ 512 := links_triggerFault hu

/-- Back-out gives up the slot and the right to back out again (R11). -/
theorem links_backOut (hu : s.eng.urg.running = false) : links (backOut s) ≤ 2560 := by
  have hurg : (backOut s).eng.urg.running = false := by
    simpa [backOut, startNorm, cutStep] using (by split <;> (try split) <;> simp [hu])
  rw [links_of_normal hurg (by simp [backOut, startNorm])]
  have hl := listLinks_le (backOut s).eng.norm (backOut s).eng.due
  have hf : followers (backOut s).psc = 512 := by simp [followers, backOut, startNorm]
  omega

theorem backOutOrFault_links (hu : s.eng.urg.running = false) : links (backOutOrFault s) ≤ followers s.psc := by
  unfold backOutOrFault
  split
  next hc =>
    refine (links_backOut hu).trans ?_
    simp only [followers, hc.1, hc.2.1, and_self, if_true]
    omega
  · exact (links_faultEnd hu).trans (le_followers _)

theorem retryOrBackOut_links (hu : s.eng.urg.running = false) :
    links (retryOrBackOut s) < listLinks s.eng.norm (.runEnded .ok) + followers s.psc := by
  unfold retryOrBackOut
  split
  next hc =>
    refine (links_haltPoint true ?_).trans_lt ?_
    · exact hu
    have hr : (s.eng.norm.retries + 1 : Fin 4).val = s.eng.norm.retries.val + 1 := by
      have := s.eng.cur.retry.isLt
      rw [Fin.val_add]
      simp only [Fin.val_one]
      omega
    simp only [listLinks, State.setEng_eng, State.setEng_psc, if_true, hr]
    have := s.eng.cur.retry.isLt
    omega
  · have := backOutOrFault_links hu
    simp only [listLinks]
    omega

theorem failNorm_links {k : FailKind} (hu : s.eng.urg.running = false) :
    links (failNorm k s) < listLinks s.eng.norm (.runEnded .ok) + followers s.psc := by
  have hle : 8 * (255 - s.eng.norm.idx.val) + 1 ≤ listLinks s.eng.norm (.runEnded .ok) := by
    simp only [listLinks]
    omega
  unfold failNorm
  dsimp only
  split
  · exact (leadOn_links (s := onReport warn (onReport _ s)) hu).trans_le (Nat.add_le_add_right hle _)
  · exact retryOrBackOut_links (s := onReport _ s) hu
  · have h := backOutOrFault_links (s := onReport (recordFailure s.eng.norm.idx k) s) hu
    simp only [onReport_frame] at h
    omega
  · have h := links_faultEnd (s := onReport (recordFailure s.eng.norm.idx k) s) hu
    have := le_followers s.psc
    omega

theorem endNorm_links {e : RunEnd} (hw : s.eng.wait = .none) (hd : s.eng.due = .nothing)
    (hu : s.eng.urg.running = false) :
    links (endNorm e s) < listLinks s.eng.norm (.runEnded .ok) + followers s.psc := by
  have hle : 8 * (255 - s.eng.norm.idx.val) + 1 ≤ listLinks s.eng.norm (.runEnded .ok) := by
    simp only [listLinks]
    omega
  cases e with
  | ok =>
    show links (if _ then _ else _) < _
    split
    · obtain h | ⟨hslot, h⟩ := settleNorm_links hw hd hu
      · rw [links_of_rest h]
        omega
      · simp only [followers, hslot, if_true]
        omega
    · exact (leadOn_links hu).trans_le (Nat.add_le_add_right hle _)
  | failed k => exact failNorm_links hu
  | runawayDrained =>
    rw [show endNorm .runawayDrained s = s from rfl, links_of_rest hd]
    omega
  | builtinDrained =>
    rw [show endNorm .builtinDrained s = s from rfl, links_of_rest hd]
    omega

/-- Each link of the chain brings the end nearer (R25). -/
theorem links_chainStep (hc : Calm s) (hne : s.eng.due ≠ .nothing) : links (chainStep s) < links s := by
  have hidle : links (s.setEng { s.eng with due := .nothing }) < links s := by
    rw [links_of_rest rfl]
    exact links_pos hne
  unfold chainStep
  split
  next hd => exact absurd hd hne
  next b hd =>
    split
    next hrun => exact links_beginRun hd hrun
    · exact hidle
  next e hd =>
    split
    · show links (if _ then _ else _) < _
      have hw : s.eng.wait = .none := hc e hd
      split
      next hu =>
        have hu : s.eng.urg.running = true := hu
        have h := endUrg_links (s := s.setEng { s.eng with due := .nothing }) (e := e) hw rfl hu
        rw [links_of_urgent hu hne, hd]
        exact h
      next hu =>
        have hu : s.eng.urg.running = false := by simpa using hu
        have h := endNorm_links (s := s.setEng { s.eng with due := .nothing }) (e := e) hw rfl hu
        rw [links_of_normal hu hne, hd]
        exact h
    · exact hidle

/-- The chain of an event comes to rest (R25). -/
theorem chainN_rest (n : Nat) (hc : Calm s) (hn : links s ≤ n) : (chainN n s).eng.due = .nothing := by
  induction n generalizing s with
  | zero =>
    by_contra hne
    have := links_chainStep hc hne
    omega
  | succ n ih =>
    by_cases hd : s.eng.due = .nothing
    · rw [chainN_of_rest _ hd]
      exact hd
    · rw [chainN_succ n hd]
      have := links_chainStep hc hd
      exact ih ((keeps_chainStep (.refl s)).calm hc) (by omega)

theorem runChain_rest (hc : Calm s) : (runChain s).eng.due = .nothing := chainN_rest _ hc (links_le s)

end Sys2Proof.Machine

/-! PROOFS. What every command keeps of the blocks, but for a standby power-on reset. -/

namespace Sys2Proof.Machine

variable {r s t u : State}

/-! ## Rail events -/

/-- What a counted sample leads to on a rail with record `c`: the counts stay in range, or the rail is ready for the
verdict the sample leads to (R64, R77, R78, R79). -/
def CountedOk (c : RailRec) (y : RailStat × Option Verdict) : Prop :=
  match y.2 with
  | none => RailRelation false c y.1
  | some .good => ReadyFor .good c y.1
  | some .lost => ReadyFor .lost c y.1
  | some .off => ReadyFor .off c y.1
  | some .rising => RailRelation false c y.1
  | some .draining => RailRelation false c y.1

theorem countedOk_monitored {c : RailRec} {b : Bands} {code : BitVec 10} {x : RailStat} (n : Nat)
    (hs : isNoneRail c = false) (h : RailRelation false c x) :
    CountedOk c (countMonitored (actingFilter c.filter) b code { x with mV := n }) := by
  have hf := one_le_actingFilter c.filter
  obtain ⟨hdriven, hen, htimer, -, ⟨⟨hin, hover, hout, hlow⟩, hrise, hgood, hdrain⟩, hlost⟩ := h
  unfold countMonitored
  cases hv : x.verdict with
  | off => simp_all [CountedOk, RailRelation, CountsInRange]
  | lost => simp_all [CountedOk, RailRelation, CountsInRange]
  | rising => simp only [risen]; split_ifs <;> simp_all [CountedOk, ReadyFor, RailRelation, CountsInRange]
  | good => dsimp only; split_ifs <;> simp_all [CountedOk, ReadyFor, RailRelation, CountsInRange]
  | draining => dsimp only; split_ifs <;> simp_all [CountedOk, ReadyFor, RailRelation, CountsInRange]

theorem countedOk_pg {c : RailRec} {high : Bool} {x : RailStat} (hs : isNoneRail c = false)
    (h : RailRelation false c x) : CountedOk c (countPg (actingFilter c.filter) high x) := by
  have hf := one_le_actingFilter c.filter
  obtain ⟨hdriven, hen, htimer, -, ⟨⟨hin, hover, hout, hlow⟩, hrise, hgood, hdrain⟩, hlost⟩ := h
  unfold countPg
  cases hv : x.verdict with
  | off => simp_all [CountedOk, RailRelation, CountsInRange]
  | lost => simp_all [CountedOk, RailRelation, CountsInRange]
  | rising => dsimp only; split_ifs <;> simp_all [CountedOk, ReadyFor, RailRelation, CountsInRange]
  | good => dsimp only; split_ifs <;> simp_all [CountedOk, ReadyFor, RailRelation, CountsInRange]
  | draining => dsimp only; split_ifs <;> simp_all [CountedOk, ReadyFor, RailRelation, CountsInRange]

theorem keeps_applyCount {slot : Fin 16} {y : RailStat × Option Verdict}
    (hy : RailRelation false (peek s.rails.table slot) (peek s.rails.stat slot) →
      CountedOk (peek s.rails.table slot) y) (h : Keeps r s) : Keeps r (applyCount slot y s) := by
  obtain ⟨y, v⟩ := y
  match v with
  | none => exact keeps_setStat hy h
  | some .good => exact keeps_moveVerdict_setStat hy h
  | some .lost => exact keeps_railLost_setStat hy h
  | some .off => exact keeps_moveVerdict_setStat hy h
  | some .rising => exact keeps_setStat hy h
  | some .draining => exact keeps_setStat hy h

theorem keeps_sampleRail {slot : Fin 16} (h : Keeps r s) : Keeps r (sampleRail slot s) := by
  refine .ite (fun _ => h) fun _ => ?_
  split
  next b hs =>
    exact keeps_applyCount (countedOk_monitored _ (by simp [isNoneRail, hs])) (keeps_setRails (fun _ => id) h)
  next hs => exact keeps_applyCount (countedOk_pg (by simp [isNoneRail, hs])) h
  · exact h

theorem keeps_takeRail {slot : Fin 16} (h : Keeps r s) : Keeps r (takeRail slot s) :=
  .ite (fun _ => keeps_sampleRail (keeps_setBoundary h)) fun _ => h

theorem keeps_beginPass (h : Keeps r s) : Keeps r (beginPass s) := .ite (fun _ => h) fun _ => keeps_setBoundary h

theorem keeps_takeRails {slots : List (Fin 16)} (h : Keeps r s) : Keeps r (takeRails slots s) :=
  keeps_foldl (fun s _ => keeps_runChain (keeps_takeRail (.refl s))) _ h

theorem keeps_finishPass (h : Keeps r s) : Keeps r (finishPass s) := .ite (fun _ => keeps_takeRails h) fun _ => h

/-- The timer of a NONE rail is due only under its verdict (R65, R66). -/
theorem verdict_of_railTimerDue {v : Verdict} {pick : TimeField → TimeField → TimeField} {slot : Fin 16}
    (h : railTimerDue v pick slot s = true) : (peek s.rails.stat slot).verdict = v := by
  unfold railTimerDue at h
  dsimp only at h
  split at h
  · simp only [Bool.and_eq_true, decide_eq_true_eq] at h
    exact h.1
  · simp at h

theorem keeps_settled {slot : Fin 16} (hd : settleDue slot s = true) (h : Keeps r s) :
    Keeps r (moveVerdict slot .good s) :=
  keeps_moveVerdict (readyFor_good (.inl (verdict_of_railTimerDue hd))) h

theorem keeps_drained {slot : Fin 16} (hd : drainDue slot s = true) (h : Keeps r s) :
    Keeps r (moveVerdict slot .off s) :=
  keeps_moveVerdict (readyFor_off (verdict_of_railTimerDue hd)) h

theorem keeps_railEvent {slot : Fin 16} (h : Keeps r s) : Keeps r (railEvent slot s) :=
  .ite (fun hd => keeps_settled hd h) fun _ => .ite (fun hd => keeps_drained hd h) fun _ =>
    .ite (fun _ => keeps_takeRail (keeps_beginPass h)) fun _ => h

theorem keeps_awaitRail {ends : Verdict → Bool} {ended : State → Bool} {slot : Fin 16} (h : Keeps r s) :
    Keeps r (awaitRail ends ended slot s) := by
  obtain ⟨-, he⟩ | ⟨-, -, he⟩ | ⟨-, -, he⟩ := awaitRail_cases ends ended slot s <;> rw [he]
  · exact keeps_handOnVerdict h
  · exact keeps_railEvent h
  · exact h

/-! ## The clocks -/

theorem clockInv_tick {c : Clock} (h : ClockInv c) : ClockInv (tickClock c) := by
  obtain ⟨hfast, hslow, hlock, harmed, hwindow, hgood, hgood3, hchanges⟩ := h
  refine ⟨hfast, hslow, hlock, harmed, ?_, hgood, hgood3, hchanges⟩
  unfold tickClock
  dsimp only
  split
  next hc => exact fun _ => ⟨hc.2.1, hc.1⟩
  · exact hwindow

theorem clockInv_loseSo {c : Clock} (h : ClockInv c) : ClockInv (loseSo c) := by
  obtain ⟨hfast, hslow, hlock, harmed, hwindow, hgood, hgood3, hchanges⟩ := h
  unfold loseSo
  dsimp only
  split
  · exact ⟨hfast, hslow, hlock, by simp, by simp, hgood, hgood3, hchanges⟩
  next hloop => exact clockInv_clearLocked hfast.1 (by simpa [hloop] using hslow) (by simp) (by simp) rfl hchanges

theorem clockInv_gainSo {c : Clock} (h : ClockInv c) : ClockInv (gainSo c) := by
  obtain ⟨hfast, hslow, hlock, harmed, hwindow, hgood, hgood3, hchanges⟩ := h
  exact ⟨hfast, hslow, hlock, by simp [gainSo], fun hw => ⟨rfl, (hwindow hw).2⟩, hgood, hgood3, hchanges⟩

theorem keeps_newBoundary {lines : Lines} (h : Keeps r s) : Keeps r (newBoundary lines s) := by
  have htick := keeps_setPins (x := { s.pins with now := lines }) (keeps_setClock clockInv_tick h)
  exact .ite (fun _ => htick) fun _ => keeps_setBoundary (keeps_setWake_same rfl rfl htick)

theorem windowDue_iff :
    windowDue s = true ↔ s.clock.loop ≠ .off ∧ s.clock.source = .so ∧
      ∃ start, s.clock.window = some start ∧ elapsed s start = Config.windowTicks := by
  unfold windowDue
  cases hw : s.clock.window <;> simp [and_assoc]

/-- A window of a loop that tracks without LOCKED ends good: the count rises, and LOCKED sets with the fourth (R131). -/
theorem keeps_goodWindow (hloop : s.clock.loop = .tracking) (hlock : s.clock.locked = false) (h : Keeps r s) :
    Keeps r
      (let t := s.setClock { s.clock with good := s.clock.good + 1 }
       if 4 ≤ t.clock.good then setLocked t else t) := by
  refine .ite (fun hgood => ?_) fun hgood => keeps_setClock (fun hs => ?_) h
  · unfold setLocked
    simp only [State.setClock_clock, hlock, Bool.false_eq_true, if_false, State.setClock_twice]
    refine .ite (fun _ => keeps_handOn ?_) fun _ => ?_
    all_goals
      refine keeps_setClock (fun ⟨hfast, hslow, _, harmed, hwindow, hgood, hgood3, hchanges⟩ => ?_) h
      have hsat : satInc Config.max8 s.clock.lockChanges ≤ 255 := satInc_le _ _
      have hle : s.clock.good + 1 ≤ 4 := Nat.succ_le_succ (hgood3 hlock)
      have hmode : s.clock.mode = .fastRc := by cases hm : s.clock.mode <;> simp_all
      exact ⟨by simp [hmode], by simp [hmode, hloop], fun _ => hloop, harmed, hwindow, hle, by simp, hsat⟩
  · obtain ⟨hfast, hslow, htrack, harmed, hwindow, hgood4, hgood3, hchanges⟩ := hs
    have hle : s.clock.good + 1 ≤ 3 := Nat.le_of_lt_succ (Nat.not_le.1 hgood)
    exact ⟨hfast, hslow, htrack, harmed, hwindow, Nat.le_succ_of_le hle, fun _ => hle, hchanges⟩

theorem keeps_endWindow {count : Nat} (hd : windowDue s = true) (h : Keeps r s) : Keeps r (endWindow count s) := by
  obtain ⟨hloop, hso, -⟩ := windowDue_iff.1 hd
  have hwin : Keeps r (s.setClock { s.clock with window := some s.clock.tick }) :=
    keeps_setClock (fun ⟨hfast, hslow, hlock, harmed, _, hgood, hgood3, hchanges⟩ =>
      ⟨hfast, hslow, hlock, harmed, fun _ => ⟨hso, hloop⟩, hgood, hgood3, hchanges⟩) h
  unfold endWindow
  dsimp only
  split
  · exact hwin
  next hacq =>
    refine .ite (fun _ => keeps_setClock (fun hs => ?_) hwin) fun _ => hwin
    grind
  next htrack =>
    refine .ite (fun _ => keeps_setClock (fun hs => ?_) hwin) fun _ => .ite (fun _ => hwin) fun hlock =>
      .ite (fun _ => keeps_setClock (fun hs => ?_) hwin) fun _ => ?_
    · obtain ⟨hfast, hslow, -, harmed, hwindow, -, -, hchanges⟩ := hs
      exact clockInv_clearLocked hfast.1 (by grind) harmed (by grind) rfl hchanges
    · grind
    · exact keeps_goodWindow htrack (by simpa using hlock) hwin

theorem keeps_awaitLock {count : Nat} (h : Keeps r s) : Keeps r (awaitLock count s) :=
  .ite (fun _ => .ite (fun _ => keeps_handOn h) fun _ => h) fun _ => .ite (fun hd => keeps_endWindow hd.1 h) fun _ => h

/-! ## The Wake Unit -/

theorem keeps_overrideExpires (h : Keeps r s) : Keeps r (overrideExpires s) := by
  have hidle : Keeps r (s.setWake { s.wake with overrideT := none }) := keeps_setWake_same rfl rfl h
  unfold overrideExpires
  dsimp only
  split
  all_goals first | exact keeps_triggerOverride hidle | exact hidle

theorem keeps_startOverride (h : Keeps r s) : Keeps r (startOverride s) :=
  .ite (fun _ => h) fun _ => .ite (fun _ => keeps_overrideExpires (keeps_setWake_same rfl rfl h)) fun _ =>
    keeps_setWake_same rfl rfl h

theorem keeps_guardEffect {src : Fin 9} (h : Keeps r s) : Keeps r (guardEffect src s) :=
  .ite (fun _ => keeps_clearLatch h) fun _ => .ite (fun _ => keeps_triggerFault h) fun _ => h

theorem keeps_timerEffect {src : Fin 9} (h : Keeps r s) : Keeps r (timerEffect src s) :=
  .ite (fun _ => keeps_startOverride h) fun _ => h

theorem keeps_fireEffect {src : Fin 9} (h : Keeps r s) : Keeps r (fireEffect src s) :=
  keeps_fire (keeps_setWake_same rfl rfl h)

theorem keeps_activeEffects {src : Fin 9} {order : EffectOrder} (h : Keeps r s) :
    Keeps r (activeEffects src order s) := by
  have hf {s} (h : Keeps r s) : Keeps r (runChain (fireEffect src s)) := keeps_runChain (keeps_fireEffect h)
  have hg {s} (h : Keeps r s) : Keeps r (runChain (guardEffect src s)) := keeps_runChain (keeps_guardEffect h)
  have ht {s} (h : Keeps r s) : Keeps r (runChain (timerEffect src s)) := keeps_runChain (keeps_timerEffect h)
  cases order with
  | wakeGuardTimer => exact ht (hg (hf h))
  | wakeTimerGuard => exact hg (ht (hf h))
  | guardWakeTimer => exact ht (hf (hg h))
  | guardTimerWake => exact hf (ht (hg h))
  | timerWakeGuard => exact hg (hf (ht h))
  | timerGuardWake => exact hf (hg (ht h))

theorem keeps_takeSample {src : Fin 9} (h : Keeps r s) : Keeps r (takeSample src s) := keeps_setWake_same rfl rfl h

theorem keeps_detectorSample {src : Fin 9} {order : EffectOrder} (h : Keeps r s) :
    Keeps r (detectorSample src order s) := by
  have hs : Keeps r (takeSample src (s.setBoundary { s.boundary with det := poke s.boundary.det src false })) :=
    keeps_takeSample (keeps_setBoundary h)
  unfold detectorSample
  refine .ite (fun _ => keeps_setWake_same rfl rfl hs) fun _ => .ite (fun _ => keeps_activeEffects hs) fun _ => ?_
  have hdet {d} : Keeps r (setDet src d _) := keeps_setWake_same rfl rfl hs
  exact .ite (fun _ => keeps_setWake_same rfl rfl hdet) fun _ => hdet

theorem keeps_pfailSample (h : Keeps r s) : Keeps r (pfailSample s) := by
  have hs {d} : Keeps r ((s.setBoundary { s.boundary with pfail := false }).setWake { s.wake with pfail := d }) :=
    keeps_setWake_same rfl rfl (keeps_setBoundary h)
  unfold pfailSample
  refine .ite (fun _ => hs) fun _ => .ite (fun _ => keeps_triggerPowerfail hs) fun _ => ?_
  exact .ite (fun _ => keeps_setPsc id hs) fun _ => keeps_restoreAction hs

/-! ## Waiting steps -/

theorem keeps_stepExpires (h : Keeps r s) : Keeps r (stepExpires s) := by
  unfold stepExpires
  split
  · exact keeps_endRunWith h
  · exact keeps_endRunWith (keeps_driveLine h)
  · exact keeps_endRunWith (keeps_withdrawSendWire h)
  all_goals first | exact keeps_endRunWith h | exact h

theorem keeps_awaitLine (h : Keeps r s) : Keeps r (awaitLine s) :=
  .ite (fun _ => keeps_endRunWith (keeps_takeSample h)) fun _ => keeps_takeSample h

theorem slotFree_of_drainCanTake {p : Port} (h : drainCanTake s p = true) : slotFree s p = true :=
  (Bool.and_eq_true_iff.1 h).1

theorem keeps_drainTakes (h : Keeps r s) : Keeps r (drainTakes s) :=
  .ite (fun hc => keeps_takeOldest (slotFree_of_drainCanTake hc) h) fun _ =>
    .ite (fun hc => keeps_takeOldest (slotFree_of_drainCanTake hc) h) fun _ => h

theorem keeps_awaitDrain (h : Keeps r s) : Keeps r (awaitDrain s) :=
  .ite (fun _ => keeps_handOnDrained h) fun _ => .ite (fun _ => keeps_drainTakes h) fun _ => h

/-! ## The link ports -/

theorem keeps_receptionBegins {p : Port} {rested : Bool} (h : Keeps r s) :
    Keeps r
      (let l := link s p
       if s.lrst || l.receiving.isSome || (l.needRest && !rested) then s
       else setLink s p { l with receiving := some (ready s p), needRest := false }) := by
  refine .ite (fun _ => h) fun hc => keeps_setLink (fun ⟨hrx, htx, hn, _⟩ => portMid_setLink.2 ⟨?_, htx, hn, ?_⟩) h
  · have hready : ready s p = true → rxInUse (link s p) < 4 := fun hr => by
      simp only [ready, Bool.and_eq_true, decide_eq_true_eq] at hr
      exact hr.1.1
    have hnone : (link s p).receiving = none := by simp_all
    simp only [rxInUse, hnone, reduceCtorEq, if_false, Option.some.injEq] at hrx hready ⊢
    split
    · have := hready ‹_›
      omega
    · exact hrx
  · simp_all

theorem keeps_countDrop {p : Port} {c : DropCause} (h : Keeps r s) : Keeps r (countDrop p c s) := by
  cases c <;> exact keeps_countPort h

/-- A reception that held a slot ends, and its frame takes the slot's place in the queue (R142, R143). -/
theorem keeps_enterRx {p : Port} {f : Frame} (hrec : (link s p).receiving = some true) (h : Keeps r s) :
    Keeps r (enterRx p f (setLink s p { link s p with receiving := none })) := by
  have htwice : enterRx p f (setLink s p { link s p with receiving := none }) =
      setLink s p { link s p with receiving := none, rx := (link s p).rx ++ [f] } := by
    cases p <;> rfl
  rw [htwice]
  refine keeps_setLink (fun ⟨hrx, htx, hn, hempty⟩ => portMid_setLink.2 ⟨?_, htx, hn, fun hpow hl => ?_⟩) h
  · simpa [rxInUse, hrec] using hrx
  · simp_all

theorem keeps_receptionEnds {p : Port} (h : Keeps r s) :
    Keeps r (setLink s p { link s p with receiving := none }) := by
  refine keeps_setLink (fun ⟨hrx, htx, hn, hempty⟩ => portMid_setLink.2 ⟨?_, htx, hn, fun hpow hl => ?_⟩) h
  · simp only [rxInUse, reduceCtorEq, if_false] at hrx ⊢
    omega
  · simp_all

theorem keeps_sendCompletion {p : Port} (h : Keeps r s) :
    Keeps r (setLink s p { link s p with tx := (link s p).tx.tail }) := by
  refine keeps_setLink (fun ⟨hrx, htx, hn, hempty⟩ => portMid_setLink.2 ⟨hrx, ?_, hn, fun hpow hl => ?_⟩) h
  · simp only [List.length_tail]
    omega
  · simp_all

theorem keeps_resetWires (h : Keeps r s) : Keeps r (resetWires s) := keeps_setWire rfl id h

theorem keeps_resetRequests (h : Keeps r s) : Keeps r (resetRequests s) :=
  .ite (fun _ => h) fun _ => keeps_requestIfChanged (keeps_resetWires h)

theorem keeps_resendOwn (h : Keeps r s) : Keeps r (resendOwn s) :=
  keeps_foldl (fun s _ => keeps_createInternal (by simp [isNotice]) (.refl s)) _ <|
    keeps_foldl (fun s _ => keeps_createInternal (by simp [isNotice]) (.refl s)) _ h

theorem keeps_reannounce (h : Keeps r s) : Keeps r (reannounce s) := by
  have hall := keeps_foldl (f := fun s e => createNotice e.source s) (fun s _ => keeps_createNotice (.refl s))
    s.wake.queue h
  unfold reannounce
  split
  all_goals first | exact hall | exact h

theorem keeps_rejoinSendWire (h : Keeps r s) : Keeps r (rejoinSendWire s) :=
  .ite (fun _ => keeps_createInternal (by simp [isNotice]) h) fun _ => h

/-! ## The classifier -/

theorem offered_eq_some {p : Port} {f : Frame} (h : offered s p = some f) :
    takable s p f = true ∧ (link s p).rx.head? = some f := by
  unfold offered at h
  split at h
  · simp at h
  next g rest hrx =>
    split at h
    next ht =>
      obtain rfl := Option.some.inj h
      exact ⟨ht, by simp [hrx]⟩
    · simp at h

/-- The frame the classifier takes next stands at the head of its port's queue and can be taken (R115). -/
theorem picked_eq_some {p : Port} {f : Frame} (h : picked s = some (p, f)) :
    takable s p f = true ∧ (link s p).rx.head? = some f := by
  unfold picked at h
  split at h
  next g hg =>
    obtain ⟨rfl, rfl⟩ := Prod.mk.inj (Option.some.inj h)
    exact offered_eq_some hg
  · obtain ⟨g, hg, he⟩ := Option.map_eq_some_iff.1 h
    obtain ⟨rfl, rfl⟩ := Prod.mk.inj he
    exact offered_eq_some hg

theorem keeps_popRx {p : Port} (h : Keeps r s) : Keeps r (popRx p s) := by
  refine keeps_setWire (by simp) (by simp) (keeps_setLink (fun ⟨hrx, htx, hn, hempty⟩ => ?_) h)
  refine portMid_setLink.2 ⟨?_, htx, hn, fun hpow hl => ?_⟩
  · simp only [rxInUse, List.length_tail] at hrx ⊢
    omega
  · simp_all

/-- A free slot stays free as a frame is taken from a receive queue. -/
theorem slotFree_popRx (p q : Port) (s : State) : slotFree (popRx p s) q = slotFree s q := by
  cases p <;> cases q <;> rfl

theorem collapseInto_length {e : WireLevel} {l l' : List WireLevel} (h : collapseInto e l = some l') :
    l'.length = l.length := by
  induction l generalizing l' with
  | nil => simp [collapseInto] at h
  | cons x xs ih =>
    unfold collapseInto at h
    split at h
    next ys hys =>
      obtain rfl := Option.some.inj h
      simp [ih hys]
    · split at h
      · obtain rfl := Option.some.inj h
        rfl
      · simp at h

theorem keeps_countWire {f : Classifier → Classifier} (hf : ∀ c, (f c).kept = c.kept ∧ (f c).queue = c.queue)
    (h : Keeps r s) : Keeps r (countWire f s) :=
  keeps_setWire (hf _).1 (by rw [(hf _).2]; exact id) h

theorem keeps_onOpenReport {f : Report → Report} (h : Keeps r s) : Keeps r (onOpenReport f s) :=
  .ite (fun _ => keeps_onReport h) fun _ => h

theorem keeps_holdEntry {e : WireLevel} (h : Keeps r s) : Keeps r (holdEntry e s) := by
  refine .ite (fun hroom => keeps_ensureDrain (keeps_setWire rfl (fun _ => by rw [List.length_append]; exact hroom) h)) fun _ => ?_
  split
  next q hq =>
    refine keeps_onOpenReport (keeps_countWire (fun _ => ⟨rfl, rfl⟩) (keeps_setWire rfl ?_ h))
    rw [collapseInto_length hq]
    exact id
  · exact keeps_onOpenReport (keeps_countWire (fun _ => ⟨rfl, rfl⟩) h)

theorem keeps_recordEntry {e : WireLevel} (h : Keeps r s) : Keeps r (recordEntry e s) :=
  keeps_runChain (keeps_requestIfChanged (keeps_setLevel h))

theorem keeps_handleEntry {p : Port} {x : State × List WireLevel} {b : Byte} (h : Keeps r x.1) :
    Keeps r (handleEntry p x b).1 := by
  have hmis : Keeps r (countWire incMisdirected x.1) := keeps_countWire (fun _ => ⟨rfl, rfl⟩) h
  unfold handleEntry
  dsimp only
  split
  · exact keeps_countPort h
  · split
    · exact keeps_countWire (fun _ => ⟨rfl, rfl⟩) h
    · exact keeps_recordEntry h
    · split
      · exact hmis
      · exact keeps_recordEntry h
    · split
      · exact hmis
      · exact keeps_recordEntry h
    · split
      · exact hmis
      · split
        · exact keeps_recordEntry h
        · exact keeps_holdEntry (keeps_recordEntry h)

theorem keeps_entries {p : Port} (bs : List Byte) {x : State × List WireLevel} (h : Keeps r x.1) :
    Keeps r (bs.foldl (handleEntry p) x).1 := by
  induction bs generalizing x with
  | nil => exact h
  | cons b bs ih => exact ih (keeps_handleEntry h)

theorem keeps_sendForwarded {p : Port} {n : Nat} {f : Frame} (hf : slotFree s p = true) (h : Keeps r s) :
    Keeps r (sendForwarded p n f s) := by
  refine .ite (fun _ => keeps_queueTx hf h) fun _ => keeps_setUses (keeps_setLink ?_ h)
  obtain ⟨hroom, hlrst⟩ := slotFree_iff.1 hf
  refine fun ⟨hrx, _, hn, _⟩ => portMid_setLink.2 ⟨hrx, ?_, hn, by simp [hlrst]⟩
  simp only [insertAt, List.length_append, List.length_cons, List.length_take, List.length_drop]
  omega

/-! ## Whole commands -/

/-- State `t` comes from `s` by a whole command: the relations of the blocks and of the queues between events. -/
structure Preserves (s t : State) : Prop extends KeepsBlocks s t where
  queueInv : QueueInv s → QueueInv t

theorem queueInv_iff : QueueInv s ↔ QueueMid s ∧ s.wire.kept = none := by
  have hheld : (s.powered && s.lrst) = true ↔ s.powered = true ∧ s.lrst = true := Bool.and_eq_true_iff
  constructor
  · rintro ⟨hhub, hboard, hn, hk, hq⟩
    refine ⟨⟨fun p => ?_, hq⟩, hk⟩
    cases p
    · simpa [PortMid, LinkInv, link, hk, noticeRoom] using hhub
    · simp only [LinkInv, hheld] at hboard
      obtain ⟨hrx, htx, -, hempty⟩ := hboard
      exact ⟨hrx, by simpa [hk, link] using htx, hn.le, fun a b => hempty ⟨a, b⟩⟩
  · rintro ⟨⟨hp, hq⟩, hk⟩
    obtain ⟨hrx, htx, hn, hempty⟩ := hp .board
    refine ⟨by simpa [PortMid, LinkInv, link, hk, noticeRoom] using hp .hub, ?_, Nat.le_zero.1 hn, hk, hq⟩
    refine ⟨hrx, by simpa [hk, link] using htx, hn.trans (by decide), fun hh => ?_⟩
    obtain ⟨hpow, hl⟩ := hheld.1 hh
    exact hempty hpow hl

theorem Keeps.preserves (h : Keeps s t) : Preserves s t := by
  refine ⟨h.toKeepsBlocks, fun hs => ?_⟩
  obtain ⟨hq, hk⟩ := queueInv_iff.1 hs
  exact queueInv_iff.2 ⟨h.queues hq, h.kept.trans hk⟩

theorem Preserves.refl (s : State) : Preserves s s := (Keeps.refl s).preserves

theorem Preserves.trans (h : Preserves s t) (g : Preserves t u) : Preserves s u :=
  ⟨h.toKeepsBlocks.trans g.toKeepsBlocks, g.queueInv ∘ h.queueInv⟩

theorem Preserves.runChain (h : Preserves s t) : Preserves s (runChain t) :=
  h.trans (keeps_runChain (.refl t)).preserves

/-- A change of the ports and the classifier alone. -/
theorem keepsBlocks_traffic
    (ht : t.psc = s.psc ∧ t.eng = s.eng ∧ t.rails = s.rails ∧ t.fault = s.fault ∧ t.wake = s.wake ∧ t.clock = s.clock ∧
      t.loader = s.loader) : KeepsBlocks s t := by
  obtain ⟨hpsc, heng, hrails, hfault, hwake, hclock, hloader⟩ := ht
  exact ⟨by simp [hclock], by simp [hfault], by simp [hwake], by simp [Calm, heng], by simp [Loaded, hpsc, hloader],
    by simp [hrails]⟩

/-- A slot that is free is kept for the frame being formed (R120). -/
theorem queueMid_keepSlot {p : Port} (hfree : slotFree s p = true) (hk : s.wire.kept = none) (h : QueueMid s) :
    QueueMid (keepSlot (some p) s) := by
  obtain ⟨hroom, hlrst⟩ := slotFree_iff.1 hfree
  refine ⟨fun q => ?_, h.2⟩
  obtain ⟨hrx, htx, hn, -⟩ := h.1 q
  simp only [hk, reduceCtorEq, if_false] at hroom htx
  refine ⟨hrx, ?_, hn, fun _ hl => absurd (hlrst.symm.trans hl) (by simp)⟩
  show (link s q).tx.length + (if some p = some q then 1 else 0) ≤ 8
  split
  next hpq =>
    obtain rfl := Option.some.inj hpq
    exact hroom
  · exact htx

/-- The slot kept is given up, and is free (R120). -/
theorem queueMid_keepSlot_none (h : QueueMid s) : QueueMid (keepSlot none s) := by
  refine ⟨fun q => ?_, h.2⟩
  obtain ⟨hrx, htx, hn, hempty⟩ := h.1 q
  refine ⟨hrx, ?_, hn, hempty⟩
  show (link s q).tx.length + (if none = some q then 1 else 0) ≤ 8
  simp only [reduceCtorEq, if_false]
  omega

theorem slotFree_keepSlot_none {p : Port} (hk : s.wire.kept = some p) (hl : s.lrst = false) (h : QueueMid s) :
    slotFree (keepSlot none s) p = true := by
  obtain ⟨-, htx, -⟩ := h.1 p
  rw [if_pos hk] at htx
  refine slotFree_iff.2 ⟨?_, hl⟩
  show (link s p).tx.length + (if none = some p then 1 else 0) < 8
  simp only [reduceCtorEq, if_false]
  omega

theorem keepsBlocks_sendForwarded (p : Port) (n : Nat) (f : Frame) (s : State) :
    KeepsBlocks s (sendForwarded p n f s) := by
  unfold sendForwarded
  split <;> exact keepsBlocks_traffic (by simp)

/-- A whole WIRE frame keeps the queues: the slot kept for the outgoing frame is there for it at the end (R120). -/
theorem preserves_handleWire {p : Port} {f : Frame} (hfree : QueueInv s → slotFree s p.other = true) :
    Preserves s (handleWire p f s) := by
  have hkeep : KeepsBlocks s (keepSlot (some p.other) s) := keepsBlocks_traffic (by simp [keepSlot])
  have hfold := keeps_entries (p := p) f.payload (x := (keepSlot (some p.other) s, [])) (.refl _)
  unfold handleWire
  dsimp only
  generalize List.foldl (handleEntry p) (keepSlot (some p.other) s, []) f.payload = x at hfold ⊢
  have hdone : KeepsBlocks s (keepSlot none x.1) :=
    (hkeep.trans hfold.toKeepsBlocks).trans (keepsBlocks_traffic (by simp [keepSlot]))
  have hsent : KeepsBlocks (keepSlot none x.1) (if x.2 = [] then keepSlot none x.1 else
      sendForwarded p.other (link s p.other).tx.length (wireFrame f.tag x.2) (keepSlot none x.1)) := by
    split
    · exact .refl _
    · exact keepsBlocks_sendForwarded _ _ _ _
  refine ⟨hdone.trans (hsent.trans (keeps_pump (.refl _)).toKeepsBlocks), fun hs => ?_⟩
  obtain ⟨hmid, hk⟩ := queueInv_iff.1 hs
  have hx : QueueMid x.1 := hfold.queues (queueMid_keepSlot (hfree hs) hk hmid)
  have hslot : slotFree (keepSlot none x.1) p.other = true :=
    slotFree_keepSlot_none hfold.kept (hfold.lrst.trans (slotFree_iff.1 (hfree hs)).2) hx
  have hlast : Keeps (keepSlot none x.1) (pump (if x.2 = [] then keepSlot none x.1 else
      sendForwarded p.other (link s p.other).tx.length (wireFrame f.tag x.2) (keepSlot none x.1))) :=
    keeps_pump (.ite (fun _ => .refl _) fun _ => keeps_sendForwarded hslot (.refl _))
  exact queueInv_iff.2 ⟨hlast.queues (queueMid_keepSlot_none hx), hlast.kept⟩

theorem preserves_takeNext {row : Port → Frame → Bool} {handle : Port → Frame → State → State}
    (hh : ∀ p f, takable s p f = true → row p f = true → Preserves (popRx p s) (handle p f (popRx p s))) :
    Preserves s (takeNext row handle s) := by
  unfold takeNext
  split
  · exact .refl s
  next p f hpick =>
    split
    · exact (keeps_popRx (.refl s)).preserves.trans (hh p f (picked_eq_some hpick).1 ‹_›)
    · exact .refl s

theorem slotFree_of_takable_wire {p : Port} {f : Frame} (ht : takable s p f = true) (hf : f.kind = .wire) :
    slotFree s p.other = true := by
  simp only [takable, hf, forwardSlot, Bool.and_eq_true] at ht
  exact ht.1

theorem slotFree_of_takable_data {p : Port} {f : Frame} (ht : takable s p f = true) (hf : f.kind = .data)
    (hr : f.route = false) : slotFree s p.other = true := by
  simp only [takable, hf, hr, Bool.false_or, forwardSlot, Bool.and_eq_true] at ht
  exact ht.1

theorem keeps_boardWake {p : Port} {f : Frame} (h : Keeps r s) : Keeps r (handleBoardWake p f s) := by
  unfold handleBoardWake
  split
  · exact .ite (fun _ => keeps_fire h) fun _ => keeps_countPort h
  · exact keeps_countPort h

/-! ## Management requests -/

theorem keeps_respond {p : Port} {f : Frame} {a : Answer} (h : Keeps r a.state) : Keeps r (respond p f a) :=
  keeps_setAgent h

theorem keeps_guarded {p : Port} {req : List Byte} {act : List Byte → State → Answer} (ha : Keeps r (act req s).state)
    (h : Keeps r s) : Keeps r (guarded p req act s).state := by
  unfold guarded
  split
  · exact h
  · split
    · exact h
    · exact ha

/-- The status of a rail that is OFF, under a record just written (R56). -/
theorem railRelation_rewritten {old new : RailRec} {x : RailStat} (hoff : x.verdict = .off)
    (h : RailRelation false old x) : RailRelation false new (rewrittenStat new x) := by
  have hf : 0 < actingFilter new.filter := one_le_actingFilter new.filter
  obtain ⟨hdriven, hen, htimer, -, -, hlost⟩ := h
  simp_all [RailRelation, CountsInRange, rewrittenStat]

theorem keeps_rearm {n : Fin 9} {a b : WakeSource} (h : Keeps r s) : Keeps r (rearm n a b s) :=
  .ite (fun _ => keeps_takeFire h) fun _ => h

theorem keeps_resense {n : Fin 9} {a b : WakeSource} (h : Keeps r s) : Keeps r (resense n a b s) :=
  .ite (fun _ => h) fun _ => .ite (fun _ => keeps_setWake_same rfl rfl (keeps_setWake_same rfl rfl h)) fun _ =>
    keeps_setWake_same rfl rfl h

theorem keeps_wakeWritten {src : Fin 14} {a b : WakeSource} (h : Keeps r s) : Keeps r (wakeWritten src a b s) := by
  unfold wakeWritten
  split
  · exact keeps_rearm (keeps_resense h)
  · exact h

theorem keeps_applyWrite {c : Checked} (hc : railBusy c s = false) (h : Keeps r s) : Keeps r (applyWrite c s) := by
  cases c with
  | rail slot rec b =>
    have hoff : (peek s.rails.stat slot).verdict = .off := by simpa [railBusy] using hc
    show Keeps r (s.setRails { s.rails with
      table := poke s.rails.table slot rec
      stat := poke s.rails.stat slot (rewrittenStat rec (peek s.rails.stat slot)) })
    refine keeps_setRails (fun _ hs n => ?_) h
    obtain rfl | hn := eq_or_ne slot n
    · rw [peek_poke_self, peek_poke_self]
      exact railRelation_rewritten hoff (hs slot)
    · rw [peek_poke_ne _ _ hn, peek_poke_ne _ _ hn]
      exact hs n
  | step i rec => exact keeps_setEng (.inl ⟨rfl, rfl⟩) h
  | trans i e => exact keeps_setPsc id h
  | wire w e => exact keeps_setWire rfl id h
  | wake src e => exact keeps_wakeWritten (keeps_setWake_same rfl rfl h)
  | policy0 p b => exact keeps_requestIfChanged (keeps_setPsc id h)
  | policy1 p => exact keeps_setPsc id h

theorem keeps_writeAct {tab : Table} {req : List Byte} (h : Keeps r s) : Keeps r (writeAct tab req s).state := by
  unfold writeAct
  dsimp only
  split
  · exact h
  · split
    · exact h
    · split
      · exact h
      · split
        · exact h
        next hbusy => exact keeps_applyWrite (Bool.eq_false_iff.2 hbusy) h

theorem keeps_controlAct {code : Nat} {act : State → Answer} {req : List Byte} (ha : Keeps r (act s).state)
    (h : Keeps r s) : Keeps r (controlAct code act req s).state := by
  unfold controlAct
  split
  · exact h
  · exact ha

theorem keeps_haltAct (h : Keeps r s) : Keeps r (haltAct s).state := by
  unfold haltAct
  split
  · exact keeps_setEng (.inl ⟨rfl, rfl⟩) h
  · exact keeps_setEng (.inl ⟨rfl, rfl⟩) h
  all_goals exact h

theorem keeps_continueSlot (h : Keeps r s) : Keeps r (continueSlot s) := by
  unfold continueSlot
  split
  · exact h
  · exact keeps_requestEvent (keeps_setPsc id h)

theorem keeps_resumeRun (h : Keeps r s) : Keeps r (resumeRun s) :=
  .ite (fun _ => keeps_setEng (.inr (.inr (by simp))) h) fun _ => h

theorem resumedState_ne_loading (x : Option HaltedFrom) : resumedState x ≠ .loading := by
  match x with
  | none => simp [resumedState]
  | some .transit => simp [resumedState]
  | some .backout => simp [resumedState]

theorem keeps_continueAct (h : Keeps r s) : Keeps r (continueAct s).state := by
  unfold continueAct
  split
  · exact keeps_resumeRun (keeps_continueSlot (keeps_setPsc (fun _ => resumedState_ne_loading _) h))
  · exact h

theorem keeps_clearFaultAct (h : Keeps r s) : Keeps r (clearFaultAct s).state :=
  keeps_clearLatch (keeps_setFault (fun _ => by simp) h)

theorem keeps_clearFlagsAct (h : Keeps r s) : Keeps r (clearFlagsAct s).state :=
  keeps_setLoader (fun _ => id) <| keeps_setClock id <| keeps_setWire rfl id <| keeps_setWake_same rfl rfl <|
    keeps_setPsc id h

theorem keeps_zeroPort {p : Port} (h : Keeps r s) : Keeps r (setLink s p { link s p with counters := zeroCounters }) :=
  keeps_setLink (fun hp => portMid_setLink.2 hp) h

theorem keeps_clearCountersAct (h : Keeps r s) : Keeps r (clearCountersAct s).state := by
  refine keeps_setLoader (fun _ => id) <| keeps_setClock (fun hs => ?_) <| keeps_setWake (fun hs => ?_) <|
    keeps_setRails (fun _ hs n => ?_) <| keeps_setWire rfl id <| keeps_zeroPort (p := .board) <|
      keeps_zeroPort (p := .hub) h
  · obtain ⟨hfast, hslow, hlock, harmed, hwindow, hgood, hgood3, -⟩ := hs
    exact ⟨hfast, hslow, hlock, harmed, hwindow, hgood, hgood3, Nat.zero_le _⟩
  · obtain ⟨hlen, hnodup, hcount, -⟩ := hs
    exact ⟨hlen, hnodup, hcount, by simp⟩
  · obtain ⟨hdriven, hen, htimer, hnone, hcounts, -⟩ := hs n
    rw [peek_map]
    exact ⟨hdriven, hen, htimer, hnone, hcounts, Nat.zero_le _⟩

/-! ## The image load -/

/-- The tables of an image load still going on may be written as they come. -/
theorem keeps_putRecord {c : Checked} (hload : ¬Loaded r) (h : Keeps r s) : Keeps r (putRecord c s) := by
  cases c with
  | rail slot rec b => exact keeps_setRails (fun hr => absurd hr hload) h
  | step i rec => exact keeps_setEng (.inl ⟨rfl, rfl⟩) h
  | trans i e => exact keeps_setPsc id h
  | wire w e => exact keeps_setWire rfl id h
  | wake src e => exact keeps_setWake_same rfl rfl h
  | policy0 p b => exact keeps_setPsc id h
  | policy1 p => exact keeps_setPsc id h

theorem keeps_badImage (hload : ¬Loaded r) (h : Keeps r s) : Keeps r (badImage s) :=
  keeps_setLoader (fun hr => absurd hr hload) <| keeps_setPsc id <| keeps_setWake_same rfl rfl <|
    keeps_setWire rfl id <| keeps_setEng (.inl ⟨rfl, rfl⟩) <| keeps_setRails (fun hr => absurd hr hload) h

theorem keeps_imageWarning (h : Keeps r s) : Keeps r (imageWarning s) := keeps_setLoader (fun _ => id) h

theorem keeps_installRecord {tab : Table} {i : Nat} {bs : List Byte} (hload : ¬Loaded r) (h : Keeps r s) :
    Keeps r (installRecord tab i bs s) := by
  unfold installRecord
  split
  · split
    · exact .ite (fun _ => keeps_imageWarning (keeps_putRecord hload h)) fun _ => keeps_putRecord hload h
    · exact keeps_imageWarning h
  · exact keeps_imageWarning h

theorem keeps_endLoad {lines : Lines} (hload : ¬Loaded r) (h : Keeps r s) : Keeps r (endLoad lines s) :=
  keeps_restoreAction <| keeps_setPsc (by simp) <| keeps_setWake_same rfl rfl <| keeps_setWake_same rfl rfl <|
    keeps_setBoundary <| keeps_setPins <| keeps_setWire rfl id <| keeps_setPins <|
      keeps_setRails (fun hr => absurd hr hload) <| keeps_setLoader (fun hr => absurd hr hload) h

/-- While the loader has a phase to go the load is not over. -/
theorem not_loaded (h : s.loader.phase ≠ .done) : ¬Loaded s := fun hs => h hs.2

/-! ## Every command but the standby power-on reset -/

/-- State `t` is the answer of a command in `s`: besides, an engine at rest has come to rest again (R25). -/
structure Answers (s t : State) : Prop extends Preserves s t where
  rest : s.eng.due = .nothing → t.eng.due = .nothing

theorem Answers.refl (s : State) : Answers s s := ⟨.refl s, id⟩

theorem calm_of_rest (h : s.eng.due = .nothing) : Calm s := fun e he => by simp [h] at he

/-- The chain that a command sets going runs whole within it. -/
theorem Preserves.answers_runChain (h : Preserves s t) : Answers s (Machine.runChain t) :=
  ⟨h.runChain, fun hs => runChain_rest (h.calm (calm_of_rest hs))⟩

/-- A command that needs power, by what it does. -/
theorem answers_whilePowered {f : State → State} (h : whilePowered s f = .next t) (hf : Preserves s (f s)) :
    Answers s t := by
  rw [whilePowered_eq] at h
  obtain rfl := Host.Outcome.next.inj h
  split
  · exact hf.answers_runChain
  · exact .refl s

theorem answers_of_keeps {f : State → State} (h : whilePowered s f = .next t) (hf : Keeps s (f s)) : Answers s t :=
  answers_whilePowered h hf.preserves

theorem answers_serve {row : List Byte → Bool} {act : List Byte → State → Answer}
    (hout : serve row act s = .next t) (ha : ∀ s req, Keeps s (act req s).state) : Answers s t :=
  answers_whilePowered hout <| preserves_takeNext fun _ _ _ _ =>
    (keeps_respond (keeps_runChain (keeps_guarded (ha _ _) (.refl _)))).preserves

theorem answers_imageHeader {a b c : Byte} (h : execImageHeaderRead a b c s = .next t) : Answers s t := by
  refine answers_of_keeps h ?_
  split
  next hphase =>
    have hload : ¬Loaded s := not_loaded (by simp [hphase])
    have hsent : Keeps s (sendCommand s) := keeps_setLoader (fun _ => id) (.refl s)
    exact .ite (fun _ => keeps_setLoader (fun hr => absurd hr hload) (keeps_setLoader (fun _ => id) hsent))
      fun _ => keeps_badImage hload hsent
  all_goals exact .refl s

theorem answers_imageRecord {a b : Byte} {data : Vector Byte 11} (h : execImageRecordRead a b data s = .next t) :
    Answers s t := by
  refine answers_of_keeps h ?_
  split
  next hphase =>
    have hload : ¬Loaded s := not_loaded (by simp [hphase])
    split
    · exact keeps_badImage hload (.refl s)
    · exact keeps_setLoader (fun hr => absurd hr hload)
        (keeps_installRecord hload (keeps_setLoader (fun _ => id) (.refl s)))
  all_goals exact .refl s

theorem answers_endOfTheLoad {a b : Byte} {lines : Lines} (h : execEndOfTheLoad a b lines s = .next t) :
    Answers s t := by
  refine answers_of_keeps h ?_
  split
  next hphase =>
    have hload : ¬Loaded s := not_loaded (by simp [hphase])
    exact .ite (fun _ => keeps_endLoad hload (.refl s)) fun _ => keeps_endLoad hload (keeps_badImage hload (.refl s))
  next hphase => exact keeps_endLoad (not_loaded (by simp [hphase])) (.refl s)
  all_goals exact .refl s

/-- Under LRST, or without power, everything a port holds may be dropped (R147). -/
theorem answers_lrstAsserted {b : Bool} (h : execLrstAsserted b s = .next t) : Answers s t := by
  unfold execLrstAsserted at h
  split at h
  · obtain rfl := Host.Outcome.next.inj h
    exact .refl s
  rw [whilePowered_eq] at h
  obtain rfl := Host.Outcome.next.inj h
  split
  · have hdrop : Preserves s (dropTraffic (s.setLrst true)) := by
      refine ⟨keepsBlocks_traffic (by simp [dropTraffic]), fun _ => ?_⟩
      simp [QueueInv, LinkInv, dropTraffic, resetLink, rxInUse, noticesWaiting]
    refine (hdrop.trans (Keeps.preserves ?_)).answers_runChain
    exact .ite (fun _ => keeps_resetRequests (keeps_runChain (keeps_handOnDrained (.refl _)))) fun _ =>
      keeps_handOnDrained (keeps_runChain (keeps_resetRequests (.refl _)))
  next hpow =>
    refine ⟨⟨keepsBlocks_traffic (by simp), fun hs => ?_⟩, id⟩
    have hoff : s.powered = false := by simpa using hpow
    simpa [QueueInv, LinkInv, hoff] using hs

theorem answers_lrstReleased {b : Bool} (h : execLrstReleased b s = .next t) : Answers s t := by
  unfold execLrstReleased at h
  split at h
  · obtain rfl := Host.Outcome.next.inj h
    exact .refl s
  have hset : Preserves s (s.setLrst false) := by
    refine ⟨keepsBlocks_traffic (by simp), fun hs => ?_⟩
    obtain ⟨⟨hrx, htx, hn, -⟩, ⟨hrx', htx', hn', -⟩, hq⟩ := hs
    exact ⟨⟨hrx, htx, hn, by simp⟩, ⟨hrx', htx', hn', by simp⟩, hq⟩
  have hrest (p : Port) {u : State} (hu : Keeps (s.setLrst false) u) :
      Keeps (s.setLrst false) (setLink u p { link u p with needRest := true }) :=
    keeps_setLink (fun hp => portMid_setLink.2 hp) hu
  have hrel : Answers (s.setLrst false) t := answers_of_keeps h ?_
  · exact ⟨hset.trans hrel.toPreserves, hrel.rest⟩
  refine .ite (fun _ => hrest .board (hrest .hub (.refl _))) fun _ => keeps_rejoinSendWire ?_
  exact .ite (fun _ => keeps_reannounce (keeps_resendOwn (hrest .board (hrest .hub (.refl _))))) fun _ =>
    keeps_resendOwn (keeps_reannounce (hrest .board (hrest .hub (.refl _))))

theorem answers_frameArrival {p : Port} {bs : List Byte} {b : Bool} (h : execFrameArrival p bs b s = .next t) :
    Answers s t := by
  refine answers_of_keeps h ?_
  split
  · exact .refl s
  next slot hrec =>
    have hends : Keeps s (setLink s p { link s p with receiving := none }) := keeps_receptionEnds (.refl s)
    refine .ite (fun _ => keeps_countPort hends) fun hslot => ?_
    split
    · exact keeps_countDrop hends
    · exact keeps_enterRx (by simpa [hrec] using hslot) (.refl s)

theorem answers_wireFrame (h : execWireFrameTaken s = .next t) : Answers s t := by
  refine answers_whilePowered h (preserves_takeNext fun p f ht hrow => preserves_handleWire fun _ => ?_)
  rw [slotFree_popRx]
  exact slotFree_of_takable_wire ht (by simpa using hrow)

theorem answers_dataFrame (h : execDataFrameTaken s = .next t) : Answers s t := by
  refine answers_whilePowered h (preserves_takeNext fun p f ht hrow => Keeps.preserves ?_)
  refine .ite (fun _ => keeps_countPort (.refl _)) fun hroute => keeps_queueTx ?_ (.refl _)
  rw [slotFree_popRx]
  exact slotFree_of_takable_data ht (by simpa using hrow) (by simpa using hroute)

theorem answers_tickBoundary {lines : Lines} (h : execTickBoundary lines s = .next t) : Answers s t :=
  answers_of_keeps h (keeps_newBoundary (keeps_finishPass (.refl s)))

theorem answers_receptionBegins {p : Port} {b : Bool} (h : execFrameReceptionBegins p b s = .next t) :
    Answers s t :=
  answers_of_keeps h (keeps_receptionBegins (.refl s))

theorem answers_sendCompletion {p : Port} (h : execSendCompletion p s = .next t) : Answers s t :=
  answers_of_keeps h (keeps_sendCompletion (.refl s))

theorem answers_sendWireFrame (h : execSendWireFrameTakesSlot s = .next t) : Answers s t :=
  answers_of_keeps h <|
    .ite (fun hc => keeps_takeOldest (Bool.and_eq_true_iff.1 hc).1 (.refl s)) fun _ =>
      .ite (fun hc => keeps_takeOldest (Bool.and_eq_true_iff.1 hc).1 (.refl s)) fun _ => .refl s

theorem answers_mgmtResponse (h : execMgmtResponseTakesSlot s = .next t) : Answers s t := by
  refine answers_of_keeps h ?_
  split
  · exact .refl s
  · refine .ite (fun hc => keeps_setAgent (keeps_queueTx ?_ (.refl s))) fun _ => .refl s
    simp only [responseCanTake, Bool.and_eq_true] at hc
    exact hc.1.1

theorem answers_unknownOp (h : execUnknownOp s = .next t) : Answers s t :=
  answers_whilePowered h (preserves_takeNext fun _ _ _ _ => (keeps_setAgent (.refl _)).preserves)

theorem answers_readStatus (h : execReadStatus s = .next t) : Answers s t := by
  refine answers_serve h fun s req => ?_
  unfold readStatusAct
  split
  · exact .refl s
  · exact keeps_setUses (.refl s)

theorem answers_readTable (h : execReadTable s = .next t) : Answers s t := by
  refine answers_serve h fun s req => ?_
  unfold readTableAct
  dsimp only
  split
  · exact .refl s
  · exact keeps_setUses (.refl s)

theorem answers_powerFall (h : execStandbyPowerFall s = .next t) : Answers s t := by
  obtain rfl := Host.Outcome.next.inj h
  refine ⟨⟨keepsBlocks_traffic (by simp), fun hs => ?_⟩, id⟩
  obtain ⟨⟨hrx, htx, hn, -⟩, ⟨hrx', htx', hn', -⟩, hq⟩ := hs
  exact ⟨⟨hrx, htx, hn, by simp⟩, ⟨hrx', htx', hn', by simp⟩, hq⟩

/-- What every command but the standby power-on reset keeps (R25, R91, R108, R122, R130 to R133, R142, R145). -/
theorem exec_answers {c : Instr} (hc : c ≠ .standbyPowerOnReset) (h : exec c s = .next t) : Answers s t := by
  cases c with
  | standbyPowerOnReset => exact absurd rfl hc
  | imageHeaderRead a b c => exact answers_imageHeader h
  | imageRecordRead a b d => exact answers_imageRecord h
  | endOfTheLoad a b l => exact answers_endOfTheLoad h
  | tickBoundary l => exact answers_tickBoundary h
  | soLoss n l =>
    exact answers_of_keeps h (.ite (fun _ => keeps_newBoundary (keeps_setClock clockInv_loseSo (keeps_finishPass (.refl s)))) fun _ => .refl s)
  | soReturn a b c d l =>
    exact answers_of_keeps h (.ite (fun _ => keeps_setClock clockInv_gainSo (keeps_newBoundary (keeps_finishPass (.refl s)))) fun _ => .refl s)
  | loopWindowEnd n => exact answers_of_keeps h (.ite (fun hd => keeps_endWindow hd (.refl s)) fun _ => .refl s)
  | scanPass slots => exact answers_of_keeps h (.ite (fun _ => keeps_takeRails (keeps_beginPass (.refl s))) fun _ => .refl s)
  | settleTimerExpiry slot => exact answers_of_keeps h (.ite (fun hd => keeps_settled hd (.refl s)) fun _ => .refl s)
  | drainTimerExpiry slot => exact answers_of_keeps h (.ite (fun hd => keeps_drained hd (.refl s)) fun _ => .refl s)
  | detectorSample src o => exact answers_of_keeps h (.ite (fun _ => keeps_detectorSample (.refl s)) fun _ => .refl s)
  | overrideTimerExpiry => exact answers_of_keeps h (.ite (fun _ => keeps_overrideExpires (.refl s)) fun _ => .refl s)
  | pfailSample => exact answers_of_keeps h (.ite (fun _ => keeps_pfailSample (.refl s)) fun _ => .refl s)
  | stepTimerExpiry => exact answers_of_keeps h (.ite (fun _ => keeps_stepExpires (.refl s)) fun _ => .refl s)
  | waitGoodCompletes => exact answers_of_keeps h (.ite (fun _ => keeps_awaitRail (.refl s)) fun _ => .refl s)
  | waitOffCompletes => exact answers_of_keeps h (.ite (fun _ => keeps_awaitRail (.refl s)) fun _ => .refl s)
  | waitLineCompletes => exact answers_of_keeps h (.ite (fun _ => keeps_awaitLine (.refl s)) fun _ => .refl s)
  | clockUpCompletes n => exact answers_of_keeps h (.ite (fun _ => keeps_awaitLock (.refl s)) fun _ => .refl s)
  | releaseCompletes => exact answers_of_keeps h (.ite (fun _ => keeps_awaitDrain (.refl s)) fun _ => .refl s)
  | endCompletes => exact answers_of_keeps h (.ite (fun _ => keeps_awaitDrain (.refl s)) fun _ => .refl s)
  | frameReceptionBegins p b => exact answers_receptionBegins h
  | frameArrival p bs b => exact answers_frameArrival h
  | sendCompletion p => exact answers_sendCompletion h
  | wireFrameTaken => exact answers_wireFrame h
  | dataFrameTaken => exact answers_dataFrame h
  | misroutedFrameDrop =>
    exact answers_whilePowered h (preserves_takeNext fun _ _ _ _ => (keeps_countPort (.refl _)).preserves)
  | boardWakeFrame =>
    exact answers_whilePowered h (preserves_takeNext fun _ _ _ _ => (keeps_boardWake (.refl _)).preserves)
  | drainFrameTakesSlot => exact answers_of_keeps h (keeps_drainTakes (.refl s))
  | sendWireFrameTakesSlot => exact answers_sendWireFrame h
  | internalFrameTakesSlot p =>
    exact answers_of_keeps h (.ite (fun hc => keeps_takeOldest (Bool.and_eq_true_iff.1 hc).1 (.refl s)) fun _ => .refl s)
  | mgmtResponseTakesSlot => exact answers_mgmtResponse h
  | lrstAsserted b => exact answers_lrstAsserted h
  | lrstReleased b => exact answers_lrstReleased h
  | unknownOp => exact answers_unknownOp h
  | readStatus => exact answers_readStatus h
  | readTable => exact answers_readTable h
  | writeTableRail => exact answers_serve h (fun s _ => keeps_writeAct (.refl s))
  | writeTableStep => exact answers_serve h (fun s _ => keeps_writeAct (.refl s))
  | writeTableTransition => exact answers_serve h (fun s _ => keeps_writeAct (.refl s))
  | writeTableWiremap => exact answers_serve h (fun s _ => keeps_writeAct (.refl s))
  | writeTableWakesrc => exact answers_serve h (fun s _ => keeps_writeAct (.refl s))
  | writeTablePolicy => exact answers_serve h (fun s _ => keeps_writeAct (.refl s))
  | halt => exact answers_serve h (fun s _ => keeps_controlAct (keeps_haltAct (.refl s)) (.refl s))
  | continueRun => exact answers_serve h (fun s _ => keeps_controlAct (keeps_continueAct (.refl s)) (.refl s))
  | stepModeOn => exact answers_serve h (fun s _ => keeps_controlAct (keeps_setEng (.inl ⟨rfl, rfl⟩) (.refl s)) (.refl s))
  | stepModeOff => exact answers_serve h (fun s _ => keeps_controlAct (keeps_setEng (.inl ⟨rfl, rfl⟩) (.refl s)) (.refl s))
  | clearFault => exact answers_serve h (fun s _ => keeps_controlAct (keeps_clearFaultAct (.refl s)) (.refl s))
  | clearWakes =>
    exact answers_serve h (fun s _ => keeps_controlAct (keeps_setWake wakeInv_emptied (.refl s)) (.refl s))
  | clearFlags => exact answers_serve h (fun s _ => keeps_controlAct (keeps_clearFlagsAct (.refl s)) (.refl s))
  | clearCounters => exact answers_serve h (fun s _ => keeps_controlAct (keeps_clearCountersAct (.refl s)) (.refl s))
  | standbyPowerFall => exact answers_powerFall h

/-! ## The invariants that every step keeps -/

/-- A step is the front command, or nothing. -/
theorem step_cases (h : step s = .next t) :
    (s.pending = [] ∧ t = s) ∨
      ∃ c rest, s.pending = c :: rest ∧ exec c (s.setPending rest) = .next t := by
  unfold step at h
  split at h
  next hp => exact .inl ⟨hp, (Host.Outcome.next.inj h).symm⟩
  next c rest hp => exact .inr ⟨c, rest, hp, h⟩

/-- What holds of the state after a standby power-on reset and is kept by every other command is kept by every step:
the waiting commands are of no concern to it. -/
theorem step_keeps {P : State → Prop} (hpending : ∀ s x, P s → P (s.setPending x))
    (hreset : ∀ s : State, P (((State.reset.setPending s.pending).setLrst s.lrst).setUses s.uses))
    (hexec : ∀ s t, Answers s t → P s → P t) (hs : P s) (h : step s = .next t) : P t := by
  obtain ⟨-, rfl⟩ | ⟨c, rest, -, hc⟩ := step_cases h
  · exact hs
  · by_cases hr : c = .standbyPowerOnReset
    · subst hr
      obtain rfl := Host.Outcome.next.inj hc
      exact hreset _
    · exact hexec _ _ (exec_answers hr hc) (hpending s rest hs)

/-- Settles O55: the command leaves its chain a bounded number of links (`links`), fewer than the chain is unfolded for. -/
theorem engineComesToRest : Obligations.EngineComesToRest := fun _ _ hs h =>
  step_keeps (P := fun s => s.eng.due = .nothing) (fun _ _ => id) (fun _ => rfl) (fun _ _ ha => ha.rest) hs h

/-- Settles O56: each operation on the Clock Unit keeps its relations (`KeepsBlocks.clock`). -/
theorem clockInvariant : Obligations.ClockInvariant := fun _ _ hs h =>
  step_keeps (P := fun s => ClockInv s.clock) (fun _ _ => id) (fun _ => by simp [ClockInv, State.reset]) (fun _ _ ha => ha.clock)
    hs h

theorem faultRecordInvariant : Claims.FaultRecordInvariant := fun _ _ hs h =>
  step_keeps (P := fun s => FaultInv s.fault) (fun _ _ => id) (fun _ => by simp [State.reset]) (fun _ _ ha => ha.fault)
    hs h

theorem wakeQueueInvariant : Claims.WakeQueueInvariant := fun _ _ hs h =>
  step_keeps (P := fun s => WakeInv s.wake) (fun _ _ => id) (fun _ => by simp [WakeInv, State.reset]) (fun _ _ ha => ha.wake)
    hs h

/-- Settles O57: a trigger counts a further fault only beside a first one, and a fire joins the queue only where its
source does not stand in it (`KeepsBlocks.fault`, `KeepsBlocks.wake`). -/
theorem recordInvariants : Obligations.RecordInvariants := ⟨faultRecordInvariant, wakeQueueInvariant⟩

/-- Settles O58: a frame takes a slot only where one is free, the slot kept for a forwarded frame counted as taken
(`QueueMid`). -/
theorem queueInvariant : Obligations.QueueInvariant := fun _ _ hs h =>
  step_keeps (P := QueueInv) (fun _ _ => id)
    (fun _ => by simp [QueueInv, LinkInv, State.reset, idleLink, rxInUse, noticesWaiting])
    (fun _ _ ha => ha.queueInv) hs h

end Sys2Proof.Machine

/-! PROOFS. The relations between the PSC state, its fields and the two channels, within an event: what is due in the engine
fits what the state says of the channels. -/

namespace Sys2Proof.Machine

variable {r s t u : State}

/-! ## The relations within an event -/

/-- The end of a Normal step as it is handed over: no drain wait ends, and an END succeeds with an empty Hold Queue
(R28). -/
def StepEnd (s : State) : RunEnd → Prop
  | .ok => s.eng.cur.kind = .endList → s.wire.queue = []
  | .failed _ => True
  | .runawayDrained => False
  | .builtinDrained => False

/-- The end of a run or of a drain wait of the Urgent channel as it is handed over (R25, R28, R86). -/
def UrgentStepEnd (s : State) : RunEnd → Prop
  | .ok => s.eng.cur.kind = .endList → s.wire.queue = []
  | .failed _ => True
  | .runawayDrained => s.wire.queue = []
  | .builtinDrained => s.wire.queue = []

/-- Nothing is awaited, and a run is due or the end of one that meets `p`. -/
def Going (s : State) (p : RunEnd → Prop) : Prop :=
  s.eng.wait = .none ∧ ((∃ b, s.eng.due = .beginRun b) ∨ ∃ e, s.eng.due = .runEnded e ∧ p e)

/-- The Normal channel RUNNING, but for what it waits for (R1). -/
def NormalCore (s : State) : Prop :=
  s.eng.norm.st = .running ∧ s.eng.urg.running = false ∧ s.psc.gateClosed = false ∧ s.eng.inflight.isOpen = true

/-- The Urgent channel RUNNING, but for what it waits for (R1, R19). -/
def UrgentCore (s : State) : Prop :=
  s.eng.norm.st = .idle ∧ s.eng.urg.running = true ∧ s.eng.urg.kind.isSome = true ∧ s.psc.gateClosed = true ∧
    s.psc.target = .softOff ∧ s.psc.commit = false ∧ s.wire.hold = false ∧ s.eng.inflight.isOpen = true

/-- The Normal channel within an event: its step waits, or something is due. -/
def NormalMid (s : State) : Prop :=
  NormalCore s ∧ ((s.eng.wait = .step ∧ s.eng.due = .nothing) ∨ Going s (StepEnd s))

/-- The Urgent channel within an event. -/
def UrgentMid (s : State) : Prop :=
  UrgentCore s ∧ ((s.eng.wait ≠ .none ∧ s.eng.due = .nothing) ∨ Going s (UrgentStepEnd s))

/-- A level state (R2, R7). -/
def LevelMid (x : Level) (s : State) : Prop :=
  Settled s ∧ s.eng.due = .nothing ∧ s.psc.current = x ∧ s.psc.target = x ∧ (x ≠ .softOff → s.psc.gateClosed = false)

/-- HALTED (R17). -/
def HaltedMid (s : State) : Prop :=
  s.eng.norm.st = .halted ∧ s.eng.urg.running = false ∧ s.eng.wait = .none ∧ s.eng.due = .nothing ∧
    s.psc.gateClosed = false ∧ s.psc.haltedFrom.isSome = true ∧ s.eng.inflight.isOpen = true ∧
    (s.psc.haltedFrom = some .backout → s.psc.commit = false)

/-- What each PSC state but LOADING says within an event (R1, R2, R42). -/
def midRelation (s : State) : Prop :=
  match s.psc.state with
  | .loading => False
  | .working => LevelMid .working s
  | .suspend => LevelMid .suspend s
  | .hibernate => LevelMid .hibernate s
  | .softOff => LevelMid .softOff s
  | .transit => NormalMid s
  | .backout => NormalMid s ∧ s.psc.commit = false
  | .urgent => UrgentMid s
  | .halted => HaltedMid s

/-- An END that waits, or has just succeeded, has lifted hold (R28). -/
def EndLifted (s : State) : Prop :=
  s.eng.cur.kind = .endList → s.eng.wait = .step ∨ s.eng.due = .runEnded .ok → s.wire.hold = false

/-- The PSC and the channels within an event after the image load. -/
structure Mid (s : State) : Prop where
  relation : midRelation s
  loaded : s.loader.phase = .done
  haltedFrom : s.psc.state ≠ .halted → s.psc.haltedFrom = none
  endLifted : EndLifted s

/-! ## Reading the relation by state -/

theorem midRelation_level {x : Level} (h : s.psc.state = levelState x) : midRelation s ↔ LevelMid x s := by
  cases x <;> simp [midRelation, h, levelState]

theorem midRelation_transit (h : s.psc.state = .transit) : midRelation s ↔ NormalMid s := by simp [midRelation, h]
theorem midRelation_backout (h : s.psc.state = .backout) : midRelation s ↔ NormalMid s ∧ s.psc.commit = false := by
  simp [midRelation, h]
theorem midRelation_urgent (h : s.psc.state = .urgent) : midRelation s ↔ UrgentMid s := by simp [midRelation, h]
theorem midRelation_halted (h : s.psc.state = .halted) : midRelation s ↔ HaltedMid s := by simp [midRelation, h]

theorem midRelation.ofLevel {x : Level} (h : s.psc.state = levelState x) (hs : LevelMid x s) : midRelation s :=
  (midRelation_level h).2 hs
theorem midRelation.ofTransit (h : s.psc.state = .transit) (hs : NormalMid s) : midRelation s :=
  (midRelation_transit h).2 hs
theorem midRelation.ofBackout (h : s.psc.state = .backout) (hs : NormalMid s ∧ s.psc.commit = false) :
    midRelation s := (midRelation_backout h).2 hs
theorem midRelation.ofUrgent (h : s.psc.state = .urgent) (hs : UrgentMid s) : midRelation s :=
  (midRelation_urgent h).2 hs
theorem midRelation.ofHalted (h : s.psc.state = .halted) (hs : HaltedMid s) : midRelation s :=
  (midRelation_halted h).2 hs

/-- The states outside the image load: a level state, or one of the four others. -/
theorem midRelation_cases (h : midRelation s) :
    (∃ x, s.psc.state = levelState x ∧ LevelMid x s) ∨ (s.psc.state = .transit ∧ NormalMid s) ∨
      (s.psc.state = .backout ∧ NormalMid s ∧ s.psc.commit = false) ∨ (s.psc.state = .urgent ∧ UrgentMid s) ∨
      (s.psc.state = .halted ∧ HaltedMid s) := by
  have level (x : Level) (hx : s.psc.state = levelState x) :
      (∃ x, s.psc.state = levelState x ∧ LevelMid x s) ∨ (s.psc.state = .transit ∧ NormalMid s) ∨
      (s.psc.state = .backout ∧ NormalMid s ∧ s.psc.commit = false) ∨ (s.psc.state = .urgent ∧ UrgentMid s) ∨
      (s.psc.state = .halted ∧ HaltedMid s) := .inl ⟨x, hx, (midRelation_level hx).1 h⟩
  cases hs : s.psc.state with
  | loading => simp [midRelation, hs] at h
  | working => simpa [hs] using level .working hs
  | suspend => simpa [hs] using level .suspend hs
  | hibernate => simpa [hs] using level .hibernate hs
  | softOff => simpa [hs] using level .softOff hs
  | transit => exact .inr (.inl ⟨rfl, (midRelation_transit hs).1 h⟩)
  | backout => exact .inr (.inr (.inl ⟨rfl, (midRelation_backout hs).1 h⟩))
  | urgent => exact .inr (.inr (.inr (.inl ⟨rfl, (midRelation_urgent hs).1 h⟩)))
  | halted => exact .inr (.inr (.inr (.inr ⟨rfl, (midRelation_halted hs).1 h⟩)))

/-! ## Operations below the engine -/

/-- Hold that is lifted stays lifted below the engine. -/
theorem Ends.hold_false (h : Ends s t) (hs : s.wire.hold = false) : t.wire.hold = false := by
  by_contra hne
  exact absurd (h.hold (by simpa using hne)) (by simp [hs])

theorem NormalCore.of_ends (h : Ends s t) (hs : NormalCore s) : NormalCore t := by
  simpa only [NormalCore, h.norm, h.urg, h.psc, h.isOpen] using hs

theorem UrgentCore.of_ends (h : Ends s t) (hs : UrgentCore s) : UrgentCore t := by
  obtain ⟨hn, hr, hk, hg, ht, hc, hh, ho⟩ := hs
  exact ⟨by rwa [h.norm], by rwa [h.urg], by rwa [h.urg], by rwa [h.psc], by rwa [h.psc], by rwa [h.psc],
    h.hold_false hh, h.isOpen.trans ho⟩

theorem Going.of_ends {p q : RunEnd → Prop} (h : Ends s t) (hpq : ∀ e, p e → q e) (hs : Going s p) : Going t q := by
  obtain ⟨hw, hd⟩ := hs
  obtain ⟨hw', hd'⟩ := h.of_wait_none hw
  refine ⟨hw', ?_⟩
  rw [hd']
  obtain hb | ⟨e, he, hpe⟩ := hd
  · exact .inl hb
  · exact .inr ⟨e, he, hpq e hpe⟩

theorem StepEnd.of_ends (h : Ends s t) {e : RunEnd} (hs : StepEnd s e) : StepEnd t e := by
  cases e <;> simp only [StepEnd, h.cur] at hs ⊢
  exact fun hk => h.queue (hs hk)

theorem UrgentStepEnd.of_ends (h : Ends s t) {e : RunEnd} (hs : UrgentStepEnd s e) : UrgentStepEnd t e := by
  cases e <;> simp only [UrgentStepEnd, h.cur] at hs ⊢
  · exact fun hk => h.queue (hs hk)
  · exact h.queue hs
  · exact h.queue hs

/-- The end of a wait of a step is that of a step. -/
theorem Ending.stepEnd (hw : s.eng.wait = .step) (h : Ends s t) {e : RunEnd} (he : Ending s t e) : StepEnd t e := by
  cases e with
  | ok => exact fun hk => he.2.2 (by rwa [← h.cur])
  | failed k => trivial
  | runawayDrained => exact absurd (hw.symm.trans he.1) (by simp)
  | builtinDrained => exact absurd (hw.symm.trans he.1) (by simp)

theorem Ending.urgentStepEnd (h : Ends s t) {e : RunEnd} (he : Ending s t e) : UrgentStepEnd t e := by
  cases e with
  | ok => exact fun hk => he.2.2 (by rwa [← h.cur])
  | failed k => trivial
  | runawayDrained => exact he.2
  | builtinDrained => exact he.2

theorem NormalMid.of_ends (h : Ends s t) (hs : NormalMid s) : NormalMid t := by
  obtain ⟨hc, ⟨hw, hd⟩ | hg⟩ := hs
  · refine ⟨hc.of_ends h, ?_⟩
    obtain ⟨hw', hd'⟩ | ⟨e, he, hw', hd'⟩ := h.ended
    · exact .inl ⟨hw'.trans hw, hd'.trans hd⟩
    · exact .inr ⟨hw', .inr ⟨e, hd', he.stepEnd hw h⟩⟩
  · exact ⟨hc.of_ends h, .inr (hg.of_ends h fun _ => .of_ends h)⟩

theorem UrgentMid.of_ends (h : Ends s t) (hs : UrgentMid s) : UrgentMid t := by
  obtain ⟨hc, ⟨hw, hd⟩ | hg⟩ := hs
  · refine ⟨hc.of_ends h, ?_⟩
    obtain ⟨hw', hd'⟩ | ⟨e, he, hw', hd'⟩ := h.ended
    · exact .inl ⟨by rwa [hw'], hd'.trans hd⟩
    · exact .inr ⟨hw', .inr ⟨e, hd', he.urgentStepEnd h⟩⟩
  · exact ⟨hc.of_ends h, .inr (hg.of_ends h fun _ => .of_ends h)⟩

theorem Settled.of_ends (h : Ends s t) (hs : Settled s) : Settled t := by
  obtain ⟨hn, hu, hw, hh, hq, hc, hslot⟩ := hs
  exact ⟨by rwa [h.norm], by rwa [h.urg], (h.of_wait_none hw).1, h.hold_false hh, h.queue hq, by rwa [h.psc],
    by rwa [h.psc]⟩

theorem midRelation.of_ends (h : Ends s t) (hs : midRelation s) : midRelation t := by
  have hpsc := h.psc
  obtain ⟨x, hx, hl⟩ | ⟨hx, hn⟩ | ⟨hx, hn, hc⟩ | ⟨hx, hu⟩ | ⟨hx, hh⟩ := midRelation_cases hs
  · obtain ⟨hset, hd, hrest⟩ := hl
    exact midRelation.ofLevel (by rw [hpsc, hx])
      ⟨hset.of_ends h, (h.of_wait_none hset.2.2.1).2.trans hd, by rwa [hpsc]⟩
  · exact midRelation.ofTransit (by rw [hpsc, hx]) (hn.of_ends h)
  · exact midRelation.ofBackout (by rw [hpsc, hx]) ⟨hn.of_ends h, by rwa [hpsc]⟩
  · exact midRelation.ofUrgent (by rw [hpsc, hx]) (hu.of_ends h)
  · obtain ⟨hst, hr, hw, hd, hg, hf, ho, hb⟩ := hh
    obtain ⟨hw', hd'⟩ := h.of_wait_none hw
    refine midRelation.ofHalted (by rw [hpsc, hx])
      ⟨by rwa [h.norm], by rwa [h.urg], hw', hd'.trans hd, by rwa [hpsc], by rwa [hpsc], h.isOpen.trans ho, by rwa [hpsc]⟩

theorem EndLifted.of_ends (h : Ends s t) (hs : EndLifted s) : EndLifted t := by
  intro hk ht
  rw [h.cur] at hk
  refine h.hold_false (hs hk ?_)
  obtain ⟨hw, hd⟩ | ⟨e, he, hw, hd⟩ := h.ended
  · rwa [hw, hd] at ht
  · obtain ht | ht := ht
    · exact absurd (hw.symm.trans ht) (by simp)
    · obtain rfl : e = .ok := by simpa using hd.symm.trans ht
      exact .inl he.1

/-- Whatever an operation below the engine does keeps the relations within the event. -/
theorem Mid.of_ends (h : Ends s t) (hs : Mid s) : Mid t where
  relation := hs.relation.of_ends h
  loaded := by rw [h.loader, hs.loaded]
  haltedFrom := by
    rw [h.psc]
    exact hs.haltedFrom
  endLifted := hs.endLifted.of_ends h

/-! ## Urgent starts -/

/-- The engine as the built-in shutdown begins (R86). -/
def ShutdownBegins (k : UrgKind) (s : State) (e : Engine) : Prop :=
  e.wait = .none ∧ e.due = .nothing ∧ e.norm = s.eng.norm ∧ e.urg.running = true ∧ e.urg.kind = some k ∧
    e.inflight = s.eng.inflight

/-- An urgent start begins its list, or takes the rails down and is over or waits for the drain (R85, R86). -/
theorem startUrgentList_cases (k : UrgKind) (s : State) :
    (∃ i, startUrgentList k s = s.setEng { s.eng with
        urg := { s.eng.urg with running := true, kind := some k, idx := i }, wait := .none, due := .beginRun false }) ∨
      ∃ e u, (u.wire.queue = [] ∧ startUrgentList k s = endRunWith .builtinDrained u ∨
          startUrgentList k s = u.setEng { u.eng with wait := .builtin }) ∧
        Ends (s.setEng e) u ∧ ShutdownBegins k s e := by
  unfold startUrgentList
  dsimp only
  split
  · exact .inl ⟨_, rfl⟩
  · split
    next hq => exact .inr ⟨_, _, .inl ⟨hq, rfl⟩, ends_shutdownRails (.refl _), rfl, rfl, rfl, rfl, rfl, rfl⟩
    · exact .inr ⟨_, _, .inr rfl, ends_shutdownRails (.refl _), rfl, rfl, rfl, rfl, rfl, rfl⟩

/-- What an urgent list that has been started waits for, or has due (R85, R86). -/
theorem startUrgentList_course (k : UrgKind) (s : State) :
    ((startUrgentList k s).eng.wait ≠ .none ∧ (startUrgentList k s).eng.due = .nothing) ∨
      Going (startUrgentList k s) (UrgentStepEnd (startUrgentList k s)) := by
  obtain ⟨i, h⟩ | ⟨e, u, ⟨hq, h⟩ | h, hu, hw, hd, -⟩ := startUrgentList_cases k s <;> rw [h]
  · exact .inr ⟨rfl, .inl ⟨false, rfl⟩⟩
  · exact .inr ⟨rfl, .inr ⟨.builtinDrained, rfl, hq⟩⟩
  · exact .inl ⟨by simp, (hu.of_wait_none hw).2.trans hd⟩

/-- The Urgent channel as its list starts, whatever it was before (R83). -/
theorem startUrgentList_eng (k : UrgKind) (s : State) :
    (startUrgentList k s).eng.norm = s.eng.norm ∧ (startUrgentList k s).eng.urg.running = true ∧
      (startUrgentList k s).eng.urg.kind = some k ∧
      (startUrgentList k s).eng.inflight.isOpen = s.eng.inflight.isOpen := by
  obtain ⟨i, h⟩ | ⟨e, u, hcase, hu, -, -, hnorm, hrun, hkind, hopen⟩ := startUrgentList_cases k s
  · rw [h]
    exact ⟨rfl, rfl, rfl, rfl⟩
  · have hu' : u.eng.norm = s.eng.norm ∧ u.eng.urg.running = true ∧ u.eng.urg.kind = some k ∧
        u.eng.inflight.isOpen = s.eng.inflight.isOpen := by
      simp [hu.norm, hu.urg, hu.isOpen, hnorm, hrun, hkind, hopen]
    obtain ⟨-, h⟩ | h := hcase <;> rw [h] <;> exact hu'

theorem pumpN_hold (n : Nat) (s : State) (h : s.wire.hold = false) : (pumpN n s).wire.hold = false :=
  (ends_pumpN (.refl s)).hold_false h

theorem liftHold_hold (s : State) : (liftHold s).wire.hold = false := by
  unfold liftHold
  split
  · exact pumpN_hold _ _ (by simp)
  next h => simpa using h

/-- The relations right after an urgent list has been started in the state that an urgent start makes (R19, R83). -/
theorem mid_startUrgentList {k : UrgKind} (hl : s.loader.phase = .done) (hstate : s.psc.state = .urgent)
    (hidle : s.eng.norm.st = .idle) (hgate : s.psc.gateClosed = true) (htarget : s.psc.target = .softOff)
    (hcommit : s.psc.commit = false) (hfrom : s.psc.haltedFrom = none) (hhold : s.wire.hold = false)
    (hopen : s.eng.inflight.isOpen = true) : Mid (startUrgentList k s) := by
  obtain ⟨hnorm, hrun, hkind, hopen'⟩ := startUrgentList_eng k s
  refine ⟨?_, by simpa using hl, fun _ => by simpa using hfrom, fun _ _ => by simpa using hhold⟩
  refine midRelation.ofUrgent (by simpa using hstate) ⟨⟨?_, hrun, by simp [hkind], ?_⟩, startUrgentList_course k s⟩
  · rw [hnorm, hidle]
  · simpa [hopen'] using ⟨hgate, htarget, hcommit, hhold, hopen⟩

theorem stopNorm_idle (s : State) : (stopNorm s).eng.norm.st = .idle := by
  unfold stopNorm
  dsimp only
  split
  · simpa
  · rfl

/-- An urgent start makes its own relations, whatever the state before (R19, R83). -/
theorem mid_urgentStart {k : UrgKind} (hl : s.loader.phase = .done) : Mid (urgentStart k s) := by
  have henter : (enterUrgent (stopNorm s)).psc = { (stopNorm s).psc with
      state := .urgent, target := .softOff, commit := false, haltedFrom := none, gateClosed := true } := by
    unfold enterUrgent
    dsimp only
    split <;> simp
  have hnorm : (enterUrgent (stopNorm s)).eng.norm = (stopNorm s).eng.norm := by
    unfold enterUrgent
    dsimp only
    split
    · rfl
    · exact (ends_sendOffNotice (.refl _)).norm
  have hlift := (ends_liftHold (.refl (enterUrgent (stopNorm s)))).norm
  unfold urgentStart
  apply mid_startUrgentList
  · simpa [openReport] using hl
  · simp [openReport, henter]
  · simp [openReport, hlift, hnorm, stopNorm_idle]
  · simp [openReport, henter]
  · simp [openReport, henter]
  · simp [openReport, henter]
  · simp [openReport, henter]
  · simp [openReport, liftHold_hold]
  · simp [openReport]

/-- The Urgent channel runs in URGENT alone (R1). -/
theorem Mid.urgent (h : Mid s) (hr : s.eng.urg.running = true) : s.psc.state = .urgent ∧ UrgentMid s := by
  obtain ⟨x, -, hset, -⟩ | ⟨-, hn, -⟩ | ⟨-, ⟨hn, -⟩, -⟩ | hu | ⟨-, hh⟩ := midRelation_cases h.relation
  · exact absurd (hr.symm.trans hset.2.1) (by simp)
  · exact absurd (hr.symm.trans hn.2.1) (by simp)
  · exact absurd (hr.symm.trans hn.2.1) (by simp)
  · exact hu
  · exact absurd (hr.symm.trans hh.2.1) (by simp)

theorem cutStep_eng (s : State) : (cutStep s).eng = { s.eng with wait := .none, due := .nothing } := by
  unfold cutStep
  dsimp only
  split
  · split <;> simp
  · rfl

theorem mid_preempt {k : UrgKind} (h : Mid s) (hr : s.eng.urg.running = true) : Mid (preempt k s) := by
  obtain ⟨hstate, ⟨hidle, -, -, hgate, htarget, hcommit, hhold, -⟩, -⟩ := h.urgent hr
  have hloaded := h.loaded
  have hfrom := h.haltedFrom (by simp [hstate])
  unfold preempt
  apply mid_startUrgentList
  all_goals simp_all [openReport, closeReport, cutStep_eng]

/-! ## Updates of the PSC that the relations do not speak of -/

/-- A change of the PSC's tables, marks, latch and flags. -/
theorem Mid.setPsc_same {x : Psc} (h : Mid s) (hstate : x.state = s.psc.state) (hcur : x.current = s.psc.current)
    (htarget : x.target = s.psc.target) (hcommit : x.commit = s.psc.commit) (hslot : x.slot = s.psc.slot)
    (hgate : x.gateClosed = s.psc.gateClosed) (hfrom : x.haltedFrom = s.psc.haltedFrom) : Mid (s.setPsc x) := by
  have hrel := h.relation
  refine ⟨?_, h.loaded, by simpa [hstate, hfrom] using h.haltedFrom, h.endLifted⟩
  simpa [midRelation, LevelMid, Settled, NormalMid, NormalCore, UrgentMid, UrgentCore, HaltedMid, Going, StepEnd,
    UrgentStepEnd, hstate, hcur, htarget, hcommit, hslot, hgate, hfrom] using hrel

/-- Outside the level states the slot may take any value (R10, R12, R17). -/
theorem Mid.setSlot {x : Option Level} (h : Mid s) (hstate : ∀ l, s.psc.state ≠ levelState l) :
    Mid (s.setPsc { s.psc with slot := x }) := by
  refine ⟨?_, h.loaded, h.haltedFrom, h.endLifted⟩
  obtain ⟨l, hl, -⟩ | ⟨hx, hn⟩ | ⟨hx, hn⟩ | ⟨hx, hu⟩ | ⟨hx, hh⟩ := midRelation_cases h.relation
  · exact absurd hl (hstate l)
  · exact midRelation.ofTransit hx hn
  · exact midRelation.ofBackout hx hn
  · exact midRelation.ofUrgent hx hu
  · exact midRelation.ofHalted hx hh

/-- A level state of the relation, by its fields. -/
theorem Mid.level {x : Level} (h : Mid s) (hx : s.psc.state = levelState x) : LevelMid x s :=
  (midRelation_level hx).1 h.relation

theorem levelState_ne_halted (x : Level) : levelState x ≠ .halted := by cases x <;> simp [levelState]

/-! ## Requests -/

/-- The gate opens in a level state (R20). -/
theorem mid_openGate {x : Level} (h : Mid s) (hx : s.psc.state = levelState x) : Mid (openGate s) := by
  obtain ⟨hset, hd, hcur, htarget, -⟩ := h.level hx
  have hopen : Mid (s.setPsc { s.psc with gateClosed := false }) :=
    ⟨midRelation.ofLevel hx ⟨hset, hd, hcur, htarget, fun _ => rfl⟩, h.loaded, h.haltedFrom, h.endLifted⟩
  exact hopen.of_ends (ends_sendOffNotice (.refl _))

/-- A report may open and close in a level state (R8). -/
theorem mid_refuse {x : Level} {a b : Level} {o : ReportOutcome} (h : Mid s) (hx : s.psc.state = levelState x) :
    Mid (refuse a b o s) :=
  ⟨midRelation.ofLevel hx (h.level hx), h.loaded, h.haltedFrom, h.endLifted⟩

/-- A transition starts from a level state with the gate open (R9). -/
theorem mid_startTransition {x a b : Level} (h : Mid s) (hx : s.psc.state = levelState x)
    (hgate : s.psc.gateClosed = false) : Mid (startTransition a b s) := by
  obtain ⟨⟨-, hu, -⟩, -⟩ := h.level hx
  have hfrom := h.haltedFrom (by rw [hx]; exact levelState_ne_halted x)
  refine ⟨midRelation.ofTransit rfl ⟨⟨rfl, hu, hgate, rfl⟩, .inr ⟨rfl, .inl ⟨false, rfl⟩⟩⟩, h.loaded,
    fun _ => hfrom, fun _ hc => ?_⟩
  simp [startTransition, startNorm] at hc

theorem mid_requestInLevel {x q : Level} (h : Mid s) (hx : s.psc.state = levelState x) :
    Mid (requestInLevel x q s) := by
  obtain ⟨⟨hn, hu, hw, hh, hq, hc, hslot⟩, -⟩ := h.level hx
  unfold requestInLevel
  split
  · split
    · exact mid_openGate h hx
    · exact h.setPsc_same rfl rfl rfl rfl hslot.symm rfl rfl
  next hgate =>
    split
    · exact h
    · split
      · exact mid_refuse h hx
      · split
        · exact mid_startTransition h hx (by simpa using hgate)
        · exact (mid_refuse h hx).setPsc_same rfl rfl rfl rfl rfl rfl rfl

/-- Back-out begins while the Normal channel runs or resumes, the gate open and the transition not committed (R11). -/
theorem mid_backOut (hl : s.loader.phase = .done) (hu : s.eng.urg.running = false) (hgate : s.psc.gateClosed = false)
    (hopen : s.eng.inflight.isOpen = true) (hcommit : s.psc.commit = false) (hfrom : s.psc.haltedFrom = none) :
    Mid (backOut s) := by
  refine ⟨midRelation.ofBackout rfl ⟨⟨⟨rfl, ?_, ?_, ?_⟩, .inr ⟨rfl, .inl ⟨false, rfl⟩⟩⟩, ?_⟩, ?_, fun _ => ?_,
    fun _ hc => ?_⟩
  · simp [backOut, startNorm, cutStep_eng, hu]
  · simp [backOut, startNorm, hgate]
  · simp [backOut, startNorm, cutStep_eng, hopen]
  · simp [backOut, startNorm, hcommit]
  · simp [backOut, startNorm, hl]
  · simp [backOut, startNorm, hfrom]
  · simp [backOut, startNorm] at hc

/-- A request event in TRANSIT moves the slot alone, or begins back-out (R10). -/
theorem requestInTransit_cases (q : Level) (s : State) :
    (∃ x, requestInTransit q s = s.setPsc { s.psc with slot := x }) ∨
      (s.psc.commit = false ∧ requestInTransit q s = backOut s) := by
  unfold requestInTransit
  split
  · exact .inl ⟨_, rfl⟩
  · split
    next hc => exact .inr ⟨hc.2.1, rfl⟩
    · exact .inl ⟨_, rfl⟩

theorem ne_levelState {p : PscState} (h : stateLevel p = none) (l : Level) : p ≠ levelState l := by
  cases l <;> cases p <;> simp_all [levelState, stateLevel]

theorem mid_requestEvent {q : Level} (h : Mid s) : Mid (requestEvent q s) := by
  have hslot (hstate : stateLevel s.psc.state = none) : Mid (s.setPsc { s.psc with slot := some q }) :=
    h.setSlot (ne_levelState hstate)
  unfold requestEvent
  split
  · exact h
  next hs => exact mid_requestInLevel (x := .working) h hs
  next hs => exact mid_requestInLevel (x := .suspend) h hs
  next hs => exact mid_requestInLevel (x := .hibernate) h hs
  next hs => exact mid_requestInLevel (x := .softOff) h hs
  next hs =>
    obtain ⟨x, hx⟩ | ⟨hcommit, hx⟩ := requestInTransit_cases q s <;> rw [hx]
    · exact h.setSlot (ne_levelState (by simp [hs, stateLevel]))
    · obtain ⟨⟨-, hu, hgate, hopen⟩, -⟩ := (midRelation_transit hs).1 h.relation
      exact mid_backOut h.loaded hu hgate hopen hcommit (h.haltedFrom (by simp [hs]))
  next hs => exact hslot (by simp [hs, stateLevel])
  next hs => exact hslot (by simp [hs, stateLevel])
  next hs => exact hslot (by simp [hs, stateLevel])

theorem mid_requestIfChanged {q : Level} (h : Mid s) : Mid (requestIfChanged q s) := by
  unfold requestIfChanged
  split
  · exact h
  · exact mid_requestEvent h

theorem Mid.latch {b : Bool} (h : Mid s) : Mid (s.setPsc { s.psc with latch := b }) :=
  h.setPsc_same rfl rfl rfl rfl rfl rfl rfl

theorem mid_clearLatch (h : Mid s) : Mid (clearLatch s) := by
  unfold clearLatch
  split
  · dsimp only
    split
    · exact mid_requestEvent h.latch
    · exact h.latch
  · exact h

/-! ## Triggers -/

theorem mid_writeFault {c : FaultCause} {i : Fin 256} (h : Mid s) : Mid (writeFault c i s) :=
  h.of_ends ((Ends.refl s).of_frame (by simp))

theorem mid_triggerFault {c : FaultCause} {i : Fin 256} (h : Mid s) : Mid (triggerFault c i s) := by
  unfold triggerFault
  dsimp only
  split
  · exact mid_writeFault h
  · exact mid_urgentStart (by simpa using h.loaded)

theorem mid_triggerOverride (h : Mid s) : Mid (triggerOverride s) := by
  unfold triggerOverride
  split
  · exact mid_urgentStart h.loaded
  next hr =>
    split
    · exact mid_preempt h (by simpa using hr)
    · exact h

theorem mid_triggerPowerfail (h : Mid s) : Mid (triggerPowerfail s) := by
  unfold triggerPowerfail
  split
  · exact h.setPsc_same rfl rfl rfl rfl rfl rfl rfl
  · have hmark : Mid (s.setPsc { s.psc with restoreOn := restoreMark s.psc.state }) :=
      h.setPsc_same rfl rfl rfl rfl rfl rfl rfl
    dsimp only
    split
    next hr => exact mid_preempt hmark hr
    · exact mid_urgentStart hmark.loaded

theorem mid_railLost {slot : Fin 16} (h : Mid s) : Mid (railLost slot s) := by
  have hmove {y : RailStat} : Mid (moveVerdict slot .lost (setStat slot y s)) := h.of_ends (ends_moveVerdict (ends_setStat (.refl s)))
  unfold railLost
  dsimp only
  split
  · exact mid_triggerFault hmove
  · exact hmove

/-! ## Settling -/

/-- What holds as a list settles: both channels IDLE, nothing awaited or due, the drain over (R15, R28). -/
def Settling (s : State) : Prop :=
  s.eng.norm.st = .idle ∧ s.eng.urg.running = false ∧ s.eng.wait = .none ∧ s.eng.due = .nothing ∧
    s.wire.hold = false ∧ s.wire.queue = [] ∧ s.loader.phase = .done

theorem mid_settle {x : Level} {o : ReportOutcome} (hgate : x ≠ .softOff → s.psc.gateClosed = false)
    (h : Settling s) : Mid (settle x o s) := by
  obtain ⟨hn, hu, hw, hd, hh, hq, hl⟩ := h
  have harm := ends_setArmed (l := x) (.refl (s.setPsc
    { s.psc with current := x, target := x, commit := false, haltedFrom := none }))
  obtain ⟨hw', hd'⟩ := harm.of_wait_none hw
  have hn' := harm.norm
  have hu' := harm.urg
  have hp' := harm.psc
  have hh' := harm.hold_false hh
  have hq' := harm.queue hq
  unfold settle
  dsimp only
  generalize setArmed x _ = v at hw' hd' hn' hu' hp' hh' hq' harm ⊢
  have hwakes : (reportWakes x v).psc = v.psc ∧ (reportWakes x v).wire = v.wire ∧ (reportWakes x v).eng.wait = .none ∧
      (reportWakes x v).eng.due = .nothing ∧ (reportWakes x v).eng.norm = v.eng.norm ∧
      (reportWakes x v).eng.urg = v.eng.urg ∧ (reportWakes x v).loader = v.loader := by
    unfold reportWakes
    split <;> exact ⟨rfl, rfl, hw', hd'.trans hd, rfl, rfl, rfl⟩
  obtain ⟨hp'', hwire, hw'', hd'', hn'', hu'', hl''⟩ := hwakes
  have hset : Mid (((closeReport o (reportWakes x v)).setPsc
      { (closeReport o (reportWakes x v)).psc with state := levelState x }).setPsc
      { ((closeReport o (reportWakes x v)).setPsc
        { (closeReport o (reportWakes x v)).psc with state := levelState x }).psc with slot := none }) := by
    refine ⟨midRelation.ofLevel rfl ⟨⟨?_, ?_, hw'', ?_, ?_, ?_, rfl⟩, hd'', ?_, ?_, ?_⟩, ?_, fun _ => ?_, fun _ _ => ?_⟩
    all_goals simp [closeReport, *]
    · exact hgate
    · rw [harm.loader]
      exact hl
  unfold serveSlot
  dsimp only
  split
  · exact hset
  · split
    · exact mid_requestEvent hset
    · exact hset

theorem mid_restoreAction (h : Mid s) : Mid (restoreAction s) := by
  obtain ⟨u, rfl | rfl, hu⟩ := restoreAction_cases s <;> rw [hu]
  · exact h.setPsc_same rfl rfl rfl rfl rfl rfl rfl
  · exact (h.of_ends (ends_takeFire (.refl s))).setPsc_same rfl rfl rfl rfl rfl rfl rfl

/-- With the gate closed and nothing awaited or due, the PSC is in a level state (R19). -/
theorem Mid.level_of_gateClosed (h : Mid s) (hg : s.psc.gateClosed = true) (hw : s.eng.wait = .none)
    (hd : s.eng.due = .nothing) : ∃ x, s.psc.state = levelState x := by
  obtain ⟨x, hx, -⟩ | ⟨-, hn, -⟩ | ⟨-, ⟨hn, -⟩, -⟩ | ⟨-, -, hu⟩ | ⟨-, hh⟩ := midRelation_cases h.relation
  · exact ⟨x, hx⟩
  · exact absurd (hg.symm.trans hn.2.2.1) (by simp)
  · exact absurd (hg.symm.trans hn.2.2.1) (by simp)
  · obtain ⟨hne, -⟩ | ⟨-, ⟨b, hb⟩ | ⟨e, he, -⟩⟩ := hu
    · exact absurd hw hne
    · exact absurd (hd.symm.trans hb) (by simp)
    · exact absurd (hd.symm.trans he) (by simp)
  · exact absurd (hg.symm.trans hh.2.2.2.2.1) (by simp)

/-- The urgent end settles in SOFT_OFF, opens the gate where it may, and takes a pending restore action (R89). -/
theorem mid_urgentEnd {o : ReportOutcome} (hn : s.eng.norm.st = .idle) (hw : s.eng.wait = .none)
    (hd : s.eng.due = .nothing) (hh : s.wire.hold = false) (hq : s.wire.queue = []) (hl : s.loader.phase = .done) :
    Mid (urgentEnd o s) := by
  have hsettle := mid_settle (x := .softOff) (o := o)
    (s := s.setEng { s.eng with urg := { s.eng.urg with running := false, kind := none, idx := s.eng.urg.ran } })
    (by simp) ⟨hn, rfl, hw, hd, hh, hq, hl⟩
  have hlinks := settle_links (x := .softOff) (o := o)
    (s := s.setEng { s.eng with urg := { s.eng.urg with running := false, kind := none, idx := s.eng.urg.ran } })
    hw hd rfl
  unfold urgentEnd
  dsimp only
  generalize settle .softOff o _ = v at hsettle hlinks ⊢
  have hgate : Mid (if v.psc.gateClosed = true ∧ requested v = .softOff then openGate v else v) := by
    split
    next hg =>
      obtain ⟨hw', hd' | ⟨-, -, hopen, -⟩⟩ := hlinks
      · obtain ⟨x, hx⟩ := hsettle.level_of_gateClosed hg.1 hw' hd'
        exact mid_openGate hsettle hx
      · exact absurd (hg.1.symm.trans hopen) (by simp)
    · exact hsettle
  generalize (if v.psc.gateClosed = true ∧ requested v = .softOff then openGate v else v) = g at hgate ⊢
  split
  · exact mid_restoreAction hgate
  · exact hgate

theorem mid_settleNorm (hu : s.eng.urg.running = false) (hw : s.eng.wait = .none) (hd : s.eng.due = .nothing)
    (hgate : s.psc.gateClosed = false) (hh : s.wire.hold = false) (hq : s.wire.queue = [])
    (hl : s.loader.phase = .done) : Mid (settleNorm s) :=
  mid_settle (fun _ => hgate) ⟨rfl, hu, hw, hd, hh, hq, hl⟩

/-! ## A run begins -/

/-- The context of a run of the running channel leaves all but the engine as it is (R26). -/
theorem enterRun_frame (b : Bool) (s : State) :
    (enterRun b s).psc = s.psc ∧ (enterRun b s).loader = s.loader ∧ (enterRun b s).wire = s.wire ∧
      (enterRun b s).eng.norm.st = s.eng.norm.st ∧ (enterRun b s).eng.urg.running = s.eng.urg.running ∧
      (enterRun b s).eng.urg.kind = s.eng.urg.kind ∧
      (enterRun b s).eng.inflight.isOpen = s.eng.inflight.isOpen := by
  unfold enterRun
  dsimp only
  split <;> exact ⟨rfl, rfl, rfl, rfl, rfl, rfl, rfl⟩

/-- A run is due only in TRANSIT, BACKOUT and URGENT, with its channel RUNNING (R1). -/
theorem Mid.running (h : Mid s) (hd : s.eng.due ≠ .nothing) :
    (s.psc.state = .transit ∧ NormalCore s ∧ Going s (StepEnd s)) ∨
      (s.psc.state = .backout ∧ NormalCore s ∧ Going s (StepEnd s) ∧ s.psc.commit = false) ∨
      (s.psc.state = .urgent ∧ UrgentCore s ∧ Going s (UrgentStepEnd s)) := by
  obtain ⟨x, -, hl⟩ | ⟨hx, hn, hc⟩ | ⟨hx, ⟨hn, hc⟩, hb⟩ | ⟨hx, hn, hc⟩ | ⟨-, hh⟩ := midRelation_cases h.relation
  · exact absurd hl.2.1 hd
  · exact .inl ⟨hx, hn, hc.resolve_left fun h => hd h.2⟩
  · exact .inr (.inl ⟨hx, hn, hc.resolve_left fun h => hd h.2, hb⟩)
  · exact .inr (.inr ⟨hx, hn, hc.resolve_left fun h => hd h.2⟩)
  · exact absurd hh.2.2.2.1 hd

theorem Mid.wait_none (h : Mid s) (hd : s.eng.due ≠ .nothing) : s.eng.wait = .none := by
  obtain ⟨-, -, hg⟩ | ⟨-, -, hg, -⟩ | ⟨-, -, hg⟩ := h.running hd <;> exact hg.1

/-- A step of a running channel that waits keeps the relation whatever was due before it. -/
theorem midRelation_awaitStep (h : Mid s) (hd : s.eng.due ≠ .nothing) (b : Bool) :
    midRelation (awaitStep (enterRun b s)) := by
  obtain ⟨hpsc, -, hwire, hst, hrun, hkind, hopen⟩ := enterRun_frame b s
  have hdue := (enterRun_rest b s).2
  have core (hn : NormalCore s) : NormalMid (awaitStep (enterRun b s)) :=
    ⟨⟨hst.trans hn.1, hrun.trans hn.2.1, by simpa [awaitStep, hpsc] using hn.2.2.1, hopen.trans hn.2.2.2⟩,
      .inl ⟨rfl, hdue⟩⟩
  obtain ⟨hx, hn, -⟩ | ⟨hx, hn, -, hb⟩ | ⟨hx, hu, -⟩ := h.running hd
  · exact midRelation.ofTransit (by simp [awaitStep, hpsc, hx]) (core hn)
  · exact midRelation.ofBackout (by simp [awaitStep, hpsc, hx]) ⟨core hn, by simp [awaitStep, hpsc, hb]⟩
  · obtain ⟨hi, hr, hk, hg, ht, hc, hh, ho⟩ := hu
    exact midRelation.ofUrgent (by simp [awaitStep, hpsc, hx])
      ⟨⟨hst.trans hi, hrun.trans hr, by simp [awaitStep, hkind, hk], by simp [awaitStep, hpsc, hg],
        by simp [awaitStep, hpsc, ht], by simp [awaitStep, hpsc, hc], by simp [awaitStep, hwire, hh],
        hopen.trans ho⟩, .inl ⟨by simp [awaitStep], hdue⟩⟩

/-- An END that begins lifts hold (R28). -/
theorem beginEnd_hold (s : State) : (beginEnd s).wire.hold = false := by
  unfold beginEnd
  dsimp only
  split <;> exact liftHold_hold s

theorem mid_beginRun {b : Bool} (h : Mid s) (hd : s.eng.due ≠ .nothing) : Mid (beginRun b s) := by
  obtain ⟨hpsc, hload, -, hst, hrun, -, -⟩ := enterRun_frame b s
  have hruns : channelRuns (enterRun b s) = true := by
    obtain ⟨-, hn, -⟩ | ⟨-, hn, -⟩ | ⟨-, hu, -⟩ := h.running hd
    · simp [channelRuns, hst, hn.1]
    · simp [channelRuns, hst, hn.1]
    · simp [channelRuns, hrun, hu.2.1]
  have hends := ends_runKind (rec := (enterRun b s).eng.cur) (enterRun_rest b s).1 (enterRun_rest b s).2 hruns rfl
  refine ⟨(midRelation_awaitStep h hd b).of_ends hends, ?_, ?_, fun hk _ => ?_⟩
  · exact (congrArg _ hends.loader).trans ((congrArg _ hload).trans h.loaded)
  · have hp : (beginRun b s).psc = s.psc := hends.psc.trans hpsc
    rw [hp]
    exact h.haltedFrom
  · have hcur : (beginRun b s).eng.cur = (enterRun b s).eng.cur := hends.cur
    rw [hcur] at hk
    unfold beginRun runKind
    simpa only [hk] using beginEnd_hold _

/-! ## What follows the end of a run in the Normal channel -/

/-- A Normal step has ended and nothing follows yet. -/
structure NormalEnded (s : State) : Prop where
  loaded : s.loader.phase = .done
  core : NormalCore s
  wait : s.eng.wait = .none
  due : s.eng.due = .nothing
  haltedFrom : s.psc.haltedFrom = none
  state : s.psc.state = .transit ∨ s.psc.state = .backout ∧ s.psc.commit = false

theorem NormalEnded.setNorm {x : Norm} (h : NormalEnded s) (hx : x.st = .running) :
    NormalEnded (s.setEng { s.eng with norm := x }) :=
  ⟨h.loaded, ⟨hx, h.core.2⟩, h.wait, h.due, h.haltedFrom, h.state⟩

theorem NormalEnded.onReport {f : Report → Report} (hf : ∀ x, (f x).isOpen = x.isOpen) (h : NormalEnded s) :
    NormalEnded (onReport f s) :=
  ⟨h.loaded, ⟨h.core.1, h.core.2.1, h.core.2.2.1, (hf _).trans h.core.2.2.2⟩, h.wait, h.due, h.haltedFrom, h.state⟩

theorem NormalEnded.commit (h : NormalEnded s) :
    NormalEnded (if commitsHere s then commitNow s else s) := by
  split
  next hc =>
    have hs : s.psc.state = .transit := by
      unfold commitsHere at hc
      simp only [Bool.and_eq_true, decide_eq_true_eq] at hc
      exact hc.2
    exact ⟨h.loaded, h.core, h.wait, h.due, h.haltedFrom, .inl hs⟩
  · exact h

/-- What the Normal channel goes on to in TRANSIT and BACKOUT. -/
theorem NormalEnded.mid (h : NormalEnded s) (b : Bool) : Mid (s.setEng { s.eng with due := .beginRun b }) := by
  have hn : NormalMid (s.setEng { s.eng with due := .beginRun b }) := ⟨h.core, .inr ⟨h.wait, .inl ⟨b, rfl⟩⟩⟩
  refine ⟨?_, h.loaded, fun _ => h.haltedFrom, fun _ hw => ?_⟩
  · obtain hs | ⟨hs, hc⟩ := h.state
    · exact midRelation.ofTransit hs hn
    · exact midRelation.ofBackout hs ⟨hn, hc⟩
  · exact absurd hw (by simp [h.wait])

theorem mid_haltAt {b : Bool} (h : NormalEnded s) : Mid (haltAt b s) := by
  refine ⟨midRelation.ofHalted rfl ⟨rfl, h.core.2.1, h.wait, rfl, h.core.2.2.1, rfl, h.core.2.2.2, ?_⟩, h.loaded,
    fun hne => absurd rfl hne, fun _ hw => absurd hw (by simp [haltAt, h.wait])⟩
  intro hb
  obtain hs | ⟨-, hc⟩ := h.state
  · simp [haltAt, hs] at hb
  · exact hc

theorem mid_haltPoint {b : Bool} (h : NormalEnded s) : Mid (haltPoint b s) := by
  unfold haltPoint
  split
  · exact mid_haltAt h
  · exact h.mid b

/-- A FAULT trigger with the Urgent channel IDLE makes its own relations (R84). -/
theorem mid_triggerFault_of_idle {c : FaultCause} {i : Fin 256} (hu : s.eng.urg.running = false)
    (hl : s.loader.phase = .done) : Mid (triggerFault c i s) := by
  unfold triggerFault
  dsimp only
  rw [if_neg (by simp [hu])]
  exact mid_urgentStart (by simpa using hl)

theorem mid_faultEnd (h : NormalEnded s) : Mid (faultEnd s) := mid_triggerFault_of_idle h.core.2.1 h.loaded

theorem mid_runawayNorm (h : NormalEnded s) : Mid (runawayNorm s) := by
  unfold runawayNorm
  dsimp only
  split <;> exact mid_triggerFault_of_idle h.core.2.1 h.loaded

theorem mid_leadOn (h : NormalEnded s) : Mid (leadOn s) := by
  unfold leadOn
  split
  · exact mid_runawayNorm h
  · exact mid_haltPoint (h.commit.setNorm h.commit.core.1)

theorem mid_backOutOrFault (h : NormalEnded s) : Mid (backOutOrFault s) := by
  unfold backOutOrFault
  split
  next hc => exact mid_backOut h.loaded h.core.2.1 h.core.2.2.1 h.core.2.2.2 hc.2.1 h.haltedFrom
  · exact mid_faultEnd h

theorem mid_failNorm {k : FailKind} (h : NormalEnded s) : Mid (failNorm k s) := by
  have hrec : NormalEnded (onReport (recordFailure s.eng.norm.idx k) s) := h.onReport fun _ => rfl
  unfold failNorm
  dsimp only
  split
  · exact mid_leadOn (hrec.onReport fun _ => rfl)
  · unfold retryOrBackOut
    split
    · exact mid_haltPoint (hrec.setNorm hrec.core.1)
    · exact mid_backOutOrFault hrec
  · exact mid_backOutOrFault hrec
  · exact mid_faultEnd hrec

theorem mid_endNorm {e : RunEnd} (h : NormalEnded s) (he : StepEnd s e)
    (hh : e = .ok → s.eng.cur.kind = .endList → s.wire.hold = false) : Mid (endNorm e s) := by
  cases e with
  | ok =>
    unfold endNorm
    dsimp only
    split
    next hk => exact mid_settleNorm h.core.2.1 h.wait h.due h.core.2.2.1 (hh rfl hk) (he hk) h.loaded
    · exact mid_leadOn h
  | failed k => exact mid_failNorm h
  | runawayDrained => exact he.elim
  | builtinDrained => exact he.elim

/-! ## What follows the end of a run in the Urgent channel -/

/-- An Urgent step, or a drain wait of the Urgent channel, has ended and nothing follows yet. -/
structure UrgentEnded (s : State) : Prop where
  loaded : s.loader.phase = .done
  core : UrgentCore s
  wait : s.eng.wait = .none
  due : s.eng.due = .nothing
  haltedFrom : s.psc.haltedFrom = none
  state : s.psc.state = .urgent

theorem UrgentEnded.hold (h : UrgentEnded s) : s.wire.hold = false := h.core.2.2.2.2.2.2.1

theorem UrgentEnded.drained {o : ReportOutcome} (h : UrgentEnded s) (hq : s.wire.queue = []) :
    Mid (urgentEnd o s) := mid_urgentEnd h.core.1 h.wait h.due h.hold hq h.loaded

theorem mid_runawayUrg (h : UrgentEnded s) : Mid (runawayUrg s) := by
  have hlift : liftHold s = s := by
    unfold liftHold
    rw [if_neg (by simp [h.hold])]
  unfold runawayUrg
  rw [hlift]
  dsimp only
  split
  next hq => exact h.drained hq
  · exact ⟨midRelation.ofUrgent h.state ⟨h.core, .inl ⟨by simp, h.due⟩⟩, h.loaded, fun _ => h.haltedFrom,
      fun _ _ => h.hold⟩

theorem mid_leadOnUrg (h : UrgentEnded s) : Mid (leadOnUrg s) := by
  unfold leadOnUrg
  split
  · exact mid_runawayUrg h
  · exact ⟨midRelation.ofUrgent h.state ⟨h.core, .inr ⟨h.wait, .inl ⟨false, rfl⟩⟩⟩, h.loaded, fun _ => h.haltedFrom,
      fun _ _ => h.hold⟩

theorem mid_endUrg {e : RunEnd} (h : UrgentEnded s) (he : UrgentStepEnd s e) : Mid (endUrg e s) := by
  cases e with
  | ok =>
    unfold endUrg
    dsimp only
    split
    next hk => exact h.drained (he hk)
    · exact mid_leadOnUrg h
  | failed k => exact mid_leadOnUrg ⟨h.loaded, h.core, h.wait, h.due, h.haltedFrom, h.state⟩
  | runawayDrained => exact h.drained he
  | builtinDrained => exact h.drained he

/-! ## The chain of one event -/

theorem mid_endRun {e : RunEnd} (h : Mid s) (hd : s.eng.due = .runEnded e) : Mid (endRun e s) := by
  have hne : s.eng.due ≠ .nothing := by simp [hd]
  have hends {p : RunEnd → Prop} (hg : Going s p) : p e := by
    obtain ⟨-, ⟨b, hb⟩ | ⟨e', he, hp⟩⟩ := hg
    · exact absurd (hd.symm.trans hb) (by simp)
    · obtain rfl : e = e' := by simpa using hd.symm.trans he
      exact hp
  have normal (hn : NormalCore s) (hg : Going s (StepEnd s))
      (hs : s.psc.state = .transit ∨ s.psc.state = .backout ∧ s.psc.commit = false) : Mid (endRun e s) := by
    unfold endRun
    dsimp only
    rw [if_neg (by simp [hn.2.1])]
    refine mid_endNorm ⟨h.loaded, hn, hg.1, rfl, h.haltedFrom ?_, hs⟩ ?_ fun he hk => h.endLifted hk (.inr (by rw [hd, he]))
    · obtain hs | ⟨hs, -⟩ := hs <;> simp [hs]
    · have he := hends hg
      cases e <;> exact he
  obtain ⟨hs, hn, hg⟩ | ⟨hs, hn, hg, hc⟩ | ⟨hs, hu, hg⟩ := h.running hne
  · exact normal hn hg (.inl hs)
  · exact normal hn hg (.inr ⟨hs, hc⟩)
  · unfold endRun
    dsimp only
    rw [if_pos (by simp [hu.2.1])]
    refine mid_endUrg ⟨h.loaded, hu, hg.1, rfl, h.haltedFrom (by simp [hs]), hs⟩ ?_
    have he := hends hg
    cases e <;> exact he

theorem mid_chainStep (h : Mid s) : Mid (chainStep s) := by
  have hruns (hd : s.eng.due ≠ .nothing) : channelRuns s = true := by
    obtain ⟨-, hn, -⟩ | ⟨-, hn, -⟩ | ⟨-, hu, -⟩ := h.running hd
    · simp [channelRuns, hn.1]
    · simp [channelRuns, hn.1]
    · simp [channelRuns, hu.2.1]
  unfold chainStep
  split
  · exact h
  next hd =>
    rw [if_pos (hruns (by simp [hd]))]
    exact mid_beginRun h (by simp [hd])
  next hd =>
    rw [if_pos (hruns (by simp [hd]))]
    exact mid_endRun h hd

theorem mid_chainN (n : Nat) (h : Mid s) : Mid (chainN n s) := by
  induction n generalizing s with
  | zero => exact h
  | succ n ih =>
    unfold chainN
    split
    · exact h
    · exact ih (mid_chainStep h)

theorem mid_runChain (h : Mid s) : Mid (runChain s) := mid_chainN _ h

end Sys2Proof.Machine

/-! PROOFS. What every command keeps of the relations between the PSC state, its fields and the two channels, and of the
rails. -/

namespace Sys2Proof.Machine

variable {r s t u : State} {o : Option (Vector RailStat 16)}

/-! ## During the image load and after it -/

/-- LOADING, with the given status of the rails: nothing goes on (R2, R42). -/
structure LoadMid (x : Vector RailStat 16) (s : State) : Prop where
  state : s.psc.state = .loading
  phase : s.loader.phase ≠ .done
  haltedFrom : s.psc.haltedFrom = none
  settled : Settled s
  gate : s.psc.gateClosed = false
  due : s.eng.due = .nothing
  stat : s.rails.stat = x
  off : ∀ n : Fin 16, (peek x n).verdict = .off

/-- The relations within an event, in the image load or after it. -/
def Sound : Option (Vector RailStat 16) → State → Prop
  | none => Mid
  | some x => LoadMid x

/-- An operation below the engine that leaves the rails alone. -/
theorem Sound.of_ends (h : Ends s t) (hr : t.rails = s.rails) (hs : Sound o s) : Sound o t := by
  match o with
  | none => exact Mid.of_ends h hs
  | some x =>
    obtain ⟨hw, hd⟩ := h.of_wait_none hs.settled.2.2.1
    exact ⟨by rw [h.psc, hs.state], by rw [h.loader]; exact hs.phase, by rw [h.psc, hs.haltedFrom],
      hs.settled.of_ends h, by rw [h.psc, hs.gate], hd.trans hs.due, by rw [hr, hs.stat], hs.off⟩

theorem Sound.of_same (h : Sound o s) (hp : t.psc = s.psc) (hl : t.loader = s.loader) (he : t.eng = s.eng)
    (hh : t.wire.hold = s.wire.hold) (hq : t.wire.queue = s.wire.queue) (hr : t.rails = s.rails) : Sound o t :=
  h.of_ends (.of_same hp hl he (by simp [hh]) (by simp [hq])) hr

/-- Outside LOADING the image load is over. -/
theorem Sound.mid (h : Sound o s) (hs : s.psc.state ≠ .loading) : o = none := by
  match o with
  | none => rfl
  | some x => exact absurd h.state hs

theorem Mid.state_ne_loading (h : Mid s) : s.psc.state ≠ .loading := fun hs => by
  have := h.relation
  simp [midRelation, hs] at this

theorem Mid.calm (h : Mid s) : Calm s := fun e hd => h.wait_none (by simp [hd])

theorem Sound.calm (h : Sound o s) : Calm s := by
  match o with
  | none => exact Mid.calm h
  | some x => exact calm_of_rest h.due

theorem sound_runChain (h : Sound o s) : Sound o (runChain s) := by
  match o with
  | none => exact mid_runChain h
  | some x =>
    rw [runChain_of_rest h.due]
    exact h

/-! ## Rail events -/

theorem mid_applyCount {slot : Fin 16} {c : RailStat × Option Verdict} (h : Mid s) : Mid (applyCount slot c s) := by
  have hstat : Mid (setStat slot c.1 s) := h.of_ends (ends_setStat (.refl s))
  have hmove {v : Verdict} : Mid (moveVerdict slot v (setStat slot c.1 s)) := hstat.of_ends (ends_moveVerdict (.refl _))
  unfold applyCount
  dsimp only
  split
  · exact hstat
  · exact mid_railLost hstat
  · exact hmove
  · exact hmove
  · exact hstat
  · exact hstat

theorem mid_sampleRail {slot : Fin 16} (h : Mid s) : Mid (sampleRail slot s) := by
  unfold sampleRail
  dsimp only
  split
  · exact h
  · split
    · exact mid_applyCount (h.of_ends (ends_setRails (.refl s)))
    · exact mid_applyCount h
    · exact h

theorem sampleRail_of_off {slot : Fin 16} (h : (peek s.rails.stat slot).verdict = .off) : sampleRail slot s = s := by
  simp [sampleRail, h, isSampled]

theorem sound_takeRail {slot : Fin 16} (h : Sound o s) : Sound o (takeRail slot s) := by
  have hmark {b : Boundary} : Sound o (s.setBoundary b) := h.of_same rfl rfl rfl rfl rfl rfl
  unfold takeRail
  split
  · match o with
    | none => exact mid_sampleRail hmark
    | some x =>
      rw [sampleRail_of_off]
      · exact hmark
      · simpa [h.stat] using h.off slot
  · exact h

theorem sound_beginPass (h : Sound o s) : Sound o (beginPass s) := by
  unfold beginPass
  split
  · exact h
  · exact h.of_same rfl rfl rfl rfl rfl rfl

theorem sound_takeRails {slots : List (Fin 16)} (h : Sound o s) : Sound o (takeRails slots s) := by
  unfold takeRails
  induction slots generalizing s with
  | nil => exact h
  | cons n ns ih => exact ih (sound_runChain (sound_takeRail h))

theorem sound_finishPass (h : Sound o s) : Sound o (finishPass s) := by
  unfold finishPass
  split
  · exact sound_takeRails h
  · exact h

theorem mid_moveVerdict {slot : Fin 16} {v : Verdict} (h : Mid s) : Mid (moveVerdict slot v s) :=
  h.of_ends (ends_moveVerdict (.refl s))

/-- The timer of a NONE rail moves its verdict; no timer runs in LOADING, where every rail is OFF (R2, R65). -/
theorem sound_railTimer {slot : Fin 16} {v w : Verdict} {pick : TimeField → TimeField → TimeField} (hv : v ≠ .off)
    (hd : railTimerDue v pick slot s = true) (h : Sound o s) : Sound o (moveVerdict slot w s) := by
  match o with
  | none => exact mid_moveVerdict h
  | some x =>
    have hoff := h.off slot
    rw [← h.stat, verdict_of_railTimerDue hd] at hoff
    exact absurd hoff hv

theorem sound_railEvent {slot : Fin 16} (h : Sound o s) : Sound o (railEvent slot s) := by
  unfold railEvent
  split
  next hd => exact sound_railTimer (by simp) hd h
  · split
    next hd => exact sound_railTimer (by simp) hd h
    · split
      · exact sound_takeRail (sound_beginPass h)
      · exact h

theorem mid_awaitRail {ends : Verdict → Bool} {ended : State → Bool} {slot : Fin 16} (h : Mid s) :
    Mid (awaitRail ends ended slot s) := by
  obtain ⟨-, he⟩ | ⟨-, -, he⟩ | ⟨-, -, he⟩ := awaitRail_cases ends ended slot s <;> rw [he]
  · exact h.of_ends (ends_handOnVerdict (.refl s))
  · exact sound_railEvent (o := none) h
  · exact h

/-! ## The clocks -/

theorem sound_setClock {c : Clock} (h : Sound o s) : Sound o (s.setClock c) := h.of_same rfl rfl rfl rfl rfl rfl

theorem sound_newBoundary {lines : Lines} (h : Sound o s) : Sound o (newBoundary lines s) := by
  unfold newBoundary
  dsimp only
  split <;> exact h.of_same rfl rfl rfl rfl rfl rfl

/-- The end of a window moves the Clock Unit, and ends a wait for the lock at most (R131). -/
theorem endWindow_cases (count : Nat) (s : State) :
    (∃ c, endWindow count s = s.setClock c) ∨ ∃ c, endWindow count s = setLocked (s.setClock c) := by
  unfold endWindow
  dsimp only
  split
  · exact .inl ⟨_, rfl⟩
  · split
    · exact .inl ⟨_, rfl⟩
    · exact .inl ⟨_, rfl⟩
  · split
    · exact .inl ⟨_, rfl⟩
    · split
      · exact .inl ⟨_, rfl⟩
      · split
        · exact .inl ⟨_, rfl⟩
        · split
          · exact .inr ⟨_, rfl⟩
          · exact .inl ⟨_, rfl⟩

theorem sound_endWindow {count : Nat} (h : Sound o s) : Sound o (endWindow count s) := by
  obtain ⟨c, he⟩ | ⟨c, he⟩ := endWindow_cases count s <;> rw [he]
  · exact sound_setClock h
  · exact h.of_ends (ends_setLocked (ends_setClock (.refl s))) (by simp)

theorem mid_awaitLock {count : Nat} (h : Mid s) : Mid (awaitLock count s) := by
  unfold awaitLock
  split
  · exact h.of_ends (ends_handOnFastLoop (.refl s))
  · split
    · exact sound_endWindow (o := none) h
    · exact h

/-! ## The Wake Unit -/

theorem sound_setWake {w : Wake} (h : Sound o s) : Sound o (s.setWake w) := h.of_same rfl rfl rfl rfl rfl rfl

theorem sound_overrideExpires (h : Sound o s) : Sound o (overrideExpires s) := by
  have hidle {w : Wake} : Sound o (s.setWake w) := sound_setWake h
  have hmid {w : Wake} (hs : s.psc.state ≠ .loading) : Sound o (triggerOverride (s.setWake w)) := by
    obtain rfl := h.mid hs
    exact mid_triggerOverride hidle
  unfold overrideExpires
  dsimp only
  split
  next hs => exact hmid (by simpa using ne_of_eq_of_ne hs (by simp))
  next hs => exact hmid (by simpa using ne_of_eq_of_ne hs (by simp))
  next hs => exact hmid (by simpa using ne_of_eq_of_ne hs (by simp))
  next hs => exact hmid (by simpa using ne_of_eq_of_ne hs (by simp))
  next hs => exact hmid (by simpa using ne_of_eq_of_ne hs (by simp))
  next hs => exact hmid (by simpa using ne_of_eq_of_ne hs (by simp))
  all_goals exact hidle

theorem mid_setWake {w : Wake} (h : Mid s) : Mid (s.setWake w) := h.of_ends (ends_setWake (.refl s))

theorem mid_startOverride (h : Mid s) : Mid (startOverride s) := by
  unfold startOverride
  split
  · exact h
  · dsimp only
    split
    · exact sound_overrideExpires (o := none) (mid_setWake h)
    · exact mid_setWake h

theorem mid_guardEffect {src : Fin 9} (h : Mid s) : Mid (guardEffect src s) := by
  unfold guardEffect
  split
  · exact mid_clearLatch h
  · split
    · exact mid_triggerFault h
    · exact h

theorem mid_timerEffect {src : Fin 9} (h : Mid s) : Mid (timerEffect src s) := by
  unfold timerEffect
  split
  · exact mid_startOverride h
  · exact h

theorem mid_fireEffect {src : Fin 9} (h : Mid s) : Mid (fireEffect src s) :=
  (mid_setWake h).of_ends (ends_fire (.refl _))

theorem mid_activeEffects {src : Fin 9} {order : EffectOrder} (h : Mid s) : Mid (activeEffects src order s) := by
  have hf {s} (h : Mid s) : Mid (runChain (fireEffect src s)) := mid_runChain (mid_fireEffect h)
  have hg {s} (h : Mid s) : Mid (runChain (guardEffect src s)) := mid_runChain (mid_guardEffect h)
  have ht {s} (h : Mid s) : Mid (runChain (timerEffect src s)) := mid_runChain (mid_timerEffect h)
  cases order with
  | wakeGuardTimer => exact ht (hg (hf h))
  | wakeTimerGuard => exact hg (ht (hf h))
  | guardWakeTimer => exact ht (hf (hg h))
  | guardTimerWake => exact hf (ht (hg h))
  | timerWakeGuard => exact hg (hf (ht h))
  | timerGuardWake => exact hf (hg (ht h))

theorem mid_detectorSample {src : Fin 9} {order : EffectOrder} (h : Mid s) : Mid (detectorSample src order s) := by
  have hs : Mid (takeSample src (s.setBoundary { s.boundary with det := poke s.boundary.det src false })) :=
    h.of_ends (ends_setWake (ends_setBoundary (.refl s)))
  unfold detectorSample
  dsimp only
  split
  · exact mid_setWake hs
  · split
    · exact mid_activeEffects hs
    · unfold inactiveEffects
      split
      · exact mid_setWake (mid_setWake hs)
      · exact mid_setWake hs

theorem mid_pfailSample (h : Mid s) : Mid (pfailSample s) := by
  have hs {w : Wake} : Mid ((s.setBoundary { s.boundary with pfail := false }).setWake w) :=
    h.of_ends (ends_setWake (ends_setBoundary (.refl s)))
  unfold pfailSample
  dsimp only
  split
  · exact hs
  · split
    · exact mid_triggerPowerfail hs
    · unfold acRestore
      split
      · exact hs.setPsc_same rfl rfl rfl rfl rfl rfl rfl
      · exact mid_restoreAction hs

/-! ## Waiting steps -/

/-- Nothing is awaited in LOADING (R2). -/
theorem Sound.mid_of_wait (h : Sound o s) (hw : s.eng.wait ≠ .none) : o = none := by
  match o with
  | none => rfl
  | some x => exact absurd h.settled.2.2.1 hw

theorem ends_stepExpires (hd : stepTimerDue s = true) : Ends s (stepExpires s) := by
  obtain ⟨hw, hrun⟩ : s.eng.wait = .step ∧ channelRuns s = true := by
    simp only [stepTimerDue, Bool.and_eq_true, decide_eq_true_eq] at hd
    exact hd.1.1
  have hok (hk : s.eng.cur.kind ≠ .endList) : Ending s s .ok := ⟨hw, hrun, fun he => absurd he hk⟩
  have hfail : Ends s (failWith .timeout s) := ends_endRunWith ⟨hw, hrun⟩ (.refl s)
  unfold stepExpires
  split
  next hk => exact ends_endRunWith (hok (by simp [hk])) (.refl s)
  next hk =>
    refine ends_endRunWith ⟨by simpa using hw, ?_, fun he => absurd he (by simp [hk])⟩ (ends_driveLine (.refl s))
    simpa [channelRuns] using hrun
  next =>
    refine ends_endRunWith ⟨by simpa using hw, ?_⟩ (ends_withdrawSendWire (.refl s))
    simpa [channelRuns] using hrun
  all_goals first | exact hfail | exact .refl s

theorem stepExpires_rails (s : State) : (stepExpires s).rails = s.rails := by
  unfold stepExpires
  split <;> simp [succeed, failWith]

theorem ends_awaitLine (hw : waitsIn s .waitLine = true) : Ends s (awaitLine s) := by
  obtain ⟨hwait, hk, hrun⟩ := waitsIn_iff.1 hw
  refine .ite (fun _ => ends_endRunWith ⟨hwait, hrun, fun he => absurd he ?_⟩ (ends_setWake (.refl s))) fun _ =>
    ends_setWake (.refl s)
  show s.eng.cur.kind ≠ .endList
  simp [hk]

theorem ends_drainTakes (s : State) : Ends s (drainTakes s) :=
  .ite (fun _ => ends_takeOldest (.refl s)) fun _ => .ite (fun _ => ends_takeOldest (.refl s)) fun _ => .refl s

theorem drainTakes_rails (s : State) : (drainTakes s).rails = s.rails := by
  unfold drainTakes
  split_ifs <;> simp

theorem sound_drainTakes (h : Sound o s) : Sound o (drainTakes s) := h.of_ends (ends_drainTakes s) (drainTakes_rails s)

theorem sound_awaitDrain (h : Sound o s) : Sound o (awaitDrain s) := by
  unfold awaitDrain
  split
  · exact h.of_ends (ends_handOnDrained (.refl s)) (by simp)
  · split
    · exact sound_drainTakes h
    · exact h

/-! ## The link ports -/

theorem sound_setLink {p : Port} {l : Link} (h : Sound o s) : Sound o (setLink s p l) :=
  h.of_ends (ends_setLink (.refl s)) (by simp)

theorem sound_countPort {p : Port} {f : PortCounters → PortCounters} (h : Sound o s) : Sound o (countPort p f s) :=
  h.of_ends (ends_countPort (.refl s)) (by simp)

theorem sound_createInternal {p : Port} {f : Internal} (h : Sound o s) : Sound o (createInternal p f s) :=
  h.of_ends (ends_createInternal (.refl s)) (by simp)

theorem sound_takeOldest {p : Port} (h : Sound o s) : Sound o (takeOldest p s) :=
  h.of_ends (ends_takeOldest (.refl s)) (by simp)

theorem sound_setLevel {w : Fin 64} {b : Bool} (h : Sound o s) : Sound o (setLevel w b s) :=
  h.of_ends (ends_setLevel (.refl s)) (by simp)

theorem sound_requestIfChanged {q : Level} (h : Sound o s) : Sound o (requestIfChanged q s) := by
  match o with
  | none => exact mid_requestIfChanged h
  | some x =>
    have hs : requestIfChanged q s = s := by
      unfold requestIfChanged
      split
      · rfl
      · simp [requestEvent, h.state]
    rw [hs]
    exact h

theorem sound_dropTraffic (h : Sound o s) : Sound o (dropTraffic (s.setLrst true)) :=
  have hdrop : Ends s (dropTraffic (s.setLrst true)) := ⟨rfl, rfl, id, fun _ => rfl, rfl, rfl, .inl ⟨rfl, rfl⟩⟩
  h.of_ends hdrop rfl

theorem sound_resetRequests (h : Sound o s) : Sound o (resetRequests s) := by
  unfold resetRequests
  split
  · exact h
  · have hwires : Sound o (resetWires s) := h.of_ends (ends_setWire id id (.refl s)) (by simp [resetWires])
    exact sound_requestIfChanged hwires

theorem sound_resendOwn (h : Sound o s) : Sound o (resendOwn s) := by
  have fold (p : Port) (l : List (List WireLevel)) {s : State} (h : Sound o s) :
      Sound o (l.foldl (fun s es => createInternal p (.wires es) s) s) := by
    induction l generalizing s with
    | nil => exact h
    | cons es l ih => exact ih (sound_createInternal h)
  exact fold .board _ (fold .hub _ h)

theorem sound_reannounce (h : Sound o s) : Sound o (reannounce s) := by
  have fold (l : List WakeEntry) {s : State} (h : Sound o s) :
      Sound o (l.foldl (fun s e => createNotice e.source s) s) := by
    induction l generalizing s with
    | nil => exact h
    | cons e l ih => exact ih (h.of_ends (ends_createNotice (.refl s)) (by simp))
  unfold reannounce
  split
  · exact fold _ h
  · exact fold _ h
  · exact fold _ h
  all_goals exact h

theorem sound_rejoinSendWire (h : Sound o s) : Sound o (rejoinSendWire s) := by
  unfold rejoinSendWire
  split
  · exact sound_createInternal h
  · exact h

/-! ## The classifier -/

theorem sound_popRx {p : Port} (h : Sound o s) : Sound o (popRx p s) :=
  (sound_setLink h).of_same rfl rfl rfl rfl rfl rfl

/-- The relations within an event with nothing due. -/
def SoundAtRest (o : Option (Vector RailStat 16)) (s : State) : Prop := Sound o s ∧ s.eng.due = .nothing

theorem soundAtRest_runChain (h : Sound o s) : SoundAtRest o (runChain s) := ⟨sound_runChain h, runChain_rest h.calm⟩

theorem soundAtRest_recordEntry {e : WireLevel} (h : Sound o s) : SoundAtRest o (recordEntry e s) :=
  soundAtRest_runChain (sound_requestIfChanged (sound_setLevel h))

/-- With nothing due, hold and the queue are of no concern outside the level states but to the Urgent channel and a
waiting END, which have lifted hold. -/
theorem Mid.setQueue {q : List WireLevel} (h : Mid s) (hd : s.eng.due = .nothing)
    (hheld : s.wire.hold = true ∨ s.wire.queue ≠ []) : Mid (s.setWire { s.wire with queue := q }) := by
  refine ⟨?_, h.loaded, h.haltedFrom, h.endLifted⟩
  have normal (hn : NormalMid s) : NormalMid (s.setWire { s.wire with queue := q }) := by
    obtain ⟨hc, hw | ⟨hw, ⟨b, hb⟩ | ⟨e, he, -⟩⟩⟩ := hn
    · exact ⟨hc, .inl hw⟩
    · exact absurd (hd.symm.trans hb) (by simp)
    · exact absurd (hd.symm.trans he) (by simp)
  obtain ⟨x, hx, ⟨-, -, -, hh, hq, -⟩, -⟩ | ⟨hx, hn⟩ | ⟨hx, hn, hc⟩ | ⟨hx, hc, hu⟩ | ⟨hx, hh⟩ :=
    midRelation_cases h.relation
  · obtain hheld | hheld := hheld
    · exact absurd (hh.symm.trans hheld) (by simp)
    · exact absurd hq hheld
  · exact midRelation.ofTransit hx (normal hn)
  · exact midRelation.ofBackout hx ⟨normal hn, hc⟩
  · refine midRelation.ofUrgent hx ⟨hc, ?_⟩
    obtain hw | ⟨hw, ⟨b, hb⟩ | ⟨e, he, -⟩⟩ := hu
    · exact .inl hw
    · exact absurd (hd.symm.trans hb) (by simp)
    · exact absurd (hd.symm.trans he) (by simp)
  · exact midRelation.ofHalted hx hh

theorem ends_countWire {f : Classifier → Classifier}
    (hf : ∀ c, (f c).hold = c.hold ∧ (f c).queue = c.queue) : Ends s (countWire f s) :=
  ends_setWire (by simp [hf]) (by simp [hf]) (.refl s)

theorem ends_onOpenReport {f : Report → Report} (hf : ∀ x, (f x).isOpen = x.isOpen) : Ends s (onOpenReport f s) :=
  .ite (fun _ => ends_onReport hf (.refl s)) fun _ => .refl s

theorem soundAtRest_countWire {f : Classifier → Classifier}
    (hf : ∀ c, (f c).hold = c.hold ∧ (f c).queue = c.queue) (h : SoundAtRest o s) : SoundAtRest o (countWire f s) :=
  ⟨h.1.of_ends (ends_countWire hf) rfl, h.2⟩

theorem mid_holdEntry {e : WireLevel} (h : Mid s) (hd : s.eng.due = .nothing)
    (hheld : s.wire.hold = true ∨ s.wire.queue ≠ []) : SoundAtRest none (holdEntry e s) := by
  have hset (q : List WireLevel) : Mid (s.setWire { s.wire with queue := q }) := h.setQueue hd hheld
  unfold holdEntry
  split
  · exact ⟨(hset _).of_ends (ends_ensureDrain (.refl _)), by simpa using hd⟩
  · split
    · refine ⟨((hset _).of_ends (ends_countWire (f := incCollapse) fun _ => ⟨rfl, rfl⟩)).of_ends
        (ends_onOpenReport fun _ => rfl), ?_⟩
      unfold onOpenReport
      split <;> exact hd
    · refine ⟨(h.of_ends (ends_countWire (f := incHoldOverflow) fun _ => ⟨rfl, rfl⟩)).of_ends
        (ends_onOpenReport fun _ => rfl), ?_⟩
      unfold onOpenReport
      split <;> exact hd

theorem soundAtRest_handleEntry {p : Port} {x : State × List WireLevel} {b : Byte} (h : SoundAtRest o x.1) :
    SoundAtRest o (handleEntry p x b).1 := by
  have hmis : SoundAtRest o (countWire incMisdirected x.1) := soundAtRest_countWire (fun _ => ⟨rfl, rfl⟩) h
  have hrec : SoundAtRest o (recordEntry (entryOf b) x.1) := soundAtRest_recordEntry h.1
  unfold handleEntry
  dsimp only
  split
  · exact ⟨sound_countPort h.1, by simpa using h.2⟩
  · split
    · exact soundAtRest_countWire (fun _ => ⟨rfl, rfl⟩) h
    · exact hrec
    · split
      · exact hmis
      · exact hrec
    · split
      · exact hmis
      · exact hrec
    · split
      · exact hmis
      · split
        · exact hrec
        next hheld =>
          have hheld : (recordEntry (entryOf b) x.1).wire.hold = true ∨ (recordEntry (entryOf b) x.1).wire.queue ≠ [] := by
            rw [not_and_or] at hheld
            exact hheld.imp_left (by simp)
          match o with
          | none => exact mid_holdEntry hrec.1 hrec.2 hheld
          | some y =>
            obtain ⟨-, -, -, hh, hq, -⟩ := hrec.1.settled
            obtain hheld | hheld := hheld
            · exact absurd (hh.symm.trans hheld) (by simp)
            · exact absurd hq hheld

theorem soundAtRest_entries {p : Port} (bs : List Byte) {x : State × List WireLevel} (h : SoundAtRest o x.1) :
    SoundAtRest o (bs.foldl (handleEntry p) x).1 := by
  induction bs generalizing x with
  | nil => exact h
  | cons b bs ih => exact ih (soundAtRest_handleEntry h)

theorem sound_sendForwarded {p : Port} {n : Nat} {f : Frame} (h : Sound o s) : Sound o (sendForwarded p n f s) := by
  unfold sendForwarded
  split
  · exact h.of_ends (ends_queueTx (.refl s)) (by simp)
  · exact (sound_setLink h).of_same rfl rfl rfl rfl rfl rfl

theorem sound_handleWire {p : Port} {f : Frame} (h : SoundAtRest o s) : Sound o (handleWire p f s) := by
  have hkeep : SoundAtRest o (keepSlot (some p.other) s) := ⟨h.1.of_same rfl rfl rfl rfl rfl rfl, h.2⟩
  have hfold := soundAtRest_entries (p := p) f.payload (x := (keepSlot (some p.other) s, [])) hkeep
  have hpump {u : State} (hu : Sound o u) : Sound o (pump u) := hu.of_ends (ends_pump (.refl u)) (by simp)
  have hdone {u : State} (hu : Sound o u) : Sound o (keepSlot none u) := hu.of_same rfl rfl rfl rfl rfl rfl
  unfold handleWire
  dsimp only
  split
  · exact hpump (hdone hfold.1)
  · exact hpump (sound_sendForwarded (hdone hfold.1))

theorem sound_takeNext {row : Port → Frame → Bool} {handle : Port → Frame → State → State}
    (hh : ∀ p f, Sound o (popRx p s) → Sound o (handle p f (popRx p s))) (h : Sound o s) :
    Sound o (takeNext row handle s) := by
  unfold takeNext
  split
  · exact h
  · split
    · exact hh _ _ (sound_popRx h)
    · exact h

theorem sound_handleBoardWake {p : Port} {f : Frame} (h : Sound o s) : Sound o (handleBoardWake p f s) := by
  unfold handleBoardWake
  split
  · split
    · exact h.of_ends (ends_fire (.refl s)) (by simp)
    · exact sound_countPort h
  · exact sound_countPort h

/-! ## Management requests -/

theorem sound_setAgent {a : Option Service} (h : Sound o s) : Sound o (s.setAgent a) := h.of_same rfl rfl rfl rfl rfl rfl

/-- A management request is carried out after the image load alone (R152). -/
theorem sound_guarded {p : Port} {req : List Byte} {act : List Byte → State → Answer}
    (ha : ∀ s, Mid s → s.eng.due = .nothing → Mid (act req s).state) (hd : s.eng.due = .nothing) (h : Sound o s) :
    Sound o (guarded p req act s).state := by
  unfold guarded
  split
  · exact h
  next hs =>
    split
    · exact h
    · obtain rfl := h.mid hs
      exact ha s h hd

theorem mid_applyWrite {c : Checked} (h : Mid s) : Mid (applyWrite c s) := by
  cases c with
  | rail slot rec b => exact h.of_ends (ends_setRails (ends_setRails (.refl s)))
  | step i rec => exact ⟨h.relation, h.loaded, h.haltedFrom, h.endLifted⟩
  | trans i e => exact h.setPsc_same rfl rfl rfl rfl rfl rfl rfl
  | wire w e =>
    have hput : Mid (s.setWire { s.wire with map := poke s.wire.map w e }) := h.of_ends (ends_setWire id id (.refl s))
    exact hput
  | wake src e =>
    have hput : Mid (s.setWake { s.wake with table := poke s.wake.table src e }) := mid_setWake h
    have hsense {n : Fin 9} {a b : WakeSource} {u : State} (hu : Mid u) : Mid (resense n a b u) := by
      unfold resense
      split
      · exact hu
      · dsimp only
        split
        · exact mid_setWake (mid_setWake hu)
        · exact mid_setWake hu
    have harm {n : Fin 9} {a b : WakeSource} {u : State} (hu : Mid u) : Mid (rearm n a b u) := by
      unfold rearm
      split
      · exact hu.of_ends (ends_takeFire (.refl u))
      · exact hu
    show Mid (wakeWritten src _ e _)
    unfold wakeWritten
    split
    · exact harm (hsense hput)
    · exact hput
  | policy0 p b =>
    have hput : Mid (s.setPsc { s.psc with policy0 := p }) := h.setPsc_same rfl rfl rfl rfl rfl rfl rfl
    exact mid_requestIfChanged hput
  | policy1 p => exact h.setPsc_same rfl rfl rfl rfl rfl rfl rfl

theorem mid_writeAct {tab : Table} {req : List Byte} (h : Mid s) : Mid (writeAct tab req s).state := by
  unfold writeAct
  dsimp only
  split
  · exact h
  · split
    · exact h
    · split
      · exact h
      · split
        · exact h
        · exact mid_applyWrite h

theorem mid_controlAct {code : Nat} {act : State → Answer} {req : List Byte} (ha : Mid (act s).state) (h : Mid s) :
    Mid (controlAct code act req s).state := by
  unfold controlAct
  split
  · exact h
  · exact ha

theorem mid_haltAct (h : Mid s) : Mid (haltAct s).state := by
  have hset : Mid (s.setEng { s.eng with norm := { s.eng.norm with haltPending := true } }) :=
    ⟨h.relation, h.loaded, h.haltedFrom, h.endLifted⟩
  unfold haltAct
  split
  · exact hset
  · exact hset
  all_goals exact h

/-- CONTINUE resumes the halted state, takes the slot as a request event, and runs the step due or begins back-out
(R17, R51). -/
theorem mid_continueAct (h : Mid s) : Mid (continueAct s).state := by
  unfold continueAct
  split
  next hs =>
    obtain ⟨hst, hu, hw, hd, hgate, hfrom, hopen, hback⟩ := (midRelation_halted hs).1 h.relation
    have resume {p : Psc} (hp : p.state = .transit ∨ p.state = .backout ∧ p.commit = false)
        (hg : p.gateClosed = false) (hf : p.haltedFrom = none) : Mid (resumeRun (s.setPsc p)) := by
      unfold resumeRun
      rw [if_pos (by simpa using hst)]
      have hn : NormalMid ((s.setPsc p).setEng { s.eng with
          norm := { s.eng.norm with st := .running }, due := .beginRun s.eng.norm.rerunDue }) :=
        ⟨⟨rfl, hu, hg, hopen⟩, .inr ⟨hw, .inl ⟨_, rfl⟩⟩⟩
      refine ⟨?_, h.loaded, fun _ => hf, fun _ hc => absurd hc (by simp [hw])⟩
      obtain hp | ⟨hp, hc⟩ := hp
      · exact midRelation.ofTransit hp hn
      · exact midRelation.ofBackout hp ⟨hn, hc⟩
    show Mid (resumeRun (continueSlot _))
    have hstate : resumedState s.psc.haltedFrom = .transit ∨
        resumedState s.psc.haltedFrom = .backout ∧ s.psc.commit = false := by
      match hx : s.psc.haltedFrom with
      | none => exact .inl rfl
      | some .transit => exact .inl rfl
      | some .backout => exact .inr ⟨rfl, hback hx⟩
    unfold continueSlot
    split
    · exact resume hstate hgate rfl
    next q hq =>
      obtain ht | ⟨hb, hc⟩ := hstate
      · have hev (v : State) (hv : v.psc.state = .transit) : requestEvent q v = requestInTransit q v := by
          simp [requestEvent, hv]
        rw [hev _ ht]
        obtain ⟨x, hx⟩ | ⟨hcommit, hx⟩ := requestInTransit_cases q ((s.setPsc
          { s.psc with state := resumedState s.psc.haltedFrom, haltedFrom := none }).setPsc
          { (s.setPsc { s.psc with state := resumedState s.psc.haltedFrom, haltedFrom := none }).psc with slot := none })
        · rw [hx]
          exact resume (.inl ht) hgate rfl
        · rw [hx]
          unfold resumeRun
          rw [if_neg (by simp [backOut, startNorm])]
          exact mid_backOut h.loaded hu hgate hopen hcommit rfl
      · have hev (v : State) (hv : v.psc.state = .backout) :
            requestEvent q v = v.setPsc { v.psc with slot := some q } := by simp [requestEvent, hv]
        rw [hev _ hb]
        exact resume (.inr ⟨hb, hc⟩) hgate rfl
  · exact h

theorem mid_clearFaultAct (h : Mid s) : Mid (clearFaultAct s).state :=
  mid_clearLatch (h.of_ends (ends_setFault (.refl s)))

/-- A change outside the PSC and the engine that leaves hold, the queue and the phase of the loader. -/
theorem Mid.of_same (h : Mid s) (hp : t.psc = s.psc) (he : t.eng = s.eng) (hl : t.loader.phase = s.loader.phase)
    (hh : t.wire.hold = s.wire.hold) (hq : t.wire.queue = s.wire.queue) : Mid t := by
  have hrel := h.relation
  refine ⟨?_, hl.trans h.loaded, by rw [hp]; exact h.haltedFrom, ?_⟩
  · simpa [midRelation, LevelMid, Settled, NormalMid, NormalCore, UrgentMid, UrgentCore, HaltedMid, Going, StepEnd,
      UrgentStepEnd, hp, he, hh, hq] using hrel
  · simpa [EndLifted, he, hh] using h.endLifted

theorem mid_clearFlagsAct (h : Mid s) : Mid (clearFlagsAct s).state := by
  have hpsc : Mid (s.setPsc { s.psc with unsupported := false }) := h.setPsc_same rfl rfl rfl rfl rfl rfl rfl
  exact hpsc.of_same rfl rfl rfl rfl rfl

theorem mid_clearCountersAct (h : Mid s) : Mid (clearCountersAct s).state := h.of_same rfl rfl rfl rfl rfl

end Sys2Proof.Machine

/-! PROOFS. The PSC's invariant and the rails' invariant over every step. -/

namespace Sys2Proof.Machine

variable {r s t u : State} {o : Option (Vector RailStat 16)}

/-! ## Every command after the image load, and all but the image commands during it -/

/-- A command that needs power, by what it does. -/
theorem sound_whilePowered {f : State → State} (h : whilePowered s f = .next t) (hs : SoundAtRest o s)
    (hf : Sound o (f s)) : SoundAtRest o t := by
  rw [whilePowered_eq] at h
  obtain rfl := Host.Outcome.next.inj h
  split
  · exact soundAtRest_runChain hf
  · exact hs

theorem Sound.ite {c : Prop} [Decidable c] (ht : c → Sound o s) (he : ¬c → Sound o t) :
    Sound o (if c then s else t) := by
  split
  · exact ht ‹_›
  · exact he ‹_›

theorem atRest_popRx {p : Port} (h : s.eng.due = .nothing) : (popRx p s).eng.due = .nothing := by simpa [popRx] using h

theorem sound_serve {row : List Byte → Bool} {act : List Byte → State → Answer} (hout : serve row act s = .next t)
    (ha : ∀ req s, Mid s → s.eng.due = .nothing → Mid (act req s).state) (hs : SoundAtRest o s) :
    SoundAtRest o t := by
  refine sound_whilePowered hout hs (sound_takeNext (fun p f hpop => ?_) hs.1)
  exact sound_setAgent (sound_runChain (sound_guarded (ha _) (atRest_popRx hs.2) hpop))

theorem sound_control {code : Nat} {act : State → Answer}
    (hout : serve (controls code) (controlAct code act) s = .next t) (ha : ∀ s, Mid s → Mid (act s).state)
    (hs : SoundAtRest o s) : SoundAtRest o t :=
  sound_serve hout (fun _ u hu _ => mid_controlAct (ha u hu) hu) hs

theorem sound_write {tab : Table} {row : List Byte → Bool} (hout : serve row (writeAct tab) s = .next t)
    (hs : SoundAtRest o s) : SoundAtRest o t :=
  sound_serve hout (fun _ _ hu _ => mid_writeAct hu) hs

theorem sound_lrstAsserted {b : Bool} (h : execLrstAsserted b s = .next t) (hs : SoundAtRest o s) :
    SoundAtRest o t := by
  have hdrained {u : State} (hu : Sound o u) : Sound o (handOnDrained u) :=
    hu.of_ends (ends_handOnDrained (.refl u)) (by simp)
  unfold execLrstAsserted at h
  split at h
  · obtain rfl := Host.Outcome.next.inj h
    exact hs
  · have hlrst : SoundAtRest o (s.setLrst true) := ⟨hs.1.of_same rfl rfl rfl rfl rfl rfl, hs.2⟩
    refine sound_whilePowered h hlrst ?_
    have hdrop : Sound o (dropTraffic (s.setLrst true)) := sound_dropTraffic hs.1
    exact .ite (fun _ => sound_resetRequests (sound_runChain (hdrained hdrop))) fun _ =>
      hdrained (sound_runChain (sound_resetRequests hdrop))

theorem sound_lrstReleased {b : Bool} (h : execLrstReleased b s = .next t) (hs : SoundAtRest o s) :
    SoundAtRest o t := by
  unfold execLrstReleased at h
  split at h
  · obtain rfl := Host.Outcome.next.inj h
    exact hs
  · have hlrst : SoundAtRest o (s.setLrst false) := ⟨hs.1.of_same rfl rfl rfl rfl rfl rfl, hs.2⟩
    refine sound_whilePowered h hlrst ?_
    have hrest {a b : Link} : Sound o (((s.setLrst false).setHub a).setBoard b) := hs.1.of_same rfl rfl rfl rfl rfl rfl
    exact .ite (fun _ => hrest) fun _ => sound_rejoinSendWire
      (.ite (fun _ => sound_reannounce (sound_resendOwn hrest)) fun _ => sound_resendOwn (sound_reannounce hrest))

theorem sound_frameArrival {p : Port} {bs : List Byte} {b : Bool} (h : execFrameArrival p bs b s = .next t)
    (hs : SoundAtRest o s) : SoundAtRest o t := by
  refine sound_whilePowered h hs ?_
  split
  · exact hs.1
  · refine .ite (fun _ => sound_countPort (sound_setLink hs.1)) fun _ => ?_
    split
    next c _ => cases c <;> exact sound_countPort (sound_setLink hs.1)
    · exact sound_setLink (sound_setLink hs.1)

/-- The commands of the image load, and power-on (R135, R136, R137, R140). -/
def isLoadCommand : Instr → Bool
  | .standbyPowerOnReset => true
  | .imageHeaderRead _ _ _ => true
  | .imageRecordRead _ _ _ => true
  | .endOfTheLoad _ _ _ => true
  | _ => false

/-- A wait that a command names is one after the image load. -/
theorem sound_ifWaiting {c : Bool} {f : State → State} (hw : c = true → s.eng.wait ≠ .none)
    (hf : Mid s → Mid (f s)) (h : Sound o s) : Sound o (if c then f s else s) := by
  refine .ite (fun hc => ?_) fun _ => h
  obtain rfl := h.mid_of_wait (hw hc)
  exact hf h

theorem wait_of_waitsIn {k : StepKind} (h : waitsIn s k = true) : s.eng.wait ≠ .none := by simp [(waitsIn_iff.1 h).1]

/-- What every command but those of the image load and power-on keeps of the PSC and the channels. -/
theorem exec_sound {c : Instr} (hc : isLoadCommand c = false) (hs : SoundAtRest o s) (h : exec c s = .next t) :
    SoundAtRest o t := by
  have cond {p : Prop} [Decidable p] {u : State} (hu : p → Sound o u) : Sound o (if p then u else s) :=
    .ite hu fun _ => hs.1
  cases c with
  | standbyPowerOnReset => simp [isLoadCommand] at hc
  | imageHeaderRead a b c => simp [isLoadCommand] at hc
  | imageRecordRead a b d => simp [isLoadCommand] at hc
  | endOfTheLoad a b l => simp [isLoadCommand] at hc
  | tickBoundary l =>
    replace h : execTickBoundary l s = .next t := h
    exact sound_whilePowered h hs (sound_newBoundary (sound_finishPass hs.1))
  | soLoss n l =>
    exact sound_whilePowered h hs (cond fun _ => sound_newBoundary (sound_setClock (sound_finishPass hs.1)))
  | soReturn a b c d l =>
    exact sound_whilePowered h hs (cond fun _ => sound_setClock (sound_newBoundary (sound_finishPass hs.1)))
  | loopWindowEnd n => exact sound_whilePowered h hs (cond fun _ => sound_endWindow hs.1)
  | scanPass slots => exact sound_whilePowered h hs (cond fun _ => sound_takeRails (sound_beginPass hs.1))
  | settleTimerExpiry slot => exact sound_whilePowered h hs (cond fun hd => sound_railTimer (by simp) hd hs.1)
  | drainTimerExpiry slot => exact sound_whilePowered h hs (cond fun hd => sound_railTimer (by simp) hd hs.1)
  | detectorSample src order =>
    refine sound_whilePowered h hs (cond fun hd => ?_)
    obtain rfl := hs.1.mid (by simpa using (Bool.and_eq_true_iff.1 hd).2)
    exact mid_detectorSample hs.1
  | overrideTimerExpiry => exact sound_whilePowered h hs (cond fun _ => sound_overrideExpires hs.1)
  | pfailSample =>
    refine sound_whilePowered h hs (cond fun hd => ?_)
    obtain rfl := hs.1.mid (by simpa using (Bool.and_eq_true_iff.1 hd).2)
    exact mid_pfailSample hs.1
  | stepTimerExpiry =>
    exact sound_whilePowered h hs (cond fun hd => hs.1.of_ends (ends_stepExpires hd) (stepExpires_rails s))
  | waitGoodCompletes => exact sound_whilePowered h hs (sound_ifWaiting wait_of_waitsIn mid_awaitRail hs.1)
  | waitOffCompletes => exact sound_whilePowered h hs (sound_ifWaiting wait_of_waitsIn mid_awaitRail hs.1)
  | waitLineCompletes =>
    exact sound_whilePowered h hs (cond fun hw => hs.1.of_ends (ends_awaitLine hw) (by unfold awaitLine; dsimp only; split <;> rfl))
  | clockUpCompletes n => exact sound_whilePowered h hs (sound_ifWaiting wait_of_waitsIn mid_awaitLock hs.1)
  | releaseCompletes => exact sound_whilePowered h hs (cond fun _ => sound_awaitDrain hs.1)
  | endCompletes => exact sound_whilePowered h hs (cond fun _ => sound_awaitDrain hs.1)
  | frameReceptionBegins p b =>
    replace h : execFrameReceptionBegins p b s = .next t := h
    exact sound_whilePowered h hs (.ite (fun _ => hs.1) fun _ => sound_setLink hs.1)
  | frameArrival p bs b => exact sound_frameArrival h hs
  | sendCompletion p =>
    replace h : execSendCompletion p s = .next t := h
    exact sound_whilePowered h hs (sound_setLink hs.1)
  | wireFrameTaken =>
    exact sound_whilePowered h hs (sound_takeNext (fun _ _ hp => sound_handleWire ⟨hp, atRest_popRx hs.2⟩) hs.1)
  | dataFrameTaken =>
    exact sound_whilePowered h hs (sound_takeNext (fun _ _ hp => .ite (fun _ => sound_countPort hp)
      fun _ => hp.of_ends (ends_queueTx (.refl _)) (by simp)) hs.1)
  | misroutedFrameDrop => exact sound_whilePowered h hs (sound_takeNext (fun _ _ hp => sound_countPort hp) hs.1)
  | boardWakeFrame => exact sound_whilePowered h hs (sound_takeNext (fun _ _ hp => sound_handleBoardWake hp) hs.1)
  | drainFrameTakesSlot => exact sound_whilePowered h hs (sound_drainTakes hs.1)
  | sendWireFrameTakesSlot =>
    replace h : execSendWireFrameTakesSlot s = .next t := h
    exact sound_whilePowered h hs (.ite (fun _ => sound_takeOldest hs.1) fun _ => cond fun _ => sound_takeOldest hs.1)
  | internalFrameTakesSlot p => exact sound_whilePowered h hs (cond fun _ => sound_takeOldest hs.1)
  | mgmtResponseTakesSlot =>
    replace h : execMgmtResponseTakesSlot s = .next t := h
    refine sound_whilePowered h hs ?_
    split
    · exact hs.1
    · exact cond fun _ => sound_setAgent (hs.1.of_ends (ends_queueTx (.refl s)) (by simp))
  | lrstAsserted b => exact sound_lrstAsserted h hs
  | lrstReleased b => exact sound_lrstReleased h hs
  | unknownOp => exact sound_whilePowered h hs (sound_takeNext (fun _ _ hp => sound_setAgent hp) hs.1)
  | readStatus =>
    replace h : execReadStatus s = .next t := h
    refine sound_serve h (fun req u hu _ => ?_) hs
    unfold readStatusAct
    split
    · exact hu
    · exact hu.of_same rfl rfl rfl rfl rfl
  | readTable =>
    replace h : execReadTable s = .next t := h
    refine sound_serve h (fun req u hu _ => ?_) hs
    unfold readTableAct
    dsimp only
    split
    · exact hu
    · exact hu.of_same rfl rfl rfl rfl rfl
  | writeTableRail => exact sound_write h hs
  | writeTableStep => exact sound_write h hs
  | writeTableTransition => exact sound_write h hs
  | writeTableWiremap => exact sound_write h hs
  | writeTableWakesrc => exact sound_write h hs
  | writeTablePolicy => exact sound_write h hs
  | halt => exact sound_control h (fun _ => mid_haltAct) hs
  | continueRun => exact sound_control h (fun _ => mid_continueAct) hs
  | stepModeOn => exact sound_control h (fun _ hu => ⟨hu.relation, hu.loaded, hu.haltedFrom, hu.endLifted⟩) hs
  | stepModeOff => exact sound_control h (fun _ hu => ⟨hu.relation, hu.loaded, hu.haltedFrom, hu.endLifted⟩) hs
  | clearFault => exact sound_control h (fun _ => mid_clearFaultAct) hs
  | clearWakes => exact sound_control h (fun _ hu => mid_setWake hu) hs
  | clearFlags => exact sound_control h (fun _ => mid_clearFlagsAct) hs
  | clearCounters => exact sound_control h (fun _ => mid_clearCountersAct) hs
  | standbyPowerFall =>
    obtain rfl := Host.Outcome.next.inj h
    exact ⟨hs.1.of_same rfl rfl rfl rfl rfl rfl, hs.2⟩

/-! ## The commands of the image load -/

/-- After the image load its commands do nothing (R140). -/
theorem exec_loadCommand_of_done {c : Instr} (hc : isLoadCommand c = true) (hr : c ≠ .standbyPowerOnReset)
    (hl : s.loader.phase = .done) (hd : s.eng.due = .nothing) (h : exec c s = .next t) : t = s := by
  have still {f : State → State} (h : whilePowered s f = .next t) (hf : f s = s) : t = s := by
    rw [whilePowered_eq, hf, runChain_of_rest hd] at h
    obtain rfl := Host.Outcome.next.inj h
    simp
  cases c with
  | standbyPowerOnReset => exact absurd rfl hr
  | imageHeaderRead a b c =>
    replace h : execImageHeaderRead a b c s = .next t := h
    exact still h (by simp [hl])
  | imageRecordRead a b d =>
    replace h : execImageRecordRead a b d s = .next t := h
    exact still h (by simp [hl])
  | endOfTheLoad a b l =>
    replace h : execEndOfTheLoad a b l s = .next t := h
    exact still h (by simp [hl])
  | _ => simp [isLoadCommand] at hc

variable {x : Vector RailStat 16}

theorem LoadMid.setLoader {l : Loader} (h : LoadMid x s) (hl : l.phase ≠ .done) : LoadMid x (s.setLoader l) :=
  ⟨h.state, hl, h.haltedFrom, h.settled, h.gate, h.due, h.stat, h.off⟩

theorem loadMid_blankTables (h : LoadMid x s) : LoadMid x (blankTables s) :=
  ⟨h.state, h.phase, h.haltedFrom, h.settled, h.gate, h.due, h.stat, h.off⟩

theorem loadMid_badImage (h : LoadMid x s) : LoadMid x (badImage s) := (loadMid_blankTables h).setLoader (by simp)

theorem loadMid_putRecord {c : Checked} (h : LoadMid x s) : LoadMid x (putRecord c s) := by
  cases c <;> exact ⟨h.state, h.phase, h.haltedFrom, h.settled, h.gate, h.due, h.stat, h.off⟩

theorem loadMid_installRecord {tab : Table} {i : Nat} {bs : List Byte} (h : LoadMid x s) :
    LoadMid x (installRecord tab i bs s) := by
  have warn {u : State} (hu : LoadMid x u) : LoadMid x (imageWarning u) := hu.setLoader hu.phase
  unfold installRecord
  split
  · split
    · split
      · exact warn (loadMid_putRecord h)
      · exact loadMid_putRecord h
    · exact warn h
  · exact warn h

/-- In LOADING, where every rail is OFF, the relation of a rail says nothing of its record. -/
theorem railRelation_of_off {a b : RailRec} {y : RailStat} (hoff : y.verdict = .off) (h : RailRelation true a y) :
    RailRelation true b y := by
  have hf : 0 < actingFilter b.filter := one_le_actingFilter b.filter
  obtain ⟨hen, has, htimer, -, ⟨-, hrise, hgood, hdrain⟩, hlost⟩ := h
  simp_all [RailRelation, CountsInRange]

/-- A rail as the end of the load leaves it (R57). -/
theorem railsOk_endLoad (h : LoadMid x s) (hr : ∀ n, RailRelation true (peek s.rails.table n) (peek s.rails.stat n))
    (lines : Lines) : RailsOk (endLoad lines s).rails := by
  have hrails : (endLoad lines s).rails =
      { s.rails with stat := s.rails.stat.map fun x => { x with en := .deasserted } } := by
    simp [endLoad, loadSettle, setDetectors, defaultWires, driveLines]
  intro n
  have hoff := h.off n
  rw [← h.stat] at hoff
  obtain ⟨-, -, htimer, hnone, hcounts, hlost⟩ := hr n
  rw [hrails, peek_map]
  exact ⟨by simp, by simp [hoff], htimer, hnone, hcounts, hlost⟩

/-- The end of the load settles in SOFT_OFF (R16, R140). -/
theorem mid_endLoad {lines : Lines} (h : LoadMid x s) : Mid (endLoad lines s) := by
  obtain ⟨hn, hu, hw, hh, hq, -⟩ := h.settled
  unfold endLoad
  dsimp only
  refine mid_restoreAction ⟨midRelation.ofLevel (x := .softOff) rfl ⟨⟨?_, ?_, ?_, ?_, ?_, rfl, rfl⟩, ?_, rfl, rfl,
    fun hne => absurd rfl hne⟩, ?_, fun _ => ?_, fun _ _ => ?_⟩
  all_goals simp [loadSettle, setDetectors, defaultWires, driveLines, *, h.due, h.haltedFrom]

theorem endLoad_due (h : LoadMid x s) (lines : Lines) : (endLoad lines s).eng.due = .nothing := by
  have hwait := h.settled.2.2.1
  unfold endLoad
  dsimp only
  have heng : (loadSettle (setDetectors lines (defaultWires (driveLines
      (s.setLoader { s.loader with phase := .done, chipSelect := false }))))).eng = s.eng := by
    simp [loadSettle, setDetectors, defaultWires, driveLines]
  generalize loadSettle _ = v at heng ⊢
  obtain ⟨-, hdue, -⟩ := restoreAction_sameRun (s := v) (by rw [heng, hwait])
  rw [hdue, heng, h.due]

/-- The image load goes on, or ends in SOFT_OFF. -/
theorem exec_loadCommand {c : Instr} (hc : isLoadCommand c = true) (hr : c ≠ .standbyPowerOnReset)
    (hs : LoadMid x s) (h : exec c s = .next t) :
    LoadMid x t ∨ Mid t ∧ t.eng.due = .nothing ∧
      ((∀ n, RailRelation true (peek s.rails.table n) (peek s.rails.stat n)) → RailsOk t.rails) := by
  have loading {f : State → State} (h : whilePowered s f = .next t) (hf : LoadMid x (f s)) : LoadMid x t :=
    (sound_whilePowered (o := some x) h ⟨hs, hs.due⟩ hf).1
  have bad : LoadMid x (badImage s) := loadMid_badImage hs
  have ended {f : State → State} {lines : Lines} {u : State} (h : whilePowered s f = .next t)
      (hf : f s = endLoad lines u) (hu : LoadMid x u) : LoadMid x t ∨ Mid t ∧ t.eng.due = .nothing ∧
        ((∀ n, RailRelation true (peek s.rails.table n) (peek s.rails.stat n)) → RailsOk t.rails) := by
    have hmid := mid_endLoad (lines := lines) hu
    have hdue : (endLoad lines u).eng.due = .nothing := endLoad_due hu lines
    rw [whilePowered_eq, hf, runChain_of_rest hdue] at h
    obtain rfl := Host.Outcome.next.inj h
    split
    · refine .inr ⟨hmid, hdue, fun hrel => railsOk_endLoad hu (fun n => ?_) lines⟩
      rw [hu.stat, ← hs.stat]
      exact railRelation_of_off (by rw [hs.stat]; exact hs.off n) (hrel n)
    · exact .inl hs
  cases c with
  | standbyPowerOnReset => exact absurd rfl hr
  | imageHeaderRead a b c =>
    replace h : execImageHeaderRead a b c s = .next t := h
    refine .inl (loading h ?_)
    split
    · split
      · exact hs.setLoader (by simp)
      · exact loadMid_badImage (hs.setLoader hs.phase)
    all_goals exact hs
  | imageRecordRead a b d =>
    replace h : execImageRecordRead a b d s = .next t := h
    refine .inl (loading h ?_)
    split
    · split
      · exact bad
      · refine LoadMid.setLoader (loadMid_installRecord ?_) (by simp)
        exact LoadMid.setLoader hs hs.phase
    all_goals exact hs
  | endOfTheLoad a b l =>
    replace h : execEndOfTheLoad a b l s = .next t := h
    cases hp : s.loader.phase with
    | records n =>
      cases n with
      | zero =>
        by_cases ht : trailerOk s a b
        · exact ended (lines := l) h (by simp [hp, ht]) hs
        · exact ended (lines := l) h (by simp [hp, ht]) bad
      | succ n => exact .inl (loading h (by simpa [hp] using hs))
    | bad => exact ended (lines := l) h (by simp [hp]) hs
    | header => exact .inl (loading h (by simpa [hp] using hs))
    | done => exact absurd hp hs.phase
  | _ => simp [isLoadCommand] at hc

/-! ## The PSC's invariant -/

theorem mid_of_pscInv (h : PscInv s) (hs : s.psc.state ≠ .loading) : Mid s := by
  obtain ⟨hd, hrel, hload, hfrom, hend⟩ := h
  have hl : s.loader.phase = .done := not_not.1 fun hne => hs (hload.2 hne)
  refine ⟨?_, hl, hfrom, fun hk hw => hend (hw.resolve_right (by simp [hd])) hk⟩
  unfold stateRelation at hrel
  unfold midRelation
  have level {y : Level} (hy : Settled s ∧ s.psc.current = y ∧ s.psc.target = y ∧ s.psc.gateClosed = false) :
      LevelMid y s := by
    obtain ⟨hset, hcur, htarget, hgate⟩ := hy
    exact ⟨hset, hd, hcur, htarget, fun _ => hgate⟩
  have normal (hn : NormalRuns s) : NormalMid s := by
    obtain ⟨hst, hu, hw, hgate, hopen⟩ := hn
    exact ⟨⟨hst, hu, hgate, hopen⟩, .inl ⟨hw, hd⟩⟩
  cases hx : s.psc.state <;> simp only [hx] at hrel ⊢
  · exact hs hx
  · exact level hrel
  · exact level hrel
  · exact level hrel
  · obtain ⟨hset, hcur, htarget⟩ := hrel
    exact ⟨hset, hd, hcur, htarget, fun hne => absurd rfl hne⟩
  · exact normal hrel
  · exact ⟨normal hrel.1, hrel.2⟩
  · obtain ⟨hi, hr, hk, hw, hg, ht, hc, hh, ho⟩ := hrel
    exact ⟨⟨hi, hr, hk, hg, ht, hc, hh, ho⟩, .inl ⟨hw, hd⟩⟩
  · obtain ⟨hst, hu, hw, hg, hf, ho, hb⟩ := hrel
    exact ⟨hst, hu, hw, hd, hg, hf, ho, hb⟩

theorem loadMid_of_pscInv (h : PscInv s) (hs : s.psc.state = .loading) : LoadMid s.rails.stat s := by
  obtain ⟨hd, hrel, hload, hfrom, -⟩ := h
  simp only [stateRelation, hs] at hrel
  obtain ⟨hset, hgate, hoff⟩ := hrel
  exact ⟨hs, hload.1 hs, hfrom (by simp [hs]), hset, hgate, hd, rfl, hoff⟩

theorem pscInv_of_mid (h : Mid s) (hd : s.eng.due = .nothing) : PscInv s := by
  have hgoing {p : RunEnd → Prop} : ¬Going s p := by simp [Going, hd]
  have hs := h.state_ne_loading
  refine ⟨hd, ?_, by simp [hs, h.loaded], h.haltedFrom, fun hw hk => h.endLifted hk (.inl hw)⟩
  have hrel := h.relation
  unfold midRelation at hrel
  unfold stateRelation
  have level {y : Level} (hne : y ≠ .softOff) (hy : LevelMid y s) :
      Settled s ∧ s.psc.current = y ∧ s.psc.target = y ∧ s.psc.gateClosed = false := by
    obtain ⟨hset, -, hcur, htarget, hgate⟩ := hy
    exact ⟨hset, hcur, htarget, hgate hne⟩
  have normal (hn : NormalMid s) : NormalRuns s := by
    obtain ⟨⟨hst, hu, hgate, hopen⟩, hc⟩ := hn
    exact ⟨hst, hu, (hc.resolve_right hgoing).1, hgate, hopen⟩
  cases hx : s.psc.state <;> simp only [hx] at hrel ⊢
  · exact level (by simp) hrel
  · exact level (by simp) hrel
  · exact level (by simp) hrel
  · obtain ⟨hset, -, hcur, htarget, -⟩ := hrel
    exact ⟨hset, hcur, htarget⟩
  · exact normal hrel
  · exact ⟨normal hrel.1, hrel.2⟩
  · obtain ⟨⟨hi, hr, hk, hg, ht, hc, hh, ho⟩, hcourse⟩ := hrel
    exact ⟨hi, hr, hk, (hcourse.resolve_right hgoing).1, hg, ht, hc, hh, ho⟩
  · obtain ⟨hst, hu, hw, -, hg, hf, ho, hb⟩ := hrel
    exact ⟨hst, hu, hw, hg, hf, ho, hb⟩

theorem pscInv_of_loadMid (h : LoadMid x s) : PscInv s := by
  refine ⟨h.due, ?_, by simp [h.state, h.phase], fun _ => h.haltedFrom, fun hw => ?_⟩
  · have hset := h.settled
    have hoff := h.off
    rw [← h.stat] at hoff
    simp only [stateRelation, h.state]
    exact ⟨hset, h.gate, hoff⟩
  · exact absurd (hw.symm.trans h.settled.2.2.1) (by simp)

/-- A command from a state with the PSC's invariant: after the image load the relations are kept; in it they are kept
with the rails as they were, or it ends. -/
theorem exec_pscInv {c : Instr} (hr : c ≠ .standbyPowerOnReset) (hs : PscInv s) (h : exec c s = .next t) :
    PscInv t ∧ (s.psc.state = .loading → RailInv s → RailInv t) := by
  have hdue := hs.1
  by_cases hload : s.psc.state = .loading
  · have hl := loadMid_of_pscInv hs hload
    have kept (ht : LoadMid s.rails.stat t) : PscInv t ∧ (s.psc.state = .loading → RailInv s → RailInv t) := by
      refine ⟨pscInv_of_loadMid ht, fun _ hrail n => ?_⟩
      have hn := hrail n
      simp only [hload, ht.state, decide_true, ht.stat] at hn ⊢
      exact railRelation_of_off (hl.off n) hn
    by_cases hc : isLoadCommand c = true
    · obtain ht | ⟨hm, hd, hrails⟩ := exec_loadCommand hc hr hl h
      · exact kept ht
      · refine ⟨pscInv_of_mid hm hd, fun _ hrail => ?_⟩
        have hok := hrails fun n => by simpa [hload] using hrail n
        intro n
        simpa [hm.state_ne_loading] using hok n
    · exact kept (exec_sound (o := some _) (by simpa using hc) ⟨hl, hdue⟩ h).1
  · have hm := mid_of_pscInv hs hload
    refine ⟨?_, fun hx => absurd hx hload⟩
    by_cases hc : isLoadCommand c = true
    · rwa [exec_loadCommand_of_done hc hr hm.loaded hdue h]
    · obtain ⟨ht, hd⟩ := exec_sound (o := none) (by simpa using hc) ⟨hm, hdue⟩ h
      exact pscInv_of_mid ht hd

theorem pscInv_reset (p : List Instr) (b : Bool) (n : Nat) : PscInv (((State.reset.setPending p).setLrst b).setUses n) := by
  simp [PscInv, stateRelation, Settled, State.reset, peek, resetStat]

/-- Settles O59: what is due within an event fits what the PSC state says of the channels (`Mid`), and at its end
nothing is due (`exec_pscInv`). -/
theorem pscInvariant : Obligations.PscInvariant := fun s t hs h => by
  obtain ⟨-, rfl⟩ | ⟨c, rest, -, hc⟩ := step_cases h
  · exact hs
  · by_cases hr : c = .standbyPowerOnReset
    · subst hr
      obtain rfl := Host.Outcome.next.inj hc
      exact pscInv_reset _ _ _
    · exact (exec_pscInv hr (s := s.setPending rest) hs hc).1

theorem railInv_reset (p : List Instr) (b : Bool) (n : Nat) :
    RailInv (((State.reset.setPending p).setLrst b).setUses n) := by
  intro i
  simp [RailRelation, CountsInRange, State.reset, peek, resetStat, blankRail, actingFilter, isNoneRail]

/-- Settles O60: outside LOADING each operation on a rail keeps its relations (`KeepsBlocks.rails`), and the image load
leaves every rail OFF and undriven until it ends (`exec_pscInv`). -/
theorem railInvariant : Obligations.RailInvariant := fun s t hs hrail h => by
  obtain ⟨-, rfl⟩ | ⟨c, rest, -, hc⟩ := step_cases h
  · exact hrail
  · by_cases hr : c = .standbyPowerOnReset
    · subst hr
      obtain rfl := Host.Outcome.next.inj hc
      exact railInv_reset _ _ _
    · by_cases hload : s.psc.state = .loading
      · exact (exec_pscInv hr (s := s.setPending rest) hs hc).2 hload hrail
      · have ha := exec_answers hr hc
        have hl : Loaded (s.setPending rest) := ⟨hload, (mid_of_pscInv hs hload).loaded⟩
        have hok : RailsOk s.rails := fun n => by simpa [hload] using hrail n
        have ht := ha.rails hl hok
        intro n
        simpa [(ha.loaded hl).1] using ht n

end Sys2Proof.Machine

/-! PROOFS. The offer of free transmit slots to waiting frames, and what an internal frame that is created does. -/

namespace Sys2Proof.Machine

variable {r s t u : State} {p q : Port}

/-! ## Ports -/

@[simp] theorem link_setLink_self (s : State) (p : Port) (l : Link) : link (setLink s p l) p = l := by cases p <;> rfl

theorem link_setLink_ne (s : State) {p q : Port} (l : Link) (h : q ≠ p) : link (setLink s p l) q = link s q := by
  cases p <;> cases q <;> first | rfl | exact absurd rfl h

@[simp] theorem setLink_setLink (s : State) (p : Port) (a b : Link) : setLink (setLink s p a) p b = setLink s p b := by
  cases p <;> rfl

@[simp] theorem setLink_self (s : State) (p : Port) : setLink s p (link s p) = s := by cases p <;> rfl

@[simp] theorem setLink_hub (s : State) (l : Link) : setLink s .hub l = s.setHub l := rfl
@[simp] theorem setLink_board (s : State) (l : Link) : setLink s .board l = s.setBoard l := rfl
@[simp] theorem link_hub (s : State) : link s .hub = s.hub := rfl
@[simp] theorem link_board (s : State) : link s .board = s.board := rfl

@[simp] theorem other_ne (p : Port) : p.other ≠ p := by cases p <;> simp [Port.other]
@[simp] theorem other_other (p : Port) : p.other.other = p := by cases p <;> rfl
theorem eq_or_other (p q : Port) : q = p ∨ q = p.other := by cases p <;> cases q <;> simp [Port.other]

/-! ## Offers -/

/-- No port has a free slot and a frame waiting that may take it: nothing is offered (R146). -/
def Offered (s : State) : Prop := ∀ p, canTakeOldest s p = false

theorem pumpN_of_offered (n : Nat) (h : Offered s) : pumpN n s = s := by
  cases n with
  | zero => rfl
  | succ n => simp [pumpN, h .hub, h .board]

theorem pump_of_offered (h : Offered s) : pump s = s := pumpN_of_offered _ h

/-- One offer is taken, the Hub Port's first. -/
theorem pumpN_succ_of_take (n : Nat) (hcan : canTakeOldest s p = true)
    (hfirst : p = .hub ∨ canTakeOldest s .hub = false) : pumpN (n + 1) s = pumpN n (takeOldest p s) := by
  cases p with
  | hub => simp [pumpN, hcan]
  | board =>
    have hhub : canTakeOldest s .hub = false := hfirst.resolve_left (by simp)
    simp [pumpN, hcan, hhub]

/-- One offer is taken, and nothing more is offered. -/
theorem pump_of_take (hcan : canTakeOldest s p = true) (hfirst : p = .hub ∨ canTakeOldest s .hub = false)
    (hafter : Offered (takeOldest p s)) : pump s = takeOldest p s := by
  have h16 : 2 * Config.txSlots = 15 + 1 := rfl
  unfold pump
  rw [h16, pumpN_succ_of_take 15 hcan hfirst, pumpN_of_offered _ hafter]

theorem offered_of_lrst (h : s.lrst = true) : Offered s := fun p => by simp [canTakeOldest, slotFree, h]

theorem canTakeOldest_of_full (h : 8 ≤ (link s p).tx.length) : canTakeOldest s p = false := by
  have : slotFree s p = false := by
    have hnot : ¬(link s p).tx.length + (if s.wire.kept = some p then 1 else 0) < Config.txSlots := by
      simp only [Config.txSlots]
      omega
    simp [slotFree, hnot]
  simp [canTakeOldest, this]

theorem canTakeOldest_of_empty (h : (link s p).waiting = []) : canTakeOldest s p = false := by
  simp [canTakeOldest, h]

/-- A port with an empty waiting order or a full transmit queue is offered nothing. -/
abbrev PortIdle (l : Link) : Prop := l.waiting = [] ∨ 8 ≤ l.tx.length

theorem canTakeOldest_of_idle (h : PortIdle (link s p)) : canTakeOldest s p = false :=
  h.elim canTakeOldest_of_empty canTakeOldest_of_full

theorem canTakeOldest_of_open (hl : s.lrst = false) (hk : s.wire.kept = none) (hw : (link s p).waiting ≠ [])
    (ht : (link s p).tx.length < 8) : canTakeOldest s p = true := by
  rw [canTakeOldest_of_none hk]
  simp [slotFree, Config.txSlots, hk, ht, hl, hw]

theorem slotsOffered_iff : SlotsOffered s ↔ s.lrst = true ∨ s.wire.kept = none ∧ ∀ p, PortIdle (link s p) := by
  constructor
  · rintro (h | ⟨hk, hh, hb⟩)
    · exact .inl h
    · exact .inr ⟨hk, fun p => by cases p; exacts [hh, hb]⟩
  · rintro (h | ⟨hk, hp⟩)
    · exact .inl h
    · exact .inr ⟨hk, hp .hub, hp .board⟩

theorem offered_of_slotsOffered (h : SlotsOffered s) : Offered s := by
  obtain h | ⟨-, h⟩ := slotsOffered_iff.1 h
  · exact offered_of_lrst h
  · exact fun p => canTakeOldest_of_idle (h p)

/-! ## Internal frames -/

/-- The frame that a notice, an off-notice or a re-sent OWN frame leaves as (R107, R125, R127). -/
def sentAs : Internal → Option Frame
  | .notice src => some (noticeFrame src)
  | .wires es => some (wireFrame 0 es)
  | .drain => none
  | .sendWire _ => none

theorem takeOldest_of_sentAs {f : Internal} {fr : Frame} {rest : List Internal} (hf : sentAs f = some fr)
    (h : (link s p).waiting = f :: rest) :
    takeOldest p s = setLink s p { link s p with waiting := rest, tx := (link s p).tx ++ [fr] } := by
  unfold takeOldest
  cases f with
  | notice src =>
    obtain rfl := Option.some.inj hf
    simp [h, queueTx, dropWaiting]
  | wires es =>
    obtain rfl := Option.some.inj hf
    simp [h, queueTx, dropWaiting]
  | drain => simp [sentAs] at hf
  | sendWire e => simp [sentAs] at hf

/-- The state in which a frame has been created at a port whose slots are offered: none under LRST, in the transmit queue
where a slot is free, and behind the frames that wait where none is (R146, R147). -/
def created (p : Port) (f : Internal) (fr : Frame) (s : State) : State :=
  if s.lrst then s
  else if (link s p).tx.length < 8 then setLink s p { link s p with tx := (link s p).tx ++ [fr] }
  else setLink s p { link s p with waiting := (link s p).waiting ++ [f] }

theorem createInternal_of_lrst (f : Internal) (h : s.lrst = true) : createInternal p f s = s := by
  simp [createInternal, joinWaiting, h, pump_of_offered (offered_of_lrst h)]

/-- A frame joins the order at a port, where nothing is offered to the other one. -/
theorem createInternal_of_full (f : Internal) (h : SlotsOffered s) (hl : s.lrst = false)
    (ht : 8 ≤ (link s p).tx.length) :
    createInternal p f s = setLink s p { link s p with waiting := (link s p).waiting ++ [f] } := by
  have hjoin : joinWaiting p f s = setLink s p { link s p with waiting := (link s p).waiting ++ [f] } := by
    simp [joinWaiting, hl]
  rw [createInternal, hjoin]
  refine pump_of_offered fun q => canTakeOldest_of_idle ?_
  obtain h | ⟨-, h⟩ := slotsOffered_iff.1 h
  · simp [hl] at h
  · obtain rfl | rfl := eq_or_other p q
    · simpa using .inr ht
    · rw [link_setLink_ne _ _ (other_ne p)]
      exact h _

/-- A frame takes a free slot as it is created (R146). -/
theorem createInternal_of_open {f : Internal} {fr : Frame} (hf : sentAs f = some fr) (h : SlotsOffered s)
    (hl : s.lrst = false) (ht : (link s p).tx.length < 8) :
    createInternal p f s = setLink s p { link s p with tx := (link s p).tx ++ [fr] } := by
  obtain h | ⟨hk, h⟩ := slotsOffered_iff.1 h
  · simp [hl] at h
  have hwait : (link s p).waiting = [] := (h p).resolve_right (by omega)
  have hjoin : joinWaiting p f s = setLink s p { link s p with waiting := [f] } := by simp [joinWaiting, hl, hwait]
  have htake : takeOldest p (joinWaiting p f s) = setLink s p { link s p with tx := (link s p).tx ++ [fr] } := by
    rw [takeOldest_of_sentAs hf (rest := []) (by simp [hjoin]), hjoin]
    simp [hwait]
  have hcan : canTakeOldest (joinWaiting p f s) p = true :=
    canTakeOldest_of_open (by simp [hjoin, hl]) (by simp [hjoin, hk]) (by simp [hjoin]) (by simpa [hjoin] using ht)
  have hother : canTakeOldest (joinWaiting p f s) p.other = false := by
    refine canTakeOldest_of_idle ?_
    rw [hjoin, link_setLink_ne _ _ (other_ne p)]
    exact h _
  rw [createInternal, pump_of_take hcan, htake]
  · cases p
    · exact .inl rfl
    · exact .inr hother
  · rw [htake]
    intro q
    refine canTakeOldest_of_idle ?_
    obtain rfl | rfl := eq_or_other p q
    · exact .inl (by simp [hwait])
    · rw [link_setLink_ne _ _ (other_ne p)]
      exact h _

theorem createInternal_eq {f : Internal} {fr : Frame} (hf : sentAs f = some fr) (h : SlotsOffered s) :
    createInternal p f s = created p f fr s := by
  unfold created
  split
  next hl => exact createInternal_of_lrst f hl
  next hl =>
    split
    next ht => exact createInternal_of_open hf h (by simpa using hl) ht
    next ht => exact createInternal_of_full f h (by simpa using hl) (by omega)

/-- Slots stay offered as a frame is created. -/
theorem slotsOffered_created {f : Internal} {fr : Frame} (h : SlotsOffered s) : SlotsOffered (created p f fr s) := by
  unfold created
  split
  · exact h
  · obtain hl | ⟨hk, h⟩ := slotsOffered_iff.1 h
    · exact .inl (by split <;> simpa using hl)
    · rw [slotsOffered_iff]
      refine .inr ?_
      split
      next ht =>
        refine ⟨by simpa using hk, fun q => ?_⟩
        obtain rfl | rfl := eq_or_other p q
        · exact .inl (by simpa using (h q).resolve_right (by omega))
        · rw [link_setLink_ne _ _ (other_ne p)]
          exact h _
      next ht =>
        refine ⟨by simpa using hk, fun q => ?_⟩
        obtain rfl | rfl := eq_or_other p q
        · exact .inr (by simpa using Nat.not_lt.1 ht)
        · rw [link_setLink_ne _ _ (other_ne p)]
          exact h _

/-- A change outside ports, classifier and LRST. -/
theorem slotsOffered_of_same (h : SlotsOffered s) (hh : t.hub = s.hub) (hb : t.board = s.board)
    (hk : t.wire.kept = s.wire.kept) (hl : t.lrst = s.lrst) : SlotsOffered t := by
  simpa only [SlotsOffered, hh, hb, hk, hl] using h

/-! ## Notices and fires -/

/-- A notice is created as R107 and R146 say. -/
theorem createNotice_eq (src : Fin 14) (h : SlotsOffered s) : createNotice src s = noticed src s := by
  unfold createNotice noticed
  dsimp only
  by_cases hl : s.lrst = true
  · simp [hl]
  · have hsat (n : Nat) : satInc Config.max16 n = min 65535 (n + 1) := Nat.min_comm _ _
    by_cases hn : Config.noticeLimit ≤ noticesWaiting s.hub
    · have hn' : 16 ≤ noticesWaiting s.hub := hn
      simp [hl, hn, hn', countPort, incNoticeLost, hsat]
    · have hn' : ¬16 ≤ noticesWaiting s.hub := hn
      rw [if_neg hl, if_neg hn, if_neg hl, if_neg hn', createInternal_eq rfl h]
      simp only [created, if_neg hl]
      rfl

/-- An armed fire does what R105 and R106 say. -/
theorem takeFire_eq (src : Fin 14) (h : SlotsOffered s) (hm : inMask (peek s.wake.table src).mask s.wake.armed = true) :
    takeFire src s = fired src s := by
  have hnot : ¬(peek s.wake.table src).mask.getLsbD (levelCode s.wake.armed).val = false := by
    simpa [inMask] using hm
  have hany : (s.wake.queue.any fun e => decide (e.source = src)) = true ↔ src ∈ s.wake.queue.map WakeEntry.source := by
    simp [List.any_eq_true]
  have hsat (n : Nat) : satInc Config.max8 n = min 255 (n + 1) := Nat.min_comm _ _
  unfold takeFire fired
  dsimp only
  rw [if_neg hnot]
  split
  · exact createNotice_eq src h
  · by_cases hq : src ∈ s.wake.queue.map WakeEntry.source
    · rw [if_pos (hany.2 hq), if_pos hq]
      simp only [bumpEntry, hsat]
    · rw [if_neg (fun ha => hq (hany.1 ha)), if_neg hq]
      split
      next hlen =>
        rw [if_pos (by exact hlen)]
        exact createNotice_eq src (slotsOffered_of_same h rfl rfl rfl rfl)
      next hlen =>
        rw [if_neg (by exact hlen)]
        simp only [hsat]

/-- A fire does what R104, R105 and R106 say. -/
theorem fire_eq (src : Fin 14) (h : SlotsOffered s) : fire src s = fired src s := by
  unfold fire
  split
  next hm => exact takeFire_eq src h hm
  next hm =>
    unfold fired
    rw [if_pos (by simpa [inMask] using hm)]

theorem noticed_frame (src : Fin 14) (s : State) : noticed src s = s.setHub (noticed src s).hub := by
  unfold noticed
  dsimp only
  split_ifs <;> simp

end Sys2Proof.Machine

/-! PROOFS. The part as a whole, standby power, the image load and the clocks. -/

namespace Sys2Proof.Machine

variable {r s t u : State}

/-! ## Commands -/

/-- A powered command answers its effect where that leaves nothing due. -/
theorem whilePowered_next {f : State → State} (hp : s.powered = true) (hf : f s = t) (hd : t.eng.due = .nothing) :
    whilePowered s f = .next t := by
  rw [whilePowered_on f hp, hf, runChain_of_rest hd]

/-- A powered command that leaves the part at rest as it is. -/
theorem whilePowered_self {f : State → State} (h : AtRest s) (hf : f s = s) : whilePowered s f = .next s :=
  whilePowered_next h.1 hf h.2

/-! ## The part as a whole -/

/-- Settles O1: by the definition of a step, on each form of the queue. -/
theorem stepRunsFrontCommand : Obligations.StepRunsFrontCommand :=
  ⟨fun _ _ _ h => by simp [step, h], fun _ h => by simp [step, h]⟩

theorem peek_blankWires (w : Fin 64) :
    peek blankWires w = { dir := .down, action := if w.val ≤ 2 then .track else .pass, deflt := false } := by
  simp only [blankWires, peek_poke, peek_replicate, blankWire, Fin.ext_iff, Fin.val_zero, Fin.val_one, Fin.val_two]
  split_ifs <;> first | rfl | omega

theorem peek_blankWakes (n : Fin 14) :
    peek blankWakes n = { mask := 0, mode := if n.val = 8 then .fall else .rise, width := 0 } := by
  simp only [blankWakes, peek_poke, peek_replicate, blankWake, Fin.ext_iff]
  have h8 : ((8 : Fin 14) : Nat) = 8 := rfl
  rw [h8]
  split_ifs <;> first | rfl | omega

/-- Settles O2: each block of the reset state read field by field. -/
theorem resetValues : Obligations.ResetValues := by
  refine ⟨by simp [State.reset], by simp [State.reset, emptyReport], ?_, by simp [State.reset], ?_, ?_,
    by simp [State.reset], by simp [State.reset], ?_, ?_, ?_, fun u => ⟨rfl, rfl, rfl, rfl, rfl, rfl, rfl⟩⟩
  · simp [State.reset, resetStat, blankRail]
  · simp [State.reset, idleDetector]
  · simp [State.reset, idleLink, ready]
  · simp [State.reset, blankRail, zeroTime, blankStep, blankTrans, peek_blankWires, peek_blankWakes]
  · simp [State.reset, blankPolicy0, blankPolicy1]
  · simp [State.reset, idleLink, zeroCounters, resetStat]

/-- Settles O3: the reset keeps the LRST level, the waiting commands and the use counter alone. -/
theorem powerOnResets : Obligations.PowerOnResets := fun _ =>
  ⟨_, rfl, rfl, rfl, rfl, rfl, rfl, rfl, rfl, rfl, rfl, rfl, rfl, rfl, rfl, rfl, rfl, rfl, rfl⟩

/-- Settles O4: without power every command but the reset and the two LRST rows is guarded by `whilePowered`. -/
theorem nothingActsWithoutPower : Obligations.NothingActsWithoutPower := by
  refine ⟨fun _ => rfl, fun c s hp => ?_⟩
  have hoff (f : State → State) : whilePowered s f = .next s := whilePowered_off f hp
  cases c with
  | standbyPowerOnReset => rfl
  | lrstAsserted b =>
    show execLrstAsserted b s = .next (s.setLrst true)
    unfold execLrstAsserted
    split
    next hl => rw [← hl, State.setLrst_self]
    · exact whilePowered_off _ hp
  | lrstReleased b =>
    show execLrstReleased b s = .next (s.setLrst false)
    unfold execLrstReleased
    split
    next hl => rw [← (by simpa using hl : s.lrst = false), State.setLrst_self]
    · exact whilePowered_off _ hp
  | standbyPowerFall =>
    show Host.Outcome.next (s.setPowered false) = .next s
    rw [← hp, State.setPowered_self]
  | _ =>
    simp only [exec]
    exact hoff _

/-- Settles O5: the invariants of the clock, the Fault Record, the Wake Unit and the queues read off the reset state;
those of the PSC and the rails are what a power-on reset answers. -/
theorem invariantsAtReset : Obligations.InvariantsAtReset :=
  ⟨by simp [ClockInv, State.reset], by simp [State.reset], by simp [WakeInv, State.reset],
    by simp [QueueInv, LinkInv, State.reset, idleLink, rxInUse, noticesWaiting], pscInv_reset [] false 0,
    railInv_reset [] false 0⟩

/-! ## The image load -/

theorem headerOk_iff {fmt lo hi : Byte} :
    headerOk fmt lo hi = true ↔ fmt = 0xE6 ∧ lo.toNat + 256 * hi.toNat ≤ 400 := by
  unfold headerOk recordCount Config.imageFormat Config.imageRecordMax
  simp only [Bool.and_eq_true, decide_eq_true_eq]
  refine ⟨fun ⟨⟨_, hf⟩, hn⟩ => ⟨hf, hn⟩, fun ⟨hf, hn⟩ => ⟨⟨?_, hf⟩, hn⟩⟩
  rw [hf]
  decide

/-- Settles O6: the header is accepted exactly as `headerOk_iff` says. -/
theorem headerRead : Obligations.HeaderRead := by
  intro fmt lo hi s hs hphase
  show (_ → _ → execImageHeaderRead fmt lo hi s = _) ∧ (_ → execImageHeaderRead fmt lo hi s = _)
  refine ⟨fun hf hn => ?_, fun hbad => ?_⟩
  · refine whilePowered_next hs.1 ?_ (by exact hs.2)
    simp only [hphase]
    rw [if_pos (headerOk_iff.2 ⟨hf, hn⟩)]
    rfl
  · refine whilePowered_next hs.1 ?_ (by exact hs.2)
    simp only [hphase]
    rw [if_neg fun h => by obtain ⟨hf, hn⟩ := headerOk_iff.1 h; exact hbad.elim (absurd hf) (by omega)]
    rfl

/-- A record that is installed, with a warning where it was clamped, or skipped with a warning (R137). -/
theorem installRecord_of_none {tab : Table} {i : Nat} {bs : List Byte}
    (h : indexOk tab i = false ∨ checkRecord s tab i bs = none) : installRecord tab i bs s = imageWarning s := by
  unfold installRecord
  obtain h | h := h
  · simp [h]
  · simp [h]

theorem installRecord_of_some {tab : Table} {i : Nat} {bs : List Byte} {c : Checked} (hi : indexOk tab i = true)
    (h : checkRecord s tab i bs = some c) :
    installRecord tab i bs s = if c.clamped then imageWarning (putRecord c s) else putRecord c s := by
  simp [installRecord, hi, h]

theorem tableOf_eq_none {n : Nat} (h : n = 0 ∨ 6 < n) : tableOf n = none := by
  unfold tableOf
  obtain rfl | h := h
  · rfl
  · rw [if_neg (by omega), List.getElem?_eq_none (by simp; omega)]

/-- The checks of a record look at the Wire Map and at Policy record 0 alone (R117, R156). -/
theorem checkRecord_setLoader {x : Loader} (s : State) (tab : Table) (i : Nat) (bs : List Byte) :
    checkRecord (s.setLoader x) tab i bs = checkRecord s tab i bs := by
  cases tab <;> rfl

theorem putRecord_setLoader {x : Loader} (c : Checked) (s : State) :
    putRecord c (s.setLoader x) = (putRecord c s).setLoader x := by
  cases c <;> rfl

theorem putRecord_loader (c : Checked) (s : State) : (putRecord c s).loader = s.loader := by cases c <;> rfl

theorem putRecord_due (c : Checked) (s : State) : (putRecord c s).eng.due = s.eng.due := by cases c <;> rfl

/-- Settles O7: the three ends of a record read are those of `tableOf`, `installRecord_of_none` and
`installRecord_of_some`. -/
theorem recordRead : Obligations.RecordRead := by
  intro tid index data n s hs hphase
  show (_ → execImageRecordRead tid index data s = _) ∧ ∀ t, _ → (_ → execImageRecordRead tid index data s = _) ∧
    ∀ c, _ → _ → execImageRecordRead tid index data s = _
  refine ⟨fun htid => ?_, fun tab htab => ⟨fun hskip => ?_, fun c hi hc => ?_⟩⟩
  · refine whilePowered_next hs.1 ?_ (by exact hs.2)
    simp only [hphase, tableOf_eq_none htid]
    rfl
  · refine whilePowered_next hs.1 ?_ (by exact hs.2)
    simp only [hphase, htab]
    rw [installRecord_of_none (by rwa [readOn, checkRecord_setLoader])]
    rfl
  · refine whilePowered_next hs.1 ?_ (by simpa [putRecord_due] using hs.2)
    simp only [hphase, htab]
    rw [installRecord_of_some hi (by rwa [readOn, checkRecord_setLoader]), readOn, putRecord_setLoader]
    split
    · simp [imageWarning, satInc, Config.imageRecordMax]
    · simp

/-! ## The end of the load -/

/-- The restore policy asks for no power-on at the end of the load (R22). -/
abbrev StaysOff (s : State) : Prop :=
  s.psc.policy0.restore = .stayOff ∨ s.psc.policy0.restore = .lastState ∧ s.psc.restoreOn = false

/-- The restore policy asks for power-on (R22). -/
abbrev PowersOn (s : State) : Prop :=
  s.psc.policy0.restore = .powerOn ∨ s.psc.policy0.restore = .lastState ∧ s.psc.restoreOn = true

theorem restoreAction_of_staysOff (h : StaysOff s) :
    restoreAction s = s.setPsc { s.psc with pendingRestore := false, restoreOn := false } := by
  unfold restoreAction
  obtain h | ⟨h, hm⟩ := h
  · simp [h]
  · simp [h, hm]

theorem restoreAction_of_powersOn (h : PowersOn s) :
    restoreAction s =
      (takeFire 13 s).setPsc { (takeFire 13 s).psc with pendingRestore := false, restoreOn := false } := by
  unfold restoreAction
  obtain h | ⟨h, hm⟩ := h
  · simp [h]
  · simp [h, hm]

/-- The load ends where the trailer matches or the image was found bad (R140). -/
theorem endOfTheLoad_eq {hi lo : Byte} {lines : Lines} (hp : s.powered = true)
    (h : s.loader.phase = .records 0 ∧ s.loader.crc = hi ++ lo ∨ s.loader.phase = .bad) :
    exec (.endOfTheLoad hi lo lines) s = .next (runChain (endLoad lines s)) := by
  show execEndOfTheLoad hi lo lines s = _
  unfold execEndOfTheLoad
  rw [whilePowered_on _ hp]
  obtain ⟨hphase, hcrc⟩ | hphase := h
  · simp [hphase, trailerOk, hcrc]
  · simp [hphase]

theorem endOfTheLoad_of_mismatch {hi lo : Byte} {lines : Lines} (hp : s.powered = true)
    (hphase : s.loader.phase = .records 0) (hcrc : s.loader.crc ≠ hi ++ lo) :
    exec (.endOfTheLoad hi lo lines) s = .next (runChain (endLoad lines (badImage s))) := by
  show execEndOfTheLoad hi lo lines s = _
  unfold execEndOfTheLoad
  rw [whilePowered_on _ hp]
  simp [hphase, trailerOk, hcrc]

theorem loadEndSettles : Claims.LoadEndSettles := by
  refine ⟨fun hi lo lines s hs hphase hrest => ?_, fun hi lo lines s hs hphase hcrc => ?_⟩
  · rw [endOfTheLoad_eq hs.1 hphase]
    have hend : StaysOff (loadSettle (setDetectors lines (defaultWires (driveLines
      (s.setLoader { s.loader with phase := .done, chipSelect := false }))))) := hrest
    unfold endLoad
    dsimp only
    rw [restoreAction_of_staysOff hend, runChain_of_rest (by exact hs.2)]
    rfl
  · rw [endOfTheLoad_of_mismatch hs.1 hphase hcrc]
    exact (endOfTheLoad_eq (s := badImage s) hs.1 (.inr rfl)).symm

/-- With an empty Hold Queue the Board Port's frames leave the Hub Port alone. -/
theorem takeOldest_board_hub (hq : s.wire.queue = []) :
    (takeOldest .board s).hub = s.hub ∧ (takeOldest .board s).wire.queue = [] := by
  unfold takeOldest
  split
  · exact ⟨rfl, hq⟩
  · exact ⟨rfl, hq⟩
  · exact ⟨rfl, hq⟩
  · have hes : drainEntries (dropWaiting .board s) = [] := by simp [drainEntries, dropWaiting, hq]
    unfold takeDrain
    dsimp only
    rw [if_pos hes]
    exact ⟨rfl, hq⟩
  · exact ⟨by simp [queueTx, dropWaiting], by simp [setLevel, queueTx, dropWaiting, hq]⟩

theorem pumpN_hub (n : Nat) (hw : s.hub.waiting = []) (hq : s.wire.queue = []) : (pumpN n s).hub = s.hub := by
  induction n generalizing s with
  | zero => rfl
  | succ n ih =>
    have hhub : canTakeOldest s .hub = false := canTakeOldest_of_empty hw
    unfold pumpN
    rw [if_neg (by simp [hhub])]
    split
    · obtain ⟨hsame, hq'⟩ := takeOldest_board_hub hq
      rw [ih (by rw [hsame, hw]) hq', hsame]
    · rfl

/-- A notice created at an empty Hub Port takes a slot there, whatever waits at the Board Port (R146). -/
theorem createNotice_hub (src : Fin 14) (hl : s.lrst = false) (hk : s.wire.kept = none) (hq : s.wire.queue = [])
    (hh : s.hub = idleLink) : (createNotice src s).hub = { idleLink with tx := [noticeFrame src] } := by
  have hnone : ¬Config.noticeLimit ≤ noticesWaiting s.hub := by rw [hh]; decide
  have hjoin : joinWaiting .hub (.notice src) s = s.setHub { idleLink with waiting := [.notice src] } := by
    simp [joinWaiting, hl, hh, idleLink]
  have htake : takeOldest .hub (s.setHub { idleLink with waiting := [.notice src] }) =
      s.setHub { idleLink with tx := [noticeFrame src] } := by
    rw [takeOldest_of_sentAs (f := .notice src) (rest := []) rfl rfl]
    simp [idleLink]
  unfold createNotice
  rw [if_neg (by simp [hl]), if_neg hnone, createInternal, hjoin]
  have h16 : 2 * Config.txSlots = 15 + 1 := rfl
  have hcan : canTakeOldest (s.setHub { idleLink with waiting := [.notice src] }) .hub = true :=
    canTakeOldest_of_open hl hk (by simp) (by simp [idleLink])
  rw [pump, h16, pumpN_succ_of_take 15 hcan (.inl rfl), htake]
  exact pumpN_hub (s := s.setHub { idleLink with tx := [noticeFrame src] }) 15 rfl hq

theorem loadEndPowersOn : Claims.LoadEndPowersOn := by
  intro hi lo lines s hs hinv hphase hrest hq hh hk
  have hload : s.psc.state = .loading := by
    obtain ⟨-, -, hl, -⟩ := hinv
    refine hl.2 ?_
    obtain ⟨h, -⟩ | h := hphase <;> simp [h]
  have hmid := loadMid_of_pscInv hinv hload
  refine ⟨endLoad lines s, ?_, ?_⟩
  · rw [endOfTheLoad_eq hs.1 hphase, runChain_of_rest (endLoad_due hmid lines)]
  have hpsc := hrest
  have hhold : s.wire.queue = [] := hmid.settled.2.2.2.2.1
  let v := loadSettle (setDetectors lines (defaultWires (driveLines
    (s.setLoader { s.loader with phase := .done, chipSelect := false }))))
  have hend : endLoad lines s = restoreAction v := rfl
  have hfire : takeFire 13 v = createNotice 13
      (v.setWake { v.wake with queue := [{ source := 13, first := s.clock.tick, count := 1 }] }) := by
    have hvq : v.wake.queue = [] := hq
    have hva : v.wake.armed = .softOff := rfl
    unfold takeFire
    rw [if_neg (by simp [hva]), if_neg (by simp [hvq]), if_pos (by simp [hvq, Config.wakeSlots])]
    simp only [hvq]
    rfl
  rw [hend, restoreAction_of_powersOn (s := v) hrest, hfire]
  generalize hw : v.setWake { v.wake with queue := [{ source := 13, first := s.clock.tick, count := 1 }] } = w
  have hwhub : w.hub = idleLink := by rw [← hw]; exact hh
  have htx : (createNotice 13 w).hub.tx = (if s.lrst then [] else [noticeFrame 13]) ∧
      rxInUse (createNotice 13 w).hub = 0 := by
    by_cases hl : s.lrst = true
    · have hwl : w.lrst = true := by rw [← hw]; exact hl
      simp [createNotice, hwl, hl, hwhub, idleLink, rxInUse]
    · have hwl : w.lrst = false := by rw [← hw]; exact Bool.eq_false_iff.2 hl
      rw [createNotice_hub 13 hwl (by rw [← hw]; exact hk) (by rw [← hw]; exact hhold) hwhub]
      simp [hl, idleLink, rxInUse]
  have hstate : w.psc.state = .softOff := by rw [← hw]; rfl
  have hwlrst : w.lrst = s.lrst := by rw [← hw]; rfl
  have hrx := htx.2
  refine ⟨by simp [hstate], ?_, htx.1, ?_, ?_, ?_⟩
  · simp [← hw]
  · simp [← hw]; rfl
  · simp [← hw]; rfl
  · simp [ready, hrx, Config.rxSlots, hstate, hwlrst]

/-- Settles O8: a quiet restore policy leaves the settled state (`loadEndSettles`), the other fires source 13
(`loadEndPowersOn`). -/
theorem loadEnds : Obligations.LoadEnds := ⟨loadEndSettles, loadEndPowersOn⟩

end Sys2Proof.Machine

/-! PROOFS. What the chain of an event leaves of the boundary and the timebase, and the clock commands. -/

namespace Sys2Proof.Machine

variable {r s t u : State}

/-! ## What the chain leaves -/

/-- State `t` has the power, the boundary and the timebase of `s`. -/
structure SameTime (s t : State) : Prop where
  powered : t.powered = s.powered
  boundary : t.boundary = s.boundary
  tick : t.clock.tick = s.clock.tick
  source : t.clock.source = s.clock.source
  lossArmed : t.clock.lossArmed = s.clock.lossArmed

theorem SameTime.refl (s : State) : SameTime s s := ⟨rfl, rfl, rfl, rfl, rfl⟩

theorem SameTime.trans (h : SameTime s t) (g : SameTime t u) : SameTime s u :=
  ⟨g.powered.trans h.powered, g.boundary.trans h.boundary, g.tick.trans h.tick, g.source.trans h.source,
    g.lossArmed.trans h.lossArmed⟩

/-- An operation that leaves power, boundary and Clock Unit. -/
theorem SameTime.of_frame (h : SameTime r s)
    (hf : t.powered = s.powered ∧ t.boundary = s.boundary ∧ t.clock = s.clock) : SameTime r t := by
  obtain ⟨hp, hb, hc⟩ := hf
  exact h.trans ⟨hp, hb, by rw [hc], by rw [hc], by rw [hc]⟩

theorem SameTime.ite {c : Prop} [Decidable c] (ht : c → SameTime r s) (he : ¬c → SameTime r t) :
    SameTime r (if c then s else t) := by
  split
  · exact ht ‹_›
  · exact he ‹_›

theorem sameTime_forceFast (h : SameTime r s) : SameTime r (forceFast s) :=
  .ite (fun _ => h.trans ⟨rfl, rfl, rfl, rfl, rfl⟩) fun _ => h

theorem sameTime_clockDown (h : SameTime r s) : SameTime r (clockDown s) := by
  refine .ite (fun _ => h) fun _ => h.trans ?_
  unfold clearLocked
  split <;> exact ⟨rfl, rfl, rfl, rfl, rfl⟩

theorem sameTime_startUrgentList {k : UrgKind} (h : SameTime r s) : SameTime r (startUrgentList k s) :=
  h.of_frame (by simp)

theorem sameTime_urgentStart {k : UrgKind} (h : SameTime r s) : SameTime r (urgentStart k s) :=
  sameTime_startUrgentList (.of_frame (sameTime_forceFast (h.of_frame (t := liftHold (enterUrgent (stopNorm s))) (by simp)))
    (by simp))

theorem sameTime_triggerFault {c : FaultCause} {i : Fin 256} (h : SameTime r s) : SameTime r (triggerFault c i s) :=
  .ite (fun _ => h.of_frame (by simp)) fun _ => sameTime_urgentStart (h.of_frame (by simp))

theorem sameTime_endRunWith {e : RunEnd} (h : SameTime r s) : SameTime r (endRunWith e s) := h.of_frame (by simp)
theorem sameTime_awaitStep (h : SameTime r s) : SameTime r (awaitStep s) := h.of_frame (by simp [awaitStep])
theorem sameTime_awaitOrTimeout {x : StepRec} (h : SameTime r s) : SameTime r (awaitOrTimeout x s) :=
  .ite (fun _ => sameTime_endRunWith h) fun _ => sameTime_awaitStep h

theorem sameTime_runKind {x : StepRec} (h : SameTime r s) : SameTime r (runKind x s) := by
  have hend {e : RunEnd} : SameTime r (endRunWith e s) := sameTime_endRunWith h
  have hlift : SameTime r (liftHold s) := h.of_frame (by simp)
  unfold runKind
  split
  · exact .ite (fun _ => sameTime_endRunWith hlift) fun _ => sameTime_awaitStep hlift
  · exact .ite (fun _ => hend) fun _ => .ite (fun _ => hend) fun _ => sameTime_endRunWith (h.of_frame (by simp))
  · exact .ite (fun _ => hend) fun _ => .ite (fun _ => hend) fun _ => sameTime_endRunWith (h.of_frame (by simp))
  · refine .ite (fun _ => hend) fun _ => ?_
    split <;> first | exact hend | exact sameTime_awaitOrTimeout h
  · exact .ite (fun _ => hend) fun _ => .ite (fun _ => hend) fun _ => sameTime_awaitOrTimeout h
  · exact .ite (fun _ => hend) fun _ => sameTime_awaitStep h
  · exact sameTime_endRunWith (h.of_frame (by simp))
  · exact .ite (fun _ => hend) fun _ => sameTime_awaitOrTimeout h
  · exact .ite (fun _ => sameTime_endRunWith (h.of_frame (by simp))) fun _ =>
      sameTime_awaitStep (h.of_frame (by simp))
  · refine .ite (fun _ => hend) fun _ => ?_
    have hsend {p : Port} {f : Internal} : SameTime r (createInternal p f (awaitStep s)) :=
      (sameTime_awaitStep h).of_frame (by simp)
    exact .ite (fun _ => sameTime_endRunWith (h.of_frame (by simp [awaitStep]))) fun _ => hsend
  · exact .ite (fun _ => sameTime_endRunWith hlift) fun _ => .ite (fun _ => sameTime_endRunWith hlift) fun _ =>
      .ite (fun _ => sameTime_endRunWith hlift) fun _ => sameTime_awaitStep hlift
  · exact .ite (fun _ => hend) fun _ => sameTime_awaitOrTimeout (sameTime_forceFast h)
  · exact sameTime_endRunWith (sameTime_clockDown h)
  · exact sameTime_endRunWith (h.of_frame (by simp))
  · exact sameTime_endRunWith (h.of_frame (by simp))

theorem sameTime_haltPoint {b : Bool} (h : SameTime r s) : SameTime r (haltPoint b s) :=
  .ite (fun _ => h.of_frame (by simp [haltAt])) fun _ => h.of_frame (by simp)

theorem sameTime_runawayNorm (h : SameTime r s) : SameTime r (runawayNorm s) := by
  unfold runawayNorm
  dsimp only
  split <;> exact sameTime_triggerFault (h.of_frame (by simp [commitNow]))

theorem sameTime_leadOn (h : SameTime r s) : SameTime r (leadOn s) := by
  unfold leadOn
  split
  · exact sameTime_runawayNorm h
  · dsimp only
    split <;> exact sameTime_haltPoint (h.of_frame (by simp [commitNow]))

theorem sameTime_faultEnd (h : SameTime r s) : SameTime r (faultEnd s) :=
  sameTime_triggerFault (h.of_frame (by simp))

theorem sameTime_backOutOrFault (h : SameTime r s) : SameTime r (backOutOrFault s) :=
  .ite (fun _ => h.of_frame (by simp)) fun _ => sameTime_faultEnd h

theorem sameTime_failNorm {k : FailKind} (h : SameTime r s) : SameTime r (failNorm k s) := by
  have hrec {f : Report → Report} : SameTime r (onReport f s) := h.of_frame (by simp)
  unfold failNorm
  dsimp only
  split
  · exact sameTime_leadOn (h.of_frame (by simp))
  · exact .ite (fun _ => sameTime_haltPoint (h.of_frame (by simp))) fun _ => sameTime_backOutOrFault hrec
  · exact sameTime_backOutOrFault hrec
  · exact sameTime_faultEnd hrec

theorem sameTime_leadOnUrg (h : SameTime r s) : SameTime r (leadOnUrg s) := by
  unfold leadOnUrg
  split
  · exact .ite (fun _ => h.of_frame (by simp)) fun _ => h.of_frame (by simp)
  · exact h.of_frame (by simp)

theorem sameTime_endUrg {e : RunEnd} (h : SameTime r s) : SameTime r (endUrg e s) := by
  have hend {o : ReportOutcome} : SameTime r (urgentEnd o s) := h.of_frame (by simp)
  cases e with
  | ok => exact .ite (fun _ => hend) fun _ => sameTime_leadOnUrg h
  | failed k => exact sameTime_leadOnUrg (h.of_frame (by simp))
  | runawayDrained => exact hend
  | builtinDrained => exact hend

theorem sameTime_endNorm {e : RunEnd} (h : SameTime r s) : SameTime r (endNorm e s) := by
  cases e with
  | ok => exact .ite (fun _ => h.of_frame (by simp)) fun _ => sameTime_leadOn h
  | failed k => exact sameTime_failNorm h
  | runawayDrained => exact h
  | builtinDrained => exact h

theorem sameTime_chainStep (h : SameTime r s) : SameTime r (chainStep s) := by
  unfold chainStep
  split
  · exact h
  · refine .ite (fun _ => sameTime_runKind ?_) fun _ => h.of_frame (by simp)
    exact .ite (fun _ => h.of_frame (by simp)) fun _ => h.of_frame (by simp)
  · have hdone : SameTime r (s.setEng { s.eng with due := .nothing }) := h.of_frame (by simp)
    exact .ite (fun _ => .ite (fun _ => sameTime_endUrg hdone) fun _ => sameTime_endNorm hdone) fun _ => hdone

/-- The chain of an event leaves the power, the boundary and the timebase. -/
theorem sameTime_runChain (h : SameTime r s) : SameTime r (runChain s) := by
  unfold runChain
  generalize Config.chainFuel = n
  induction n generalizing s with
  | zero => exact h
  | succ n ih => exact .ite (fun _ => h) fun _ => ih (sameTime_chainStep h)

/-! ## A pass that is finished -/

theorem sameTime_applyCount {slot : Fin 16} {c : RailStat × Option Verdict} (h : SameTime r s) :
    SameTime r (applyCount slot c s) := by
  have hmove {v : Verdict} : SameTime r (moveVerdict slot v (setStat slot c.1 s)) := h.of_frame (by simp)
  unfold applyCount
  dsimp only
  split
  · exact h.of_frame (by simp)
  · exact .ite (fun _ => sameTime_triggerFault (h.of_frame (by simp))) fun _ => h.of_frame (by simp)
  · exact hmove
  · exact hmove
  · exact h.of_frame (by simp)
  · exact h.of_frame (by simp)

theorem sameTime_sampleRail {slot : Fin 16} (h : SameTime r s) : SameTime r (sampleRail slot s) := by
  refine .ite (fun _ => h) fun _ => ?_
  split
  · exact sameTime_applyCount (h.of_frame (by simp))
  · exact sameTime_applyCount h
  · exact h

/-- The boundary and the timebase after the events of some rails: those of the rails are taken, and nothing else
moves. -/
structure RailsTaken (slots : List (Fin 16)) (s t : State) : Prop where
  powered : t.powered = s.powered
  begun : t.boundary.passBegun = s.boundary.passBegun
  scanned : t.boundary.scanned = s.boundary.scanned
  taken : ∀ n, n ∈ slots ∨ peek s.boundary.rail n = false → peek t.boundary.rail n = false
  source : t.clock.source = s.clock.source
  lossArmed : t.clock.lossArmed = s.clock.lossArmed
  rest : s.eng.due = .nothing → t.eng.due = .nothing

theorem railsTaken_takeRail (n : Fin 16) (s : State) : RailsTaken [n] s (runChain (takeRail n s)) := by
  have hchain := sameTime_runChain (.refl (takeRail n s))
  have hrest (hd : s.eng.due = .nothing) : (runChain (takeRail n s)).eng.due = .nothing :=
    runChain_rest ((keeps_takeRail (.refl s)).calm (calm_of_rest hd))
  by_cases hn : peek s.boundary.rail n = true
  · have hsample := sameTime_sampleRail (slot := n)
      (.refl (s.setBoundary { s.boundary with rail := poke s.boundary.rail n false }))
    have htake : takeRail n s =
        sampleRail n (s.setBoundary { s.boundary with rail := poke s.boundary.rail n false }) := by simp [takeRail, hn]
    rw [htake] at hchain hrest ⊢
    have h := hsample.trans hchain
    refine ⟨h.powered, by rw [h.boundary]; rfl, by rw [h.boundary]; rfl, fun m hm => ?_, h.source, h.lossArmed, hrest⟩
    rw [h.boundary]
    simp only [State.setBoundary_boundary, peek_poke]
    split
    · rfl
    next hne => exact hm.resolve_left (by simpa using Ne.symm hne)
  · have htake : takeRail n s = s := by simp [takeRail, hn]
    rw [htake] at hchain hrest ⊢
    refine ⟨hchain.powered, by rw [hchain.boundary], by rw [hchain.boundary], fun m hm => ?_, hchain.source,
      hchain.lossArmed, hrest⟩
    rw [hchain.boundary]
    obtain hm | hm := hm
    · obtain rfl : m = n := by simpa using hm
      simpa using hn
    · exact hm

theorem railsTaken_takeRails (slots : List (Fin 16)) (s : State) : RailsTaken slots s (takeRails slots s) := by
  induction slots generalizing s with
  | nil => exact ⟨rfl, rfl, rfl, by simp [takeRails], rfl, rfl, id⟩
  | cons n ns ih =>
    have h := railsTaken_takeRail n s
    have g := ih (runChain (takeRail n s))
    exact ⟨g.powered.trans h.powered, g.begun.trans h.begun, g.scanned.trans h.scanned,
      fun m hm => g.taken m (by
        obtain hm | hm := hm
        · obtain rfl | hm := List.mem_cons.1 hm
          · exact .inr (h.taken m (.inl (by simp)))
          · exact .inl hm
        · exact .inr (h.taken m (.inr hm))),
      g.source.trans h.source, g.lossArmed.trans h.lossArmed, fun hd => g.rest (h.rest hd)⟩

/-- The row of the rails scanned where the pass began does what the end of the pass does (R71), and leaves nothing of it. -/
theorem scanPass_scannedSlots (hs : AtRest s) (hb : s.boundary.passBegun = true)
    (h : exec (.scanPass ((List.finRange 16).filter fun n => peek s.boundary.scanned n)) s = .next t) :
    finishPass s = t ∧ AtRest t ∧ finishPass t = t ∧ t.clock.source = s.clock.source ∧
      t.clock.lossArmed = s.clock.lossArmed := by
  have htaken := railsTaken_takeRails (scannedSlots s) s
  have hrest := htaken.rest hs.2
  have ht : takeRails (scannedSlots s) s = t := by
    have hrow : exec (.scanPass (scannedSlots s)) s = .next (takeRails (scannedSlots s) s) := by
      refine whilePowered_next hs.1 ?_ hrest
      rw [if_pos (by simp [passDue, hb]), beginPass_of_begun hb]
    exact Host.Outcome.next.inj (hrow.symm.trans h)
  rw [ht] at htaken hrest
  refine ⟨by rw [finishPass, if_pos hb, ht], ⟨htaken.powered.trans hs.1, hrest⟩, ?_, htaken.source, htaken.lossArmed⟩
  refine finishPass_of_taken (fun _ n hn => htaken.taken n (.inl ?_)) hrest
  rw [htaken.scanned] at hn
  simpa using hn

/-! ## The clock commands -/

theorem newBoundary_due (lines : Lines) (s : State) : (newBoundary lines s).eng.due = s.eng.due := by
  unfold newBoundary
  dsimp only
  split <;> rfl

theorem tickBoundary_eq (lines : Lines) (hs : AtRest s) (hf : finishPass s = t) (ht : t.eng.due = .nothing) :
    exec (.tickBoundary lines) s = .next (newBoundary lines t) := by
  show execTickBoundary lines s = _
  exact whilePowered_next hs.1 (by rw [hf]) (by rw [newBoundary_due, ht])

theorem tickCounts : Claims.TickCounts := by
  intro lines s hs hpass
  dsimp only
  rw [tickBoundary_eq lines hs (finishPass_of_taken hpass hs.2) hs.2]
  rfl

theorem tickFinishesPass : Claims.TickFinishesPass := by
  intro lines s t hs hb h
  obtain ⟨hf, ht, hdone, -⟩ := scanPass_scannedSlots hs hb h
  rw [tickBoundary_eq lines hs hf ht.2, tickBoundary_eq lines ht hdone ht.2]

/-- Settles O9: a pass that owes nothing leaves the boundary to `newBoundary`, and one that does is finished first. -/
theorem tickBoundaryCounts : Obligations.TickBoundaryCounts := ⟨tickCounts, tickFinishesPass⟩

/-! ## The standby oscillator -/

theorem soLoss_eq {n : Nat} (lines : Lines) (hs : AtRest s) (hf : finishPass s = t) (ht : t.eng.due = .nothing)
    (hc : s.clock.source = .so ∧ s.clock.lossArmed = true ∧ Config.soLossPeriods ≤ n) :
    exec (.soLoss n lines) s = .next (newBoundary lines (t.setClock (loseSo t.clock))) := by
  show execSoLoss n lines s = _
  exact whilePowered_next hs.1 (by rw [if_pos hc, hf]) (by rw [newBoundary_due]; exact ht)

theorem qualifies_iff {n : Nat} : qualifies n = true ↔ 439 ≤ n ∧ n ≤ 537 := by
  unfold qualifies
  rw [Bool.and_eq_true]
  exact and_congr decide_eq_true_iff decide_eq_true_iff

theorem soReturn_eq {a b c d : Nat} (lines : Lines) (hs : AtRest s) (hf : finishPass s = t) (ht : t.eng.due = .nothing)
    (hsrc : s.clock.source = .rc) (hp : ∀ p ∈ [a, b, c, d], 439 ≤ p ∧ p ≤ 537) :
    exec (.soReturn a b c d lines) s =
      .next ((newBoundary lines t).setClock (gainSo (newBoundary lines t).clock)) := by
  have hq (p : Nat) (hm : p ∈ [a, b, c, d]) : qualifies p = true := qualifies_iff.2 (hp p hm)
  have hall : (qualifies a && qualifies b && qualifies c && qualifies d) = true := by
    simp [hq a, hq b, hq c, hq d]
  show execSoReturn a b c d lines s = _
  exact whilePowered_next hs.1 (by rw [if_pos ⟨hsrc, hall⟩, hf]) (by
    show (newBoundary lines t).eng.due = .nothing
    rw [newBoundary_due, ht])

/-- The Clock Unit at a loss of the standby oscillator, field by field (R130, R132, R133). -/
theorem loseSo_eq {c : Clock} (h : ClockInv c) :
    tickClock (loseSo c) =
      { tick := c.tick + 1, source := .rc, lossArmed := false, soLost := true, window := none, locked := false,
        loop := if c.loop = .off then .off else .acquiring, good := if c.loop = .off then c.good else 0,
        lockChanges := if c.locked then min 255 (c.lockChanges + 1) else c.lockChanges,
        mode := if c.mode = .fastLoop then .fastRc else c.mode,
        fallback := c.fallback || decide (c.mode = .fastLoop) } := by
  obtain ⟨hfast, hslow, hlock, -⟩ := h
  have hsat (n : Nat) : satInc Config.max8 n = min 255 (n + 1) := Nat.min_comm _ _
  by_cases hl : c.locked = true
  · have hloop : c.loop ≠ .off := by simp [hlock hl]
    simp [loseSo, clearLocked, tickClock, hl, hloop, hsat]
  · have hmode : c.mode ≠ .fastLoop := fun hm => hl (hfast.1 hm)
    by_cases hloop : c.loop = .off
    · simp [loseSo, tickClock, hl, hloop, hmode]
    · simp [loseSo, clearLocked, tickClock, hl, hloop, hmode]

theorem oscillatorLoss : Claims.OscillatorLoss := by
  intro n lines s hs hc hload hpass hsrc hn
  have harmed : s.clock.lossArmed = true := hc.2.2.2.1.2 hsrc
  dsimp only
  rw [soLoss_eq lines hs (finishPass_of_taken hpass hs.2) hs.2 ⟨hsrc, harmed, hn⟩, ← loseSo_eq hc]
  simp [newBoundary, hload, lineLevels]

theorem oscillatorReturn : Claims.OscillatorReturn := by
  intro a b c d lines s hs hload hpass hsrc hp
  have htick : tickClock s.clock = { s.clock with tick := s.clock.tick + 1 } := by simp [tickClock, hsrc]
  rw [soReturn_eq lines hs (finishPass_of_taken hpass hs.2) hs.2 hsrc hp]
  simp [newBoundary, hload, lineLevels, htick, gainSo]
  rfl

theorem oscillatorFinishesPass : Claims.OscillatorFinishesPass := by
  intro n a b c d lines s t hs hb h
  obtain ⟨hf, ht, hdone, hsource, harmed⟩ := scanPass_scannedSlots hs hb h
  refine ⟨fun hsrc ha hn => ?_, fun hsrc hp => ?_⟩
  · rw [soLoss_eq lines hs hf ht.2 ⟨hsrc, ha, hn⟩,
      soLoss_eq lines ht hdone ht.2 ⟨hsource.trans hsrc, harmed.trans ha, hn⟩]
  · rw [soReturn_eq lines hs hf ht.2 hsrc hp, soReturn_eq lines ht hdone ht.2 (hsource.trans hsrc) hp]

/-- Settles O10: each event finishes its pass and moves the tick source with a tick boundary. -/
theorem oscillatorChanges : Obligations.OscillatorChanges := ⟨oscillatorLoss, oscillatorReturn, oscillatorFinishesPass⟩

/-! ## The frequency loop -/

theorem windowError_eq (count : Nat) : windowError count = ((count : Int) - 8192).natAbs := by
  unfold windowError Config.windowExpected
  omega

theorem loopWindowEnd_eq {count : Nat} (hs : AtRest s) (hd : windowDue s = true)
    (he : endWindow count s = t) (ht : t.eng.due = .nothing) : exec (.loopWindowEnd count) s = .next t :=
  whilePowered_next (f := fun s => if windowDue s then endWindow count s else s) hs.1 (by simp [hd, he]) ht

theorem handOn_of_not {k : StepKind} {e : RunEnd} (h : waitsIn s k = false) : handOn k e s = s := by simp [handOn, h]

theorem handOnFastLoop_of_not (h : waitsIn s .clockUp = false) : handOnFastLoop s = s := by
  unfold handOnFastLoop
  split
  · exact handOn_of_not h
  · rfl

/-- LOCKED sets and FAST_RC moves to FAST_LOOP, where no CLOCK_UP waits (R132, R133). -/
theorem setLocked_of_not (hl : s.clock.locked = false) (hw : waitsIn s .clockUp = false) :
    setLocked s = s.setClock
      { s.clock with locked := true, lockChanges := min 255 (s.clock.lockChanges + 1),
                     mode := if s.clock.mode = .fastRc then .fastLoop else s.clock.mode } := by
  have hsat (n : Nat) : satInc Config.max8 n = min 255 (n + 1) := Nat.min_comm _ _
  unfold setLocked
  rw [if_neg (by simp [hl]), handOnFastLoop_of_not (by exact hw), hsat]

/-- Settles O11: each row of the table is one branch of `endWindow`. -/
theorem loopWindow : Obligations.LoopWindow := by
  intro count start s hs hc hw hloop hsrc hwin hticks
  have hd : windowDue s = true := windowDue_iff.2 ⟨hloop, hsrc, start, hwin, hticks⟩
  have hsat (n : Nat) : satInc Config.max8 n = min 255 (n + 1) := Nat.min_comm _ _
  dsimp only
  rw [← windowError_eq]
  refine ⟨fun hl he => ?_, fun hl he => ?_, fun hl hk he hg => ?_, fun hl hk he hg => ?_, fun hl hk he he' => ?_,
    fun hl hk he => ?_, fun hl he => ?_⟩
  · exact loopWindowEnd_eq hs hd (by simp [endWindow, hl, he]) hs.2
  · exact loopWindowEnd_eq hs hd (by simp [endWindow, hl, Nat.not_le.2 he]) hs.2
  · have h163 : ¬163 < windowError count := by omega
    have h40 : ¬40 < windowError count := by omega
    refine loopWindowEnd_eq hs hd ?_ hs.2
    simp [endWindow, hl, hk, h163, h40, Nat.not_le.2 hg]
  · have h163 : ¬163 < windowError count := by omega
    have h40 : ¬40 < windowError count := by omega
    refine loopWindowEnd_eq hs hd ?_ hs.2
    simp only [endWindow, hl, hk, h163, h40, State.setClock_clock, if_false, Bool.false_eq_true, hg, if_true,
      State.setClock_twice]
    exact setLocked_of_not (s := s.setClock _) rfl hw
  · have h163 : ¬163 < windowError count := by omega
    exact loopWindowEnd_eq hs hd (by simp [endWindow, hl, hk, h163, he]) hs.2
  · have h163 : ¬163 < windowError count := by omega
    exact loopWindowEnd_eq hs hd (by simp [endWindow, hl, hk, h163]) hs.2
  · refine loopWindowEnd_eq hs hd ?_ hs.2
    have hmode : s.clock.locked = false → s.clock.mode ≠ .fastLoop := fun hk hm => by
      simp [hc.1.1 hm] at hk
    by_cases hk : s.clock.locked = true
    · simp [endWindow, hl, he, loseTrack, clearLocked, hk, hsat]
    · simp [endWindow, hl, he, loseTrack, clearLocked, hk, hmode (by simpa using hk)]

/-! ## The arithmetic of a sample -/

theorem toNat_adcCode (mV : Nat) : (adcCode mV).toNat = min 1023 (mV * 1024 / 1200) := by
  unfold adcCode
  rw [BitVec.toNat_ofNat, Nat.mod_eq_of_lt (by omega)]

theorem railMv_le {code : BitVec 10} {gain : Nat} (hg : gain ≤ 4096) : railMv code gain ≤ 19181 := by
  have hcode : code.toNat ≤ 1023 := by omega
  have hmul : code.toNat * 1200 * gain ≤ 1023 * 1200 * 4096 := Nat.mul_le_mul (Nat.mul_le_mul_right _ hcode) hg
  unfold railMv
  omega

theorem railVoltage : Claims.RailVoltage := by
  refine ⟨toNat_adcCode, fun mV h => ?_, fun _ _ => rfl, fun _ _ _ => railMv_le, by decide, by decide⟩
  rw [toNat_adcCode]
  omega

theorem clampTo_range {lo hi n : Nat} (h : lo ≤ hi) : lo ≤ clampTo lo hi n ∧ clampTo lo hi n ≤ hi := by
  unfold clampTo
  split_ifs <;> omega

theorem clampTo_of_mem {lo hi n : Nat} (h : lo ≤ n ∧ n ≤ hi) : clampTo lo hi n = n := by
  unfold clampTo
  split_ifs <;> omega

theorem clampTo_of_lt {lo hi n : Nat} (h : n < lo) : clampTo lo hi n = lo := by simp [clampTo, h]

theorem clampTo_of_gt {lo hi n : Nat} (hlo : lo ≤ hi) (h : hi < n) : clampTo lo hi n = hi := by
  unfold clampTo
  split_ifs <;> omega

theorem bandClamping : Claims.BandClamping := by
  intro b
  have htol := clampTo_range (lo := 5) (hi := 200) (n := b.tolGood) (by decide)
  have hle : clampTo 5 200 b.tolGood ≤ 250 := by omega
  have hgain := clampTo_range (lo := 256) (hi := 4096) (n := b.gain) (by decide)
  have hnom := clampTo_range (lo := 100) (hi := 19000) (n := b.nominal) (by decide)
  have hfail := clampTo_range (n := b.tolFail) hle
  have hdrain := clampTo_range (lo := 10) (hi := 500) (n := b.drain) (by decide)
  refine ⟨hgain, hnom, htol, hfail, hdrain, ?_, clampTo_of_mem, clampTo_of_mem, clampTo_of_mem, clampTo_of_mem,
    clampTo_of_mem, ⟨clampTo_of_lt, clampTo_of_gt (by decide)⟩, ⟨clampTo_of_lt, clampTo_of_gt (by decide)⟩,
    ⟨clampTo_of_lt, clampTo_of_gt (by decide)⟩, ⟨clampTo_of_lt, clampTo_of_gt hle⟩,
    ⟨clampTo_of_lt, clampTo_of_gt (by decide)⟩⟩
  simp only [clampBands, clampTo_of_mem hgain, clampTo_of_mem hnom, clampTo_of_mem htol, clampTo_of_mem hfail,
    clampTo_of_mem hdrain]

/-- Settles O13: each field is moved by `clampTo`. -/
theorem railArithmetic : Obligations.RailArithmetic := ⟨railVoltage, bandClamping⟩

end Sys2Proof.Machine

/-! PROOFS. The chain of one event in closed form: how a step's end leads on to a halt or to a next step that waits. -/

namespace Sys2Proof.Machine

variable {s t u : State} {k : FailKind}

/-! ## Links of the chain -/

/-- The chain has come to rest after as many links as it may have. -/
theorem chainN_enough (n m : Nat) (hc : Calm s) (hn : links s ≤ n) (hm : links s ≤ m) : chainN n s = chainN m s := by
  induction n generalizing s m with
  | zero => exact (chainN_of_rest m (s := s) (chainN_rest 0 hc hn)).symm
  | succ n ih =>
    by_cases hd : s.eng.due = .nothing
    · rw [chainN_of_rest _ hd, chainN_of_rest _ hd]
    · have hlt := links_chainStep hc hd
      obtain ⟨m, rfl⟩ : ∃ m', m = m' + 1 := ⟨m - 1, by have := links_pos hd; omega⟩
      rw [chainN_succ n hd, chainN_succ m hd]
      exact ih m ((keeps_chainStep (.refl s)).calm hc) (by omega) (by omega)

/-- The chain goes on from its first link. -/
theorem runChain_chainStep (hc : Calm s) : runChain s = runChain (chainStep s) := by
  by_cases hd : s.eng.due = .nothing
  · rw [chainStep, hd]
  · have hlt := links_chainStep hc hd
    have hle := links_le s
    unfold runChain
    rw [chainN_enough Config.chainFuel (links s - 1 + 1) hc hle (by omega), chainN_succ _ hd]
    exact chainN_enough _ _ ((keeps_chainStep (.refl s)).calm hc) (by omega) (links_le _)

/-- A run that is due begins. -/
theorem runChain_beginRun {b : Bool} (hd : s.eng.due = .beginRun b) (hr : channelRuns s = true) :
    runChain s = runChain (beginRun b s) := by
  have hc : Calm s := fun e he => by rw [hd] at he; cases he
  rw [runChain_chainStep hc, chainStep, hd]
  simp [hr]

theorem runKind_of_delay {r : StepRec} (s : State) (h : r.kind = .delay) : runKind r s = beginDelay r s := by
  unfold runKind
  rw [h]

theorem duration_eq_zero {x : TimeField} : duration x = 0 ↔ x.value = 0 := by
  unfold duration
  rw [Nat.mul_eq_zero, Fin.ext_iff]
  refine or_iff_left ?_
  cases x.unit <;> simp [unitTicks]

theorem runKind_of_longDelay {r : StepRec} (s : State) (h : LongDelay r) : runKind r s = awaitStep s := by
  rw [runKind_of_delay s h.1, beginDelay, if_neg (mt duration_eq_zero.1 h.2)]

theorem satInc_max16 (n : Nat) : satInc Config.max16 n = min 65535 (n + 1) := Nat.min_comm _ _
theorem satInc_max8 (n : Nat) : satInc Config.max8 n = min 255 (n + 1) := Nat.min_comm _ _

/-- The report with one run more (R52). -/
def oneMore (r : Report) : Report := { r with steps := min 65535 (r.steps + 1) }

theorem enterRun_normal (b : Bool) (hu : s.eng.urg.running = false) :
    enterRun b s = s.setEng
      { s.eng with
        cur := peek s.eng.steps s.eng.norm.idx, wait := .none, due := .nothing, inflight := oneMore s.eng.inflight,
        norm := { s.eng.norm with
          ran := s.eng.norm.idx, start := s.clock.tick, rerunDue := false,
          retries := if b then s.eng.norm.retries else 0 } } := by
  unfold enterRun
  simp [onReport, hu, runIndex, oneMore, satInc_max16]

theorem enterRun_urgent (b : Bool) (hu : s.eng.urg.running = true) :
    enterRun b s = s.setEng
      { s.eng with
        cur := peek s.eng.steps s.eng.urg.idx, wait := .none, due := .nothing, inflight := oneMore s.eng.inflight,
        urg := { s.eng.urg with ran := s.eng.urg.idx, start := s.clock.tick } } := by
  unfold enterRun
  simp [onReport, hu, runIndex, oneMore, satInc_max16]

theorem runChain_enterRun {b : Bool} (hd : s.eng.due = .beginRun b) (hr : channelRuns s = true)
    (hl : LongDelay (enterRun b s).eng.cur) : runChain s = awaitStep (enterRun b s) := by
  rw [runChain_beginRun hd hr, beginRun, runKind_of_longDelay _ hl]
  exact runChain_of_rest (enterRun_rest b s).2

/-- A chain of the Normal channel ends at a step that waits (R25, R26). -/
theorem runChain_normal {b : Bool} (hd : s.eng.due = .beginRun b) (hn : s.eng.norm.st = .running)
    (hu : s.eng.urg.running = false) (hl : LongDelay (peek s.eng.steps s.eng.norm.idx)) :
    runChain s = s.setEng
      { s.eng with
        cur := peek s.eng.steps s.eng.norm.idx, wait := .step, due := .nothing, inflight := oneMore s.eng.inflight,
        norm := { s.eng.norm with
          ran := s.eng.norm.idx, start := s.clock.tick, rerunDue := false,
          retries := if b then s.eng.norm.retries else 0 } } := by
  rw [runChain_enterRun hd (by simp [channelRuns, hn]) (by rw [enterRun_normal b hu]; exact hl), enterRun_normal b hu]
  rfl

/-- A chain of the Urgent channel ends at a step that waits (R25, R26). -/
theorem runChain_urgent {b : Bool} (hd : s.eng.due = .beginRun b) (hu : s.eng.urg.running = true)
    (hl : LongDelay (peek s.eng.steps s.eng.urg.idx)) :
    runChain s = s.setEng
      { s.eng with
        cur := peek s.eng.steps s.eng.urg.idx, wait := .step, due := .nothing, inflight := oneMore s.eng.inflight,
        urg := { s.eng.urg with ran := s.eng.urg.idx, start := s.clock.tick } } := by
  rw [runChain_enterRun hd (by simp [channelRuns, hu]) (by rw [enterRun_urgent b hu]; exact hl), enterRun_urgent b hu]
  rfl

/-! ## The end of a run -/

/-- The engine once a run has ended: nothing waits and nothing is due. -/
def ended (s : State) : State := s.setEng { s.eng with wait := .none, due := .nothing }

theorem runChain_ended_normal {e : RunEnd} (hn : t.eng.norm.st = .running) (hu : t.eng.urg.running = false) :
    runChain (endRunWith e t) = runChain (endNorm e (ended t)) := by
  rw [runChain_chainStep fun _ _ => rfl]
  simp [chainStep, endRunWith, channelRuns, hn, hu, endRun, ended]

theorem runChain_ended_urgent {e : RunEnd} (hu : t.eng.urg.running = true) :
    runChain (endRunWith e t) = runChain (endUrg e (ended t)) := by
  rw [runChain_chainStep fun _ _ => rfl]
  simp [chainStep, endRunWith, channelRuns, hu, endRun, ended]

/-! ## The Normal channel leads on -/

/-- The Normal channel alone runs, below index 255. -/
abbrev NormalBelow (s : State) : Prop :=
  s.eng.norm.st = .running ∧ s.eng.urg.running = false ∧ s.eng.norm.idx.val < 255

theorem succ_eq_ofNat {i : Fin 256} (h : i.val < 255) : (⟨i.val + 1, by omega⟩ : Fin 256) = Fin.ofNat 256 (i.val + 1) :=
  Fin.ext (Nat.mod_eq_of_lt (by omega)).symm

/-- The commit of a step's end, in one form for the step that commits and the step that does not (R14). -/
def committed (s : State) : State :=
  (s.setEng { s.eng with inflight := { s.eng.inflight with committed := s.eng.inflight.committed || commitsHere s } }).setPsc
    { s.psc with commit := s.psc.commit || commitsHere s }

theorem committed_eq (s : State) : (if commitsHere s then commitNow s else s) = committed s := by
  unfold committed
  cases commitsHere s
  · rw [if_neg Bool.false_ne_true, Bool.or_false, Bool.or_false]
    rfl
  · rw [if_pos rfl, Bool.or_true, Bool.or_true]
    rfl

theorem leadOn_eq (hb : NormalBelow s) :
    leadOn s = haltPoint false ((committed s).setEng
      { (committed s).eng with norm := { s.eng.norm with idx := nextIndex s } }) := by
  obtain ⟨-, -, hi⟩ := hb
  have hne : s.eng.norm.idx.val ≠ 255 := by omega
  unfold leadOn
  rw [dif_neg hne, committed_eq, nextIndex, ← succ_eq_ofNat hi]
  rfl

/-- A step's end halts the channel in step mode, or with a halt pending (R48). -/
theorem leadOn_halts (hb : NormalBelow s) (hh : (s.eng.norm.haltPending || s.eng.stepMode) = true) :
    leadOn (ended s) = haltedAfter s := by
  rw [leadOn_eq (s := ended s) hb]
  unfold haltPoint
  rw [if_pos (by exact hh)]
  rfl

/-- A step's end leads on to a next step that waits (R25). -/
theorem leadOn_leads (hb : NormalBelow s) (hp : s.eng.norm.haltPending = false) (hm : s.eng.stepMode = false)
    (hl : LongDelay (peek s.eng.steps (nextIndex s))) : runChain (leadOn (ended s)) = normalOn s := by
  obtain ⟨hn, hu, hi⟩ := hb
  rw [leadOn_eq (s := ended s) ⟨hn, hu, hi⟩]
  unfold haltPoint
  rw [if_neg (by simp [hp, hm, committed, ended])]
  exact runChain_normal (b := false) rfl hn hu hl

/-- A step run of the Normal channel that has succeeded, no END, leads on (R25). -/
theorem endNorm_ok (hk : s.eng.cur.kind ≠ .endList) : endNorm .ok (ended s) = leadOn (ended s) := if_neg hk

/-- The state once a failure has been recorded and counted, under CONTINUE (R43). -/
def warnedOf (k : FailKind) (s : State) : State :=
  s.setEng { s.eng with inflight := warned s.eng.norm.idx k s.eng.inflight }

theorem endNorm_failed (ha : s.eng.cur.action = .goOn) :
    endNorm (.failed k) (ended s) = leadOn (ended (warnedOf k s)) := by
  have haction : (onReport (recordFailure (ended s).eng.norm.idx k) (ended s)).eng.cur.action = .goOn := ha
  simp only [endNorm, failNorm, haction]
  simp [onReport, warn, recordFailure, ended, warnedOf, warned, satInc_max8]
  rfl

section
variable (hb : NormalBelow s)
include hb

theorem runChain_ok_halts (hk : s.eng.cur.kind ≠ .endList)
    (hh : (s.eng.norm.haltPending || s.eng.stepMode) = true) : runChain (endRunWith .ok s) = haltedAfter s := by
  rw [runChain_ended_normal hb.1 hb.2.1, endNorm_ok hk, leadOn_halts hb hh]
  exact runChain_of_rest rfl

theorem runChain_ok_leads (hk : s.eng.cur.kind ≠ .endList) (hp : s.eng.norm.haltPending = false)
    (hm : s.eng.stepMode = false) (hl : LongDelay (peek s.eng.steps (nextIndex s))) :
    runChain (endRunWith .ok s) = normalOn s := by
  rw [runChain_ended_normal hb.1 hb.2.1, endNorm_ok hk, leadOn_leads hb hp hm hl]

theorem runChain_failed_halts (ha : s.eng.cur.action = .goOn)
    (hh : (s.eng.norm.haltPending || s.eng.stepMode) = true) :
    runChain (endRunWith (.failed k) s) = haltedAfter (warnedOf k s) := by
  rw [runChain_ended_normal hb.1 hb.2.1, endNorm_failed ha, leadOn_halts (s := warnedOf k s) hb hh]
  exact runChain_of_rest rfl

theorem runChain_failed_leads (ha : s.eng.cur.action = .goOn) (hp : s.eng.norm.haltPending = false)
    (hm : s.eng.stepMode = false) (hl : LongDelay (peek s.eng.steps (nextIndex s))) :
    runChain (endRunWith (.failed k) s) = normalOn (warnedOf k s) := by
  rw [runChain_ended_normal hb.1 hb.2.1, endNorm_failed ha, leadOn_leads (s := warnedOf k s) hb hp hm hl]

end

/-! ## The Urgent channel leads on -/

/-- The Urgent channel runs below index 255, and the step after is a DELAY. -/
abbrev UrgentBelow (s : State) : Prop :=
  s.eng.urg.running = true ∧ s.eng.urg.idx.val < 255 ∧
    LongDelay (peek s.eng.steps (Fin.ofNat 256 (s.eng.urg.idx.val + 1)))

theorem leadOnUrg_leads (hb : UrgentBelow s) : runChain (leadOnUrg (ended s)) = urgentOn s := by
  obtain ⟨hu, hi, hl⟩ := hb
  have hne : (ended s).eng.urg.idx.val ≠ 255 := by
    show s.eng.urg.idx.val ≠ 255
    omega
  have hidx : (⟨(ended s).eng.urg.idx.val + 1, by omega⟩ : Fin 256) = Fin.ofNat 256 (s.eng.urg.idx.val + 1) :=
    succ_eq_ofNat hi
  unfold leadOnUrg
  rw [dif_neg hne, hidx]
  exact runChain_urgent (b := false) rfl hu hl

theorem runChain_urgent_ok (hb : UrgentBelow s) (hk : s.eng.cur.kind ≠ .endList) :
    runChain (endRunWith .ok s) = urgentOn s := by
  rw [runChain_ended_urgent hb.1, endUrg, if_neg (by exact hk), leadOnUrg_leads hb]

/-- The state once an urgent step failure has been recorded and counted (R46). -/
def urgentWarned (k : FailKind) (s : State) : State :=
  (s.setEng { s.eng with inflight := warned s.eng.urg.idx k s.eng.inflight }).setFault
    { s.fault with urgentFails := min 255 (s.fault.urgentFails + 1) }

theorem failUrg_eq (k : FailKind) (s : State) : failUrg k (ended s) = leadOnUrg (ended (urgentWarned k s)) := by
  simp [failUrg, onReport, warn, recordFailure, ended, urgentWarned, warned, satInc_max8]
  rfl

theorem runChain_urgent_failed (hb : UrgentBelow s) : runChain (endRunWith (.failed k) s) = urgentNext k s := by
  rw [runChain_ended_urgent hb.1, endUrg, failUrg_eq, leadOnUrg_leads (s := urgentWarned k s) hb]
  rfl

end Sys2Proof.Machine

/-! PROOFS. The timer of a step: DELAY, and what follows an expiry in either channel. -/

namespace Sys2Proof.Machine

variable {s t u : State} {k : StepKind}

/-! ## DELAY -/

theorem beginDelay_of_zero {r : StepRec} (h : duration r.time = 0) : beginDelay r s = succeed s := if_pos h
theorem beginDelay_of_wait {r : StepRec} (h : duration r.time ≠ 0) : beginDelay r s = awaitStep s := if_neg h

theorem stepTimerDue_iff : stepTimerDue s = true ↔
    s.eng.wait = .step ∧ channelRuns s = true ∧ isTimed s.eng.cur.kind = true ∧
      elapsed s (runStart s) = duration s.eng.cur.time := by
  simp [stepTimerDue, and_assoc]

/-- The row of a timer that is due carries its expiry out, with the chain that follows (R26). -/
theorem exec_stepTimerExpiry (hs : AtRest s) (hdue : stepTimerDue s = true) :
    exec .stepTimerExpiry s = .next (runChain (stepExpires s)) := by
  show execStepTimerExpiry s = _
  unfold execStepTimerExpiry
  rw [whilePowered_on _ hs.1, if_pos hdue]

theorem stepExpires_delay (h : s.eng.cur.kind = .delay) : stepExpires s = succeed s := by
  unfold stepExpires
  rw [h]

/-- Settles O26: by the run of a DELAY, by its expiry row, and by the kinds that a cut acts on. -/
theorem delaySteps : Obligations.DelaySteps := by
  refine ⟨fun r s hk => ?_, fun s hs hw he => ?_, fun s hs hw he => ?_, fun s hw => ?_⟩
  · rw [runKind_of_delay s hk]
    exact ⟨beginDelay_of_zero, beginDelay_of_wait⟩
  · obtain ⟨hwait, hkind, hrun⟩ := waitsIn_iff.1 hw
    rw [exec_stepTimerExpiry hs (stepTimerDue_iff.2 ⟨hwait, hrun, by simp [hkind, isTimed], he⟩),
      stepExpires_delay hkind]
  · have hnot : stepTimerDue s = false := by simp [stepTimerDue, he]
    show execStepTimerExpiry s = _
    exact whilePowered_self hs (by simp [hnot])
  · obtain ⟨-, hkind, -⟩ := waitsIn_iff.1 hw
    unfold cutStep
    simp [hkind]

/-! ## Expiry by kind -/

theorem stepExpires_pulse (h : s.eng.cur.kind = .pulse) : stepExpires s = endRunWith .ok (pulsed s) := by
  unfold stepExpires
  rw [h]
  rfl

theorem stepExpires_sendWire (h : s.eng.cur.kind = .sendWire) :
    stepExpires s = endRunWith (.failed .timeout) (withdrawSendWire s) := by
  unfold stepExpires
  rw [h]
  rfl

/-- The waits that an expiry only fails (R26). -/
abbrev onlyTimesOut (k : StepKind) : Prop := k ∈ [StepKind.waitGood, .waitOff, .waitLine, .release, .clockUp]

theorem onlyTimesOut.ne (h : onlyTimesOut k) : k ≠ .endList ∧ k ≠ .delay ∧ isTimed k = true := by
  cases k <;> simp_all [isTimed]

theorem stepExpires_timeout (h : onlyTimesOut s.eng.cur.kind) : stepExpires s = endRunWith (.failed .timeout) s := by
  unfold stepExpires
  generalize s.eng.cur.kind = k at h
  cases k <;> first | rfl | simp at h

theorem stepTimerDue_normal (hw : s.eng.wait = .step) (hn : s.eng.norm.st = .running) (hu : s.eng.urg.running = false)
    (hk : isTimed s.eng.cur.kind = true) (he : elapsed s s.eng.norm.start = duration s.eng.cur.time) :
    stepTimerDue s = true :=
  stepTimerDue_iff.2 ⟨hw, by simp [channelRuns, hn], hk, by simpa [runStart, hu] using he⟩

theorem stepTimerDue_urgent (hw : s.eng.wait = .step) (hu : s.eng.urg.running = true)
    (hk : isTimed s.eng.cur.kind = true) (he : elapsed s s.eng.urg.start = duration s.eng.cur.time) :
    stepTimerDue s = true :=
  stepTimerDue_iff.2 ⟨hw, by simp [channelRuns, hu], hk, by simpa [runStart, hu] using he⟩

/-! ## Expiry in the Normal channel -/

theorem SteppingIn.kind (h : SteppingIn s k) : s.eng.cur.kind = k :=
  let ⟨_, _, _, _, hk, _⟩ := h
  hk

theorem SteppingIn.below (h : SteppingIn s k) : NormalBelow s :=
  let ⟨_, hn, hu, _, _, _, hi, _⟩ := h
  ⟨hn, hu, hi⟩

theorem SteppingIn.halts (h : SteppingIn s k) : (s.eng.norm.haltPending || s.eng.stepMode) = true := by
  obtain ⟨-, -, -, -, -, hm, -⟩ := h
  simp [hm]

theorem SteppingIn.expires (h : SteppingIn s k) (hk : isTimed k = true)
    (he : elapsed s s.eng.norm.start = duration s.eng.cur.time) :
    exec .stepTimerExpiry s = .next (runChain (stepExpires s)) := by
  obtain ⟨hs, hn, hu, hw, hkind, -⟩ := h
  exact exec_stepTimerExpiry hs (stepTimerDue_normal hw hn hu (hkind ▸ hk) he)

/-- A step that succeeds in step mode halts the channel (R48). -/
theorem SteppingIn.succeeds (h : SteppingIn s k) (hk : k ≠ .endList) (heng : t.eng = s.eng) :
    runChain (endRunWith .ok t) = haltedAfter t := by
  have hb := h.below
  have hh := h.halts
  obtain ⟨-, -, -, -, hkind, -⟩ := h
  exact runChain_ok_halts (by simpa only [NormalBelow, heng] using hb) (by rw [heng, hkind]; exact hk)
    (by simpa only [heng] using hh)

theorem expirySucceeds : Claims.ExpirySucceeds := by
  intro s he
  refine ⟨fun h => ?_, fun h => ?_⟩
  · rw [h.expires rfl he, stepExpires_delay h.kind]
    exact congrArg _ (h.succeeds (by decide) rfl)
  · rw [h.expires rfl he, stepExpires_pulse h.kind]
    exact congrArg _ (h.succeeds (t := pulsed s) (by decide) rfl)

theorem timeoutFailsStep : Claims.TimeoutFailsStep := by
  intro k s h he ha
  refine ⟨fun hk => ?_, fun hk => ?_⟩
  · have hkind := h.kind
    obtain ⟨-, -, htimed⟩ := onlyTimesOut.ne hk
    rw [h.expires htimed he, stepExpires_timeout (hkind ▸ hk), runChain_failed_halts h.below ha h.halts]
    rfl
  · subst hk
    rw [h.expires rfl he, stepExpires_sendWire h.kind,
      runChain_failed_halts (s := withdrawSendWire s) h.below ha h.halts]
    rfl

theorem kind_of_runningIn (h : RunningIn s k) : s.eng.cur.kind = k :=
  let ⟨_, _, _, _, hk, _⟩ := h
  hk

theorem below_of_runningIn (h : RunningIn s k) : NormalBelow s :=
  let ⟨_, hn, hu, _, _, _, hi, _⟩ := h
  ⟨hn, hu, hi⟩

theorem expires_of_runningIn (h : RunningIn s k) (hk : isTimed k = true)
    (he : elapsed s s.eng.norm.start = duration s.eng.cur.time) :
    exec .stepTimerExpiry s = .next (runChain (stepExpires s)) := by
  obtain ⟨hs, hn, hu, hw, hkind, -⟩ := h
  exact exec_stepTimerExpiry hs (stepTimerDue_normal hw hn hu (hkind ▸ hk) he)

/-- The state a step's end leads to outside step mode: halted with a halt pending, else at the next step (R25, R48). -/
theorem leads_of_runningIn (h : RunningIn s k) (hk : k ≠ .endList) (heng : t.eng = s.eng) :
    runChain (endRunWith .ok t) = if s.eng.norm.haltPending then haltedAfter t else normalOn t := by
  have hb : NormalBelow t := by simpa only [NormalBelow, heng] using below_of_runningIn h
  obtain ⟨-, -, -, -, hkind, hm, -, -, hl⟩ := h
  have hk' : t.eng.cur.kind ≠ .endList := by rwa [heng, hkind]
  split
  next hp => exact runChain_ok_halts hb hk' (by simp [heng, hp])
  next hp => exact runChain_ok_leads hb hk' (by simpa [heng] using hp) (by simp [heng, hm]) (by simpa [nextIndex, heng] using hl)

theorem fails_of_runningIn {f : FailKind} (h : RunningIn s k) (ha : s.eng.cur.action = .goOn) :
    runChain (endRunWith (.failed f) s) =
      if s.eng.norm.haltPending then haltedAfter (warnedOf f s) else normalOn (warnedOf f s) := by
  have hb := below_of_runningIn h
  obtain ⟨-, -, -, -, -, hm, -, -, hl⟩ := h
  split
  next hp => exact runChain_failed_halts hb ha (by simp [hp])
  next hp => exact runChain_failed_leads hb ha (by simpa using hp) hm hl

theorem expiryLeadsOn : Claims.ExpiryLeadsOn := by
  intro k s h he
  have hkind := kind_of_runningIn h
  refine ⟨fun hk => ?_, fun hk => ?_, fun hk ha => ?_⟩
  · subst hk
    rw [expires_of_runningIn h rfl he, stepExpires_delay hkind]
    exact congrArg _ (leads_of_runningIn h (by decide) rfl)
  · subst hk
    rw [expires_of_runningIn h rfl he, stepExpires_pulse hkind]
    exact congrArg _ (leads_of_runningIn (t := pulsed s) h (by decide) rfl)
  · obtain ⟨-, -, htimed⟩ := onlyTimesOut.ne hk
    rw [expires_of_runningIn h htimed he, stepExpires_timeout (hkind ▸ hk), fails_of_runningIn h ha]
    rfl

/-! ## Expiry in the Urgent channel -/

theorem kind_of_urgentIn (h : UrgentIn s k) : s.eng.cur.kind = k :=
  let ⟨_, _, _, hk, _⟩ := h
  hk

theorem below_of_urgentIn (h : UrgentIn s k) : UrgentBelow s :=
  let ⟨_, hu, _, _, hi, hl⟩ := h
  ⟨hu, hi, hl⟩

theorem expires_of_urgentIn (h : UrgentIn s k) (hk : isTimed k = true)
    (he : elapsed s s.eng.urg.start = duration s.eng.cur.time) :
    exec .stepTimerExpiry s = .next (runChain (stepExpires s)) := by
  obtain ⟨hs, hu, hw, hkind, -⟩ := h
  exact exec_stepTimerExpiry hs (stepTimerDue_urgent hw hu (hkind ▸ hk) he)

theorem urgentLeadsOn : Claims.UrgentLeadsOn := by
  intro k s h he
  have hkind := kind_of_urgentIn h
  refine ⟨fun hk => ?_, fun hk => ?_⟩
  · subst hk
    rw [expires_of_urgentIn h rfl he, stepExpires_delay hkind]
    exact congrArg _ (runChain_urgent_ok (below_of_urgentIn h) (by simp [hkind]))
  · subst hk
    rw [expires_of_urgentIn h rfl he, stepExpires_pulse hkind]
    exact congrArg _ (runChain_urgent_ok (s := pulsed s) (below_of_urgentIn h) (by
      show s.eng.cur.kind ≠ _
      simp [hkind]))

/-- Settles O29: the expiry by kind, then the course of the channel in step mode, outside it, and of the Urgent one. -/
theorem expiryEndsStep : Obligations.ExpiryEndsStep := ⟨expirySucceeds, timeoutFailsStep, expiryLeadsOn, urgentLeadsOn⟩

theorem urgentFailures : Claims.UrgentFailures := by
  intro k s h hk he
  have hkind := kind_of_urgentIn h
  obtain ⟨-, -, htimed⟩ := onlyTimesOut.ne hk
  rw [expires_of_urgentIn h htimed he, stepExpires_timeout (hkind ▸ hk), runChain_urgent_failed (below_of_urgentIn h)]

end Sys2Proof.Machine

/-! PROOFS. Request events: what each does by PSC state, with the chain it sets going. -/

namespace Sys2Proof.Machine

variable {s t u : State} {l q : Level}

/-! ## What an offer of slots says to the engine -/

/-- Of the engine, only the wait and what is due may differ. -/
def OnlyWait (s t : State) : Prop := t.eng = { s.eng with wait := t.eng.wait, due := t.eng.due }

theorem OnlyWait.of_eng (h : t.eng = s.eng) : OnlyWait s t := by rw [OnlyWait, h]
theorem OnlyWait.trans (h : OnlyWait s t) (g : OnlyWait t u) : OnlyWait s u := by
  unfold OnlyWait at *
  rw [g, h]

theorem OnlyWait.inflight (h : OnlyWait s t) : t.eng.inflight = s.eng.inflight := by rw [h]
theorem OnlyWait.last (h : OnlyWait s t) : t.eng.last = s.eng.last := by rw [h]

theorem onlyWait_handOn (k : StepKind) (e : RunEnd) (s : State) : OnlyWait s (handOn k e s) := by
  unfold handOn
  split <;> rfl

theorem onlyWait_handOnDrained (s : State) : OnlyWait s (handOnDrained s) := by
  unfold handOnDrained
  (repeat' split) <;> rfl

theorem onlyWait_takeDrain (p : Port) (s : State) : OnlyWait s (takeDrain p s) := by
  unfold takeDrain
  dsimp only
  split
  · rfl
  · refine .trans (.of_eng ?_) (onlyWait_handOnDrained _)
    simp

theorem onlyWait_takeOldest (p : Port) (s : State) : OnlyWait s (takeOldest p s) := by
  unfold takeOldest
  split
  · rfl
  · exact .of_eng (by simp)
  · exact .of_eng (by simp)
  · exact .trans (.of_eng (by simp)) (onlyWait_takeDrain _ _)
  · exact .trans (.of_eng (by simp)) (onlyWait_handOn _ _ _)

theorem onlyWait_pump (s : State) : OnlyWait s (pump s) := by
  unfold pump
  generalize 2 * Config.txSlots = n
  induction n generalizing s with
  | zero => rfl
  | succ n ih =>
    simp only [pumpN]
    split
    · exact (onlyWait_takeOldest _ _).trans (ih _)
    · split
      · exact (onlyWait_takeOldest _ _).trans (ih _)
      · rfl

theorem onlyWait_createInternal (p : Port) (f : Internal) (s : State) : OnlyWait s (createInternal p f s) :=
  .trans (.of_eng (by simp)) (onlyWait_pump _)

theorem onlyWait_sendOffNotice (b : Bool) (s : State) : OnlyWait s (sendOffNotice b s) := by
  unfold sendOffNotice
  dsimp only
  split
  · exact .trans (.of_eng (by simp)) (onlyWait_createInternal _ _ _)
  · rfl

theorem onlyWait_liftHold (s : State) : OnlyWait s (liftHold s) := by
  unfold liftHold
  split
  · exact .trans (.of_eng (by simp)) (onlyWait_pump _)
  · rfl

/-! ## The off-notice wire -/

/-- The off-notice is created at a Hub Port where no frame waits (R19, R20, R125). -/
theorem sendOffNotice_eq (b : Bool) (h : SlotsOffered s) (hh : s.hub.waiting = []) :
    sendOffNotice b s = offNoticed b s := by
  unfold sendOffNotice offNoticed
  dsimp only
  by_cases hp : s.psc.policy0.offNotice.present = true
  · have hf : sentAs (.wires [{ wire := s.psc.policy0.offNotice.value, level := b }]) =
        some (wireFrame 0 [{ wire := s.psc.policy0.offNotice.value, level := b }]) := rfl
    rw [if_pos hp, if_neg (by simp [hp]),
      createInternal_eq (s := setLevel _ b s) hf (slotsOffered_of_same h rfl rfl rfl rfl)]
    unfold created
    simp only [setLevel, State.setWire_lrst, link_hub, State.setWire_hub, hh, List.nil_append]
    split
    · rfl
    · split
      · cases b <;> rfl
      · rfl
  · rw [if_neg hp, if_pos (by simpa using hp)]

theorem openGate_eq (h : SlotsOffered s) (hh : s.hub.waiting = []) :
    openGate s = offNoticed false (s.setPsc { s.psc with gateClosed := false }) :=
  sendOffNotice_eq false (slotsOffered_of_same h rfl rfl rfl rfl) hh

/-! ## A level state -/

section
variable (hg : s.psc.gateClosed = false)
include hg

theorem requestInLevel_same : requestInLevel l l s = s := by simp [requestInLevel, hg]

theorem requestInLevel_latched (hne : q ≠ l) (hq : q = .working) (hl : s.psc.latch = true) :
    requestInLevel l q s = refuse l q .latched s := by
  unfold requestInLevel
  rw [if_neg (by simp [hg]), if_neg hne, if_pos ⟨hq, hl⟩]

theorem requestInLevel_unsupported (hne : q ≠ l) (hl : ¬(q = .working ∧ s.psc.latch = true))
    (hp : (peek s.psc.trans (entryIndex l q)).present = false) :
    requestInLevel l q s = (refuse l q .unsupported s).setPsc { s.psc with unsupported := true } := by
  unfold requestInLevel
  rw [if_neg (by simp [hg]), if_neg hne, if_neg hl, if_neg (by simp [hp])]
  rfl

theorem requestInLevel_starts (hne : q ≠ l) (hl : ¬(q = .working ∧ s.psc.latch = true))
    (hp : (peek s.psc.trans (entryIndex l q)).present = true) :
    requestInLevel l q s = startTransition l q s := by
  unfold requestInLevel
  rw [if_neg (by simp [hg]), if_neg hne, if_neg hl, if_pos hp]

end

theorem requestInLevel_closed (l : Level) (hg : s.psc.gateClosed = true) (hq : q ≠ .softOff) :
    requestInLevel l q s = s.setPsc { s.psc with slot := none } := by simp [requestInLevel, hg, hq]

theorem requestInLevel_opens (l : Level) (hg : s.psc.gateClosed = true) :
    requestInLevel l .softOff s = openGate s := by simp [requestInLevel, hg]

theorem levelRequest : Claims.LevelRequest := by
  intro l q s hstate
  dsimp only
  rw [requestEvent_levelState l q s hstate]
  refine ⟨fun hg hq => requestInLevel_closed l hg hq, fun hg hq => ?_, fun hg hq => ?_, fun hg hne hq hl => ?_,
    fun hg hne hl hp => ?_, fun hg hne hl hp => ?_⟩
  · subst hq
    rw [requestInLevel_opens l hg]
    have hwait : OnlyWait (s.setPsc { s.psc with gateClosed := false }) (openGate s) := onlyWait_sendOffNotice _ _
    exact ⟨by simp [openGate], hwait.inflight, hwait.last⟩
  · subst hq
    exact requestInLevel_same hg
  · rw [requestInLevel_latched hg hne hq hl]
    rfl
  · rw [requestInLevel_unsupported hg hne hl hp]
    rfl
  · rw [requestInLevel_starts hg hne hl hp]
    rfl

theorem gateOpens : Claims.GateOpens := by
  intro l s hstate hg hh hb hk
  rw [requestEvent_levelState l _ s hstate, requestInLevel_opens l hg]
  exact openGate_eq (.inr ⟨hk, .inl hh, .inl hb⟩) hh

/-- Settles O37: the branches of a request event in a level state, and the gate's opening with no frame waiting. -/
theorem requestInLevelState : Obligations.RequestInLevelState := ⟨levelRequest, gateOpens⟩

/-! ## Outside the level states -/

theorem requestEvent_transit (q : Level) (h : s.psc.state = .transit) : requestEvent q s = requestInTransit q s := by
  unfold requestEvent
  rw [h]

theorem requestEvent_loading (q : Level) (h : s.psc.state = .loading) : requestEvent q s = s := by
  unfold requestEvent
  rw [h]

/-- In BACKOUT, URGENT and HALTED the slot takes the level (R12). -/
theorem requestEvent_slot (q : Level) (h : s.psc.state = .backout ∨ s.psc.state = .urgent ∨ s.psc.state = .halted) :
    requestEvent q s = s.setPsc { s.psc with slot := some q } := by
  unfold requestEvent
  obtain h | h | h := h <;> rw [h]

theorem requestInTransit_target (s : State) : requestInTransit s.psc.target s = s.setPsc { s.psc with slot := none } :=
  if_pos rfl

theorem requestInTransit_back (hne : q ≠ s.psc.target) (hb : MayBackOut s q) : requestInTransit q s = backOut s := by
  unfold requestInTransit
  rw [if_neg hne]
  exact if_pos hb

theorem requestInTransit_slot (hne : q ≠ s.psc.target) (hb : ¬MayBackOut s q) :
    requestInTransit q s = s.setPsc { s.psc with slot := some q } := by
  unfold requestInTransit
  rw [if_neg hne]
  exact if_neg hb

/-- Settles O38: the PSC states outside the level states, and in TRANSIT the branches of `requestInTransit`. -/
theorem requestOutsideLevelState : Obligations.RequestOutsideLevelState := by
  intro q s
  refine ⟨requestEvent_loading q, requestEvent_slot q, fun h hq => ?_, fun h hq hb => ?_, fun h hq hb => ?_⟩
  · subst hq
    exact (requestEvent_transit _ h).trans (requestInTransit_target s)
  · exact (requestEvent_transit _ h).trans (requestInTransit_slot hq hb)
  · dsimp only
    rw [requestEvent_transit _ h, requestInTransit_back hq hb]
    simp [backOut, startNorm, cutStep_eng]

/-! ## A request event with the chain it sets going -/

/-- A step that waits is neither a PULSE nor a SEND_WIRE: a cut only ends it (R47). -/
theorem cutStep_plain (h : s.eng.wait = .none ∨ s.eng.cur.kind ≠ .pulse ∧ s.eng.cur.kind ≠ .sendWire) :
    cutStep s = ended s := by
  unfold cutStep ended
  obtain h | ⟨hp, hw⟩ := h
  · simp [h]
  · split
    · split
      next hk => exact absurd hk hp
      next hk => exact absurd hk hw
      · rfl
    · rfl

/-- A transition whose main list begins with a DELAY waits in it (R9, R25). -/
theorem runChain_startTransition (hu : s.eng.urg.running = false)
    (hl : LongDelay (peek s.eng.steps (peek s.psc.trans (entryIndex l q)).mainStart)) :
    runChain (startTransition l q s) = begun l q s :=
  runChain_normal (b := false) rfl rfl hu hl

/-- Back-out whose list begins with a DELAY waits in it (R11, R25). -/
theorem runChain_backOut (hu : s.eng.urg.running = false)
    (hc : s.eng.wait = .none ∨ s.eng.cur.kind ≠ .pulse ∧ s.eng.cur.kind ≠ .sendWire)
    (hl : LongDelay (peek s.eng.steps (peek s.psc.trans (entryIndex s.psc.current s.psc.target)).backout.value)) :
    runChain (backOut s) = backedOut s := by
  unfold backOut
  rw [cutStep_plain hc]
  exact runChain_normal (b := false) rfl rfl hu hl

/-- A request event leads, with the chain it sets going, to what the rules give (R7 to R12). -/
theorem requestTaken (q : Level) (hd : s.eng.due = .nothing) :
    RequestTaken q s fun t => runChain (requestEvent q s) = t := by
  refine ⟨?_, fun h hq => ?_, fun h hq hb hu hc hl => ?_, fun l h => ⟨fun hg hq => ?_, fun hg hq => ?_, fun hg hne hq hl => ?_,
    fun hg hne hl hp => ?_, fun hg hne hl hp hu => ?_⟩⟩
  · rintro (h | h | h | ⟨h, hq, hb⟩)
    · rw [requestEvent_slot q (.inl h)]
      exact runChain_of_rest hd
    · rw [requestEvent_slot q (.inr (.inl h))]
      exact runChain_of_rest hd
    · rw [requestEvent_slot q (.inr (.inr h))]
      exact runChain_of_rest hd
    · rw [requestEvent_transit q h, requestInTransit_slot hq hb]
      exact runChain_of_rest hd
  · subst hq
    rw [requestEvent_transit _ h, requestInTransit_target]
    exact runChain_of_rest hd
  · rw [requestEvent_transit q h, requestInTransit_back hq hb, runChain_backOut hu hc hl]
  · rw [requestEvent_levelState l q s h, requestInLevel_closed l hg hq]
    exact runChain_of_rest hd
  · subst hq
    rw [requestEvent_levelState q q s h, requestInLevel_same hg]
    exact runChain_of_rest hd
  · rw [requestEvent_levelState l q s h, requestInLevel_latched hg hne hq hl]
    exact runChain_of_rest hd
  · rw [requestEvent_levelState l q s h, requestInLevel_unsupported hg hne hl hp]
    exact runChain_of_rest hd
  · rw [requestEvent_levelState l q s h, requestInLevel_starts hg hne hl hp.1, runChain_startTransition hu hp.2]

end Sys2Proof.Machine

/-! PROOFS. Rail verdicts: what a change of verdict leaves, RAIL_ON and RAIL_OFF, and the timers of NONE rails. -/

namespace Sys2Proof.Machine

variable {s t u : State} {slot : Fin 16} {v : Verdict}

/-! ## A change of verdict -/

theorem withStat_withStat (s : State) (slot : Fin 16) (x y : RailStat) :
    withStat (withStat s slot x) slot y = withStat s slot y := by
  simp [withStat, poke_poke]

@[simp] theorem withStat_stat (s : State) (slot : Fin 16) (x : RailStat) :
    peek (withStat s slot x).rails.stat slot = x := peek_poke_self ..

theorem setStat_eq (slot : Fin 16) (x : RailStat) (s : State) : setStat slot x s = withStat s slot x := rfl

theorem writeGoodTime_eq (slot : Fin 16) (s : State) : writeGoodTime slot s = withGoodTime s slot := by
  unfold writeGoodTime withGoodTime
  by_cases h : s.eng.inflight.isOpen = true
  · simp only [if_pos h]
    rfl
  · simp only [if_neg h]

/-- The state of a rail whose verdict has changed, before the change is handed on (R54, R62). -/
def verdictMoved (slot : Fin 16) (v : Verdict) (s : State) : State :=
  let t := withStat s slot (movedStat s slot v (peek s.rails.stat slot))
  if v = .good then withGoodTime t slot else t

theorem moveVerdict_eq (slot : Fin 16) (v : Verdict) (s : State) :
    moveVerdict slot v s = handOnVerdict slot v (verdictMoved slot v s) := by
  unfold moveVerdict verdictMoved
  simp only [setStat_eq, writeGoodTime_eq]
  rfl

/-- Of the engine, a change of verdict moves the report's good times alone, before it is handed on. -/
@[simp] theorem verdictMoved_eng (slot : Fin 16) (v : Verdict) (s : State) :
    (verdictMoved slot v s).eng.norm = s.eng.norm ∧ (verdictMoved slot v s).eng.urg = s.eng.urg ∧
      (verdictMoved slot v s).eng.wait = s.eng.wait ∧ (verdictMoved slot v s).eng.cur = s.eng.cur ∧
      (verdictMoved slot v s).eng.due = s.eng.due ∧ (verdictMoved slot v s).eng.stepMode = s.eng.stepMode ∧
      (verdictMoved slot v s).eng.steps = s.eng.steps := by
  unfold verdictMoved withGoodTime
  dsimp only
  split
  · split <;> exact ⟨rfl, rfl, rfl, rfl, rfl, rfl, rfl⟩
  · exact ⟨rfl, rfl, rfl, rfl, rfl, rfl, rfl⟩

theorem verdictMoved_eng_of_ne (hv : v ≠ .good) : (verdictMoved slot v s).eng = s.eng := by
  unfold verdictMoved
  dsimp only
  rw [if_neg hv]
  rfl

/-- A change on which no step waits is handed to none (R62). -/
theorem handOnVerdict_of_not (h : NotAwaited s slot) : handOnVerdict slot v s = s := by
  unfold handOnVerdict
  split
  · rfl
  next hslot =>
    have hg : waitsIn s .waitGood = false := by
      obtain h | h | h | ⟨h, -⟩ := h
      · simp [waitsIn, h]
      · simp [waitsIn, h]
      · exact absurd h hslot
      · simp [waitsIn, h]
    have ho : waitsIn s .waitOff = false := by
      obtain h | h | h | ⟨-, h⟩ := h
      · simp [waitsIn, h]
      · simp [waitsIn, h]
      · exact absurd h hslot
      · simp [waitsIn, h]
    cases v with
    | good => exact handOn_of_not hg
    | lost =>
      dsimp only
      split
      · rfl
      · exact handOn_of_not hg
    | off => exact handOn_of_not ho
    | rising => rfl
    | draining => rfl

theorem notAwaited_verdictMoved (h : NotAwaited s slot) (v : Verdict) : NotAwaited (verdictMoved slot v s) slot := by
  simpa [NotAwaited, channelRuns] using h

theorem moveVerdict_of_not (h : NotAwaited s slot) : moveVerdict slot v s = verdictMoved slot v s := by
  rw [moveVerdict_eq, handOnVerdict_of_not (notAwaited_verdictMoved h v)]

theorem timerOf_of_sensed (h : ∀ a b, (peek s.rails.table slot).sense ≠ .timed a b) : timerOf s slot v = none := by
  unfold timerOf
  cases hs : (peek s.rails.table slot).sense with
  | timed a b => exact absurd hs (h a b)
  | monitored b => rfl
  | pgline => rfl

theorem timerOf_of_still (h : v ≠ .rising) (h' : v ≠ .draining) : timerOf s slot v = none := by
  unfold timerOf
  cases (peek s.rails.table slot).sense <;> cases v <;> first | rfl | exact absurd rfl h | exact absurd rfl h'

theorem movedStat_of_none (h : timerOf s slot v = none) (x : RailStat) : movedStat s slot v x = moved x v := by
  unfold movedStat moved
  rw [h]

theorem verdictMoved_good (s : State) (slot : Fin 16) :
    verdictMoved slot .good s = withGoodTime (withStat s slot (moved (peek s.rails.stat slot) .good)) slot := by
  unfold verdictMoved
  rw [if_pos rfl, movedStat_of_none (timerOf_of_still (by simp) (by simp))]

theorem verdictMoved_of_none (hv : v ≠ .good) (h : timerOf s slot v = none) :
    verdictMoved slot v s = withStat s slot (moved (peek s.rails.stat slot) v) := by
  unfold verdictMoved
  rw [if_neg hv, movedStat_of_none h]

/-! ## Timers of NONE rails (R65, R66) -/

theorem settleDue_iff {a b : TimeField} {start : Tick} (hs : (peek s.rails.table slot).sense = .timed a b)
    (ht : (peek s.rails.stat slot).timer = some start) :
    settleDue slot s = true ↔ (peek s.rails.stat slot).verdict = .rising ∧ elapsed s start = duration a := by
  simp [settleDue, railTimerDue, hs, ht]

theorem drainDue_iff {a b : TimeField} {start : Tick} (hs : (peek s.rails.table slot).sense = .timed a b)
    (ht : (peek s.rails.stat slot).timer = some start) :
    drainDue slot s = true ↔ (peek s.rails.stat slot).verdict = .draining ∧ elapsed s start = duration b := by
  simp [drainDue, railTimerDue, hs, ht]

/-- Settles O16: each expiry is a change of verdict on which no step waits. -/
theorem noneRailTimers : Obligations.NoneRailTimers := by
  intro s slot a b start hs hn hsense htimer
  refine ⟨fun hv he => ?_, fun hv he => ?_⟩
  · have hdue : settleDue slot s = true := (settleDue_iff hsense htimer).2 ⟨hv, he⟩
    show execSettleTimerExpiry slot s = _
    refine whilePowered_next hs.1 ?_ ?_
    · rw [if_pos hdue, moveVerdict_of_not hn, verdictMoved_good]
    · simpa [← verdictMoved_good] using hs.2
  · have hdue : drainDue slot s = true := (drainDue_iff hsense htimer).2 ⟨hv, he⟩
    show execDrainTimerExpiry slot s = _
    refine whilePowered_next hs.1 ?_ (by exact hs.2)
    rw [if_pos hdue, moveVerdict_of_not hn, verdictMoved_of_none (by simp) (timerOf_of_still (by simp) (by simp))]

/-! ## RAIL_ON and RAIL_OFF -/

/-- The status of a rail that has been switched on or off, a duration of 0 carried out at once (R61, R65, R66). -/
def switchedTo (tick : Tick) (v done : Verdict) (time : Option TimeField) (x : RailStat) : RailStat :=
  match time with
  | none => moved x v
  | some d => if d.value = 0 then moved x done else { moved x v with timer := some tick }

/-- Settle and drain time of a rail's record. -/
def timesOf (r : RailRec) : Option (TimeField × TimeField) :=
  match r.sense with
  | .timed a b => some (a, b)
  | .monitored _ => none
  | .pgline => none

theorem timedOf_eq (s : State) (slot : Fin 16) : timedOf s slot = timesOf (peek s.rails.table slot) := rfl

/-- A rail comes down where its line is asserted: DRAINING, or OFF at once (R61, R66). -/
def downed (tick : Tick) (r : RailRec) (x : RailStat) : RailStat :=
  switchedTo tick .draining .off ((timesOf r).map Prod.snd) { x with en := .deasserted }

theorem notAwaited_of_wait_none (hw : s.eng.wait = .none) : NotAwaited s slot := .inr (.inl (by simp [hw]))

theorem timerOf_of_timed {a b : TimeField} (h : (peek s.rails.table slot).sense = .timed a b)
    (hv : v = .rising ∨ v = .draining) : timerOf s slot v = some s.clock.tick := by
  unfold timerOf
  rw [h]
  obtain rfl | rfl := hv <;> rfl

/-- The enable line is asserted under these verdicts (R61). -/
abbrev IsOn (v : Verdict) : Prop := v = .rising ∨ v = .good ∨ v = .lost

theorem not_isOn {v : Verdict} (h : ¬IsOn v) : v = .off ∨ v = .draining := by cases v <;> simp_all [IsOn]

theorem railOff_still (h : ¬IsOn (peek s.rails.stat slot).verdict) : railOff slot s = s := by
  unfold railOff
  obtain h | h := not_isOn h <;> rw [h]

theorem railOff_on (h : IsOn (peek s.rails.stat slot).verdict) :
    (timedOf s slot = none → railOff slot s = moveVerdict slot .draining (setEn slot .deasserted s)) ∧
    ∀ a d, timedOf s slot = some (a, d) → railOff slot s =
      if duration d = 0 then moveVerdict slot .off (moveVerdict slot .draining (setEn slot .deasserted s))
      else moveVerdict slot .draining (setEn slot .deasserted s) := by
  have htimed : timedOf (moveVerdict slot .draining (setEn slot .deasserted s)) slot = timedOf s slot := by
    unfold moveVerdict timedOf
    simp [setEn, setStat]
  unfold railOff
  obtain h | h | h := h <;> simp only [h, htimed] <;> refine ⟨fun hn => ?_, fun a d hs => ?_⟩ <;>
    first | rw [hn] | rw [hs]

theorem movedStat_sensed (h : timesOf (peek s.rails.table slot) = none) (x : RailStat) :
    movedStat s slot v x = moved x v := by
  refine movedStat_of_none (timerOf_of_sensed fun a b hs => ?_) x
  simp [timesOf, hs] at h

theorem movedStat_timed {a b : TimeField} (h : timesOf (peek s.rails.table slot) = some (a, b))
    (hv : v = .rising ∨ v = .draining) (x : RailStat) :
    movedStat s slot v x = { moved x v with timer := some s.clock.tick } := by
  have hs : ∃ a b, (peek s.rails.table slot).sense = .timed a b := by
    unfold timesOf at h
    split at h
    next hs => exact ⟨_, _, hs⟩
    · cases h
    · cases h
  obtain ⟨a, b, hs⟩ := hs
  unfold movedStat
  rw [timerOf_of_timed hs hv]
  rfl

theorem railOn_still (h : IsOn (peek s.rails.stat slot).verdict) : railOn slot s = s := by
  unfold railOn
  obtain h | h | h := h <;> rw [h]

theorem railOn_off (h : ¬IsOn (peek s.rails.stat slot).verdict) :
    (timedOf s slot = none → railOn slot s = moveVerdict slot .rising (setEn slot .asserted s)) ∧
    ∀ a d, timedOf s slot = some (a, d) → railOn slot s =
      if duration a = 0 then moveVerdict slot .good (moveVerdict slot .rising (setEn slot .asserted s))
      else moveVerdict slot .rising (setEn slot .asserted s) := by
  have htimed : timedOf (moveVerdict slot .rising (setEn slot .asserted s)) slot = timedOf s slot := by
    unfold moveVerdict timedOf
    simp [setEn, setStat]
  unfold railOn
  obtain h | h := not_isOn h <;> simp only [h, htimed] <;> refine ⟨fun hn => ?_, fun a d hs => ?_⟩ <;>
    first | rw [hn] | rw [hs]

/-! ## The two steps where no step waits -/

section
variable (hw : s.eng.wait = .none)
include hw

/-- The first change of a rail that is switched: its enable line and its verdict (R57, R61, R62). -/
theorem moveVerdict_setEn {e : EnLevel} (hv : v ≠ .good) :
    moveVerdict slot v (setEn slot e s) =
      withStat s slot (movedStat s slot v { peek s.rails.stat slot with en := e }) := by
  rw [moveVerdict_of_not (notAwaited_of_wait_none (by exact hw)), verdictMoved, if_neg hv]
  simp only [setEn, setStat_eq, withStat_withStat, withStat_stat]
  rfl

/-- The second change of a NONE rail that is switched with a duration of 0 (R65, R66). -/
theorem moveVerdict_done (x : RailStat) (h : v ≠ .rising) (h' : v ≠ .draining) :
    moveVerdict slot v (withStat s slot x) =
      if v = .good then withGoodTime (withStat s slot (moved x v)) slot else withStat s slot (moved x v) := by
  rw [moveVerdict_of_not (notAwaited_of_wait_none (by exact hw)), verdictMoved,
    movedStat_of_none (timerOf_of_still h h'), withStat_stat, withStat_withStat]

theorem railOff_eq (h : IsOn (peek s.rails.stat slot).verdict) :
    railOff slot s = withStat s slot (downed s.clock.tick (peek s.rails.table slot) (peek s.rails.stat slot)) := by
  obtain ⟨hsensed, htimed⟩ := railOff_on h
  unfold downed
  cases ht : timesOf (peek s.rails.table slot) with
  | none =>
    rw [hsensed ht, moveVerdict_setEn hw (by simp), movedStat_sensed ht]
    rfl
  | some x =>
    obtain ⟨a, d⟩ := x
    rw [htimed a d ht, moveVerdict_setEn hw (by simp), movedStat_timed ht (.inr rfl)]
    simp only [duration_eq_zero, Option.map_some, switchedTo]
    split
    · rw [moveVerdict_done hw _ (by simp) (by simp), if_neg (by simp)]
      rfl
    · rfl

/-- A RAIL_ON that acts on a rail with a sense input, and on a NONE rail (R61, R65). -/
theorem railOn_sensed (h : ¬IsOn (peek s.rails.stat slot).verdict) (ht : timesOf (peek s.rails.table slot) = none) :
    railOn slot s = withStat s slot (moved { peek s.rails.stat slot with en := .asserted } .rising) := by
  rw [(railOn_off h).1 ht, moveVerdict_setEn hw (by simp), movedStat_sensed ht]

theorem railOn_timed {a d : TimeField} (h : ¬IsOn (peek s.rails.stat slot).verdict)
    (ht : timesOf (peek s.rails.table slot) = some (a, d)) :
    railOn slot s =
      if a.value = 0 then withGoodTime (withStat s slot (moved { peek s.rails.stat slot with en := .asserted } .good)) slot
      else withStat s slot
        { moved { peek s.rails.stat slot with en := .asserted } .rising with timer := some s.clock.tick } := by
  rw [(railOn_off h).2 a d ht, moveVerdict_setEn hw (by simp), movedStat_timed ht (.inl rfl)]
  simp only [duration_eq_zero]
  split
  · rw [moveVerdict_done hw _ (by simp) (by simp), if_pos rfl]
    rfl
  · rfl

end

/-! ## The checks of the two steps (R29, R30) -/

section
variable {r : StepRec}

theorem beginRailOn_absent (h : (peek s.rails.table (slotOf r)).present = false) :
    beginRailOn r s = failWith .absent s := by simp [beginRailOn, h]

theorem beginRailOff_absent (h : (peek s.rails.table (slotOf r)).present = false) :
    beginRailOff r s = failWith .absent s := by simp [beginRailOff, h]

theorem beginRailOn_dependency (h : (peek s.rails.table (slotOf r)).present = true) (hp : parentGood s (slotOf r) = false) :
    beginRailOn r s = failWith .dependency s := by simp [beginRailOn, h, hp]

theorem beginRailOff_dependency (h : (peek s.rails.table (slotOf r)).present = true)
    (hc : childAsserted s (slotOf r) = true) : beginRailOff r s = failWith .dependency s := by
  simp [beginRailOff, h, hc]

theorem beginRailOn_acts (h : (peek s.rails.table (slotOf r)).present = true) (hp : parentGood s (slotOf r) = true)
    (ht : railOn (slotOf r) s = t) : beginRailOn r s = succeed t := by simp [beginRailOn, h, hp, ht]

theorem beginRailOff_acts (h : (peek s.rails.table (slotOf r)).present = true)
    (hc : childAsserted s (slotOf r) = false) (ht : railOff (slotOf r) s = t) : beginRailOff r s = succeed t := by
  simp [beginRailOff, h, hc, ht]

end

theorem off_iff_not_isOn {v : Verdict} : v = .off ∨ v = .draining ↔ ¬IsOn v := by cases v <;> simp

theorem sensedRailSteps : Claims.SensedRailSteps := by
  intro s r hw hsense
  have ht : timesOf (peek s.rails.table (slotOf r)) = none := by
    unfold timesOf
    split
    next a d hs => exact absurd hs (hsense a d)
    · rfl
    · rfl
  refine ⟨fun h => ⟨beginRailOn_absent h, beginRailOff_absent h⟩, beginRailOn_dependency, beginRailOff_dependency,
    fun h hp hv => ?_, fun h hp hv => ?_, fun h hc hv => ?_, fun h hc hv => ?_⟩
  · exact beginRailOn_acts h hp (railOn_sensed hw (off_iff_not_isOn.1 hv) ht)
  · exact beginRailOn_acts h hp (railOn_still hv)
  · refine beginRailOff_acts h hc ((railOff_eq hw hv).trans ?_)
    rw [downed, ht]
    rfl
  · exact beginRailOff_acts h hc (railOff_still (off_iff_not_isOn.1 hv))

theorem timedRailSteps : Claims.TimedRailSteps := by
  intro s r a d hw hsense
  have ht : timesOf (peek s.rails.table (slotOf r)) = some (a, d) := by
    unfold timesOf
    rw [hsense]
  have hoff (hv : IsOn (peek s.rails.stat (slotOf r)).verdict) := railOff_eq hw hv
  simp only [downed, ht, Option.map_some, switchedTo] at hoff
  refine ⟨fun h => ⟨beginRailOn_absent h, beginRailOff_absent h⟩, beginRailOn_dependency, beginRailOff_dependency,
    fun h hp => ⟨fun hv hz => ?_, fun hv hz => ?_, fun hv => ?_⟩, fun h hc => ⟨fun hv hz => ?_, fun hv hz => ?_, fun hv => ?_⟩⟩
  · exact beginRailOn_acts h hp ((railOn_timed hw (off_iff_not_isOn.1 hv) ht).trans (if_neg hz))
  · exact beginRailOn_acts h hp ((railOn_timed hw (off_iff_not_isOn.1 hv) ht).trans (if_pos hz))
  · exact beginRailOn_acts h hp (railOn_still hv)
  · exact beginRailOff_acts h hc ((hoff hv).trans (by rw [if_neg hz]))
  · exact beginRailOff_acts h hc ((hoff hv).trans (by rw [if_pos hz]))
  · exact beginRailOff_acts h hc (railOff_still (off_iff_not_isOn.1 hv))

/-- Settles O17: the checks in order, and the change of enable line and verdict of a rail that is switched. -/
theorem railSteps : Obligations.RailSteps := ⟨sensedRailSteps, timedRailSteps⟩

end Sys2Proof.Machine

/-! PROOFS. Urgent starts and preemptions, and the built-in shutdown. -/

namespace Sys2Proof.Machine

variable {s t u : State} {k : UrgKind}

/-! ## The built-in shutdown (R86) -/

/-- A rail's status after the built-in shutdown has passed it. -/
def shutStat (tick : Tick) (r : RailRec) (x : RailStat) : RailStat :=
  if x.en = .asserted ∧ IsOn x.verdict then downed tick r x else x

theorem withStat_self (s : State) (slot : Fin 16) : withStat s slot (peek s.rails.stat slot) = s := setStat_self slot s

theorem shutdown_one (hw : s.eng.wait = .none) (slot : Fin 16) :
    (if isAsserted s slot then railOff slot s else s) =
      withStat s slot (shutStat s.clock.tick (peek s.rails.table slot) (peek s.rails.stat slot)) := by
  unfold shutStat
  by_cases ha : (peek s.rails.stat slot).en = .asserted
  · rw [if_pos (by simp [isAsserted, ha])]
    by_cases hv : IsOn (peek s.rails.stat slot).verdict
    · rw [if_pos ⟨ha, hv⟩, railOff_eq hw hv]
    · rw [if_neg (fun h => hv h.2), railOff_still hv, withStat_self]
  · rw [if_neg (by simp [isAsserted, ha]), if_neg (fun h => ha h.1), withStat_self]

/-- The deassertions in a list of slots, none named twice. -/
theorem shutdown_fold (l : List (Fin 16)) (hl : l.Nodup) (hw : s.eng.wait = .none) :
    let t := l.foldl (fun s slot => if isAsserted s slot then railOff slot s else s) s
    t.eng = s.eng ∧ t.rails.table = s.rails.table ∧ ∀ n, peek t.rails.stat n =
      if n ∈ l then shutStat s.clock.tick (peek s.rails.table n) (peek s.rails.stat n) else peek s.rails.stat n := by
  induction l generalizing s with
  | nil => exact ⟨rfl, rfl, fun n => rfl⟩
  | cons slot l ih =>
    obtain ⟨hnot, hl⟩ := List.nodup_cons.1 hl
    rw [List.foldl_cons, shutdown_one hw]
    obtain ⟨heng, htable, hstat⟩ := ih hl (s := withStat s slot _) hw
    refine ⟨heng, htable, fun n => ?_⟩
    rw [hstat n]
    obtain rfl | hn := eq_or_ne slot n
    · simp [hnot]
    · have hpeek (x : RailStat) : peek (withStat s slot x).rails.stat n = peek s.rails.stat n := peek_poke_ne _ _ hn
      rw [hpeek]
      simp only [List.mem_cons, hn.symm, false_or]
      rfl

section
variable (hw : s.eng.wait = .none)
include hw

theorem shutdownRails_fold : (shutdownRails s).eng = s.eng ∧ (shutdownRails s).rails.table = s.rails.table ∧
    ∀ n, peek (shutdownRails s).rails.stat n = shutStat s.clock.tick (peek s.rails.table n) (peek s.rails.stat n) := by
  obtain ⟨heng, htable, hstat⟩ :=
    shutdown_fold (List.finRange 16).reverse (List.nodup_reverse.2 (List.nodup_finRange 16)) hw
  simp only [List.mem_reverse, List.mem_finRange, if_true] at hstat
  unfold shutdownRails
  exact ⟨heng, htable, hstat⟩

theorem shutdownRails_eng : (shutdownRails s).eng = s.eng := (shutdownRails_fold hw).1
theorem shutdownRails_table : (shutdownRails s).rails.table = s.rails.table := (shutdownRails_fold hw).2.1
theorem shutdownRails_stat (n : Fin 16) : peek (shutdownRails s).rails.stat n =
    shutStat s.clock.tick (peek s.rails.table n) (peek s.rails.stat n) := (shutdownRails_fold hw).2.2 n

end

/-! ## The start of an urgent list (R83, R85) -/

/-- The report that an urgent start opens (R53). -/
def openedUrgent (k : UrgKind) (s : State) : Report :=
  { emptyReport with
    isOpen := true, origin := .urgent k, fromLevel := s.psc.current, toLevel := .softOff, startTick := s.clock.tick }

theorem startUrgentList_listed (hp : (urgentStartOf s.psc.policy1 k).present = true) :
    startUrgentList k s = s.setEng
      { s.eng with
        urg := { s.eng.urg with running := true, kind := some k, idx := (urgentStartOf s.psc.policy1 k).value },
        wait := .none, due := .beginRun false } := if_pos hp

/-- The engine as the built-in shutdown begins (R86). -/
def shutdownEng (k : UrgKind) (s : State) : Engine :=
  { s.eng with
    urg := { s.eng.urg with running := true, kind := some k, idx := 0, start := s.clock.tick },
    wait := .none, due := .nothing }

theorem startUrgentList_builtin (hp : (urgentStartOf s.psc.policy1 k).present = false) :
    startUrgentList k s = (shutdownRails (s.setEng (shutdownEng k s))).setEng
      (if s.wire.queue = [] then { shutdownEng k s with due := .runEnded .builtinDrained }
        else { shutdownEng k s with wait := .builtin }) := by
  have heng : (shutdownRails (s.setEng (shutdownEng k s))).eng = shutdownEng k s := shutdownRails_eng rfl
  have hqueue : (shutdownRails (s.setEng (shutdownEng k s))).wire = s.wire := by simp
  have hstart : startUrgentList k s =
      if (shutdownRails (s.setEng (shutdownEng k s))).wire.queue = [] then
        endRunWith .builtinDrained (shutdownRails (s.setEng (shutdownEng k s)))
      else (shutdownRails (s.setEng (shutdownEng k s))).setEng
        { (shutdownRails (s.setEng (shutdownEng k s))).eng with wait := .builtin } := by
    unfold startUrgentList shutdownEng
    simp only [hp, Bool.false_eq_true, if_false]
  rw [hstart, hqueue, endRunWith, heng]
  split <;> rfl

/-- The engine of a started list, whether its start is present or not. -/
theorem startUrgentList_engine (k : UrgKind) (s : State) :
    ∃ i start wait due, (startUrgentList k s).eng =
      { s.eng with
        urg := { s.eng.urg with running := true, kind := some k, idx := i, start := start }, wait := wait, due := due } := by
  by_cases hp : (urgentStartOf s.psc.policy1 k).present = true
  · rw [startUrgentList_listed hp]
    exact ⟨_, _, _, _, rfl⟩
  · rw [startUrgentList_builtin (by simpa using hp), State.setEng_eng]
    split <;> exact ⟨0, s.clock.tick, _, _, rfl⟩

/-! ## The urgent start -/

theorem enterUrgent_psc (s : State) : (enterUrgent s).psc =
    { s.psc with state := .urgent, target := .softOff, commit := false, haltedFrom := none, gateClosed := true } := by
  unfold enterUrgent
  dsimp only
  split <;> simp

theorem onlyWait_enterUrgent (s : State) : OnlyWait s (enterUrgent s) := by
  unfold enterUrgent
  dsimp only
  split
  · rfl
  · refine OnlyWait.trans ?_ (onlyWait_sendOffNotice true _)
    rfl

/-- The state of an urgent start before its list begins: PSC, hold, clock and report. -/
def urgentReady (k : UrgKind) (s : State) : State :=
  let t := forceFast (liftHold (enterUrgent (stopNorm s)))
  openReport (.urgent k) t.psc.current .softOff t

theorem urgentStart_eq (k : UrgKind) (s : State) : urgentStart k s = startUrgentList k (urgentReady k s) := by
  unfold urgentStart urgentReady
  rfl

theorem urgentReady_psc (k : UrgKind) (s : State) : (urgentReady k s).psc =
    { s.psc with state := .urgent, target := .softOff, commit := false, haltedFrom := none, gateClosed := true } := by
  simp [urgentReady, enterUrgent_psc]

theorem forceFast_clock (s : State) : (forceFast s).clock =
    if s.clock.mode = .slow then { s.clock with mode := .fastRc, loop := .acquiring, good := 0, window := none }
    else s.clock := by
  unfold forceFast
  split <;> rfl

theorem urgentReady_clock (k : UrgKind) (s : State) : (urgentReady k s).clock =
    if s.clock.mode = .slow then { s.clock with mode := .fastRc, loop := .acquiring, good := 0, window := none }
    else s.clock := by
  simp [urgentReady, forceFast_clock]

theorem urgentReady_eng (k : UrgKind) (s : State) : ∃ wait due, (urgentReady k s).eng =
    { (stopNorm s).eng with wait := wait, due := due, inflight := openedUrgent k s } := by
  have hwait : OnlyWait (stopNorm s) (forceFast (liftHold (enterUrgent (stopNorm s)))) :=
    ((onlyWait_enterUrgent _).trans (onlyWait_liftHold _)).trans (.of_eng (by simp))
  have htick : (forceFast (liftHold (enterUrgent (stopNorm s)))).clock.tick = s.clock.tick := by
    rw [forceFast_clock]
    split <;> simp
  refine ⟨(forceFast (liftHold (enterUrgent (stopNorm s)))).eng.wait,
    (forceFast (liftHold (enterUrgent (stopNorm s)))).eng.due, ?_⟩
  unfold urgentReady openReport openedUrgent
  dsimp only
  rw [State.setEng_eng, htick]
  conv_lhs => rw [hwait]
  simp [enterUrgent_psc]

theorem urgentReady_frame (k : UrgKind) (s : State) :
    (urgentReady k s).rails = s.rails ∧ (urgentReady k s).wire.hold = false := by
  simp [urgentReady, liftHold_hold]

/-- The stopped Normal channel, field by field (R47, R83). -/
theorem stopNorm_eng (s : State) :
    (stopNorm s).eng.urg = s.eng.urg ∧ (stopNorm s).eng.stepMode = s.eng.stepMode ∧ (stopNorm s).eng.steps = s.eng.steps ∧
      (stopNorm s).eng.norm.haltPending = false ∧
      (s.eng.norm.st = .idle → (stopNorm s).eng.last = s.eng.last) ∧
      (s.eng.norm.st ≠ .idle → (stopNorm s).eng.last =
        { s.eng.inflight with isOpen := false, outcome := some .stopped, endTick := some s.clock.tick }) := by
  unfold stopNorm
  by_cases h : s.eng.norm.st = .idle
  · simp [h]
  · simp [h, closeReport, idleNorm, cutStep_eng]

theorem urgentStartEffects : Claims.UrgentStartEffects := by
  intro k s hu
  obtain ⟨wait, due, hready⟩ := urgentReady_eng k s
  obtain ⟨i, start, wait', due', heng⟩ := startUrgentList_engine k (urgentReady k s)
  obtain ⟨-, hmode, -, hpend, hidle, hnot⟩ := stopNorm_eng s
  dsimp only
  rw [urgentStart_eq, heng, hready]
  refine ⟨by simp [urgentReady_psc], stopNorm_idle s, hpend, rfl, rfl, hmode, ?_, ?_, ⟨rfl, rfl, rfl, rfl, rfl, rfl⟩, fun h => ?_, hidle,
    ?_⟩
  · simpa using (urgentReady_frame k s).2
  · simpa using urgentReady_clock k s
  · rw [hnot h]
    exact ⟨rfl, rfl⟩
  · simp [← urgentStart_eq]

theorem urgentReady_start (k : UrgKind) (s : State) :
    urgentStartOf (urgentReady k s).psc.policy1 k = urgentStartOf s.psc.policy1 k := by rw [urgentReady_psc]

theorem urgentStart_listed (hp : (urgentStartOf s.psc.policy1 k).present = true) :
    urgentStart k s = (urgentReady k s).setEng
      { (urgentReady k s).eng with
        urg := { (urgentReady k s).eng.urg with
          running := true, kind := some k, idx := (urgentStartOf s.psc.policy1 k).value },
        wait := .none, due := .beginRun false } := by
  rw [urgentStart_eq, startUrgentList_listed (by rw [urgentReady_start, hp]), urgentReady_start]

theorem shutStat_of_not {tick : Tick} {r : RailRec} {x : RailStat} (h : x.en ≠ .asserted) : shutStat tick r x = x :=
  if_neg fun ha => h ha.1

/-- A rail that comes down, field by field (R61, R66). -/
theorem downed_fields (tick : Tick) (r : RailRec) (x : RailStat) :
    (downed tick r x).en = .deasserted ∧ (downed tick r x).lost = x.lost ∧ (downed tick r x).mV = x.mV ∧
      ((downed tick r x).verdict = .draining ∨ (downed tick r x).verdict = .off ∧
        ∃ a d : TimeField, r.sense = .timed a d ∧ d.value = 0) := by
  unfold downed switchedTo timesOf
  cases hs : r.sense with
  | timed a d =>
    by_cases hd : d.value = 0
    · simp [hd, moved]
    · simp [hd, moved]
  | monitored b => exact ⟨rfl, rfl, rfl, .inl rfl⟩
  | pgline => exact ⟨rfl, rfl, rfl, .inl rfl⟩

/-- The rails of the built-in shutdown of an urgent start (R86). -/
theorem urgentStart_builtin (hp : (urgentStartOf s.psc.policy1 k).present = false) :
    (urgentStart k s).eng.urg.idx = 0 ∧ (urgentStart k s).rails.table = s.rails.table ∧
      ∀ n, peek (urgentStart k s).rails.stat n =
        shutStat s.clock.tick (peek s.rails.table n) (peek s.rails.stat n) := by
  have htick : (urgentReady k s).clock.tick = s.clock.tick := by
    rw [urgentReady_clock]
    split <;> rfl
  rw [urgentStart_eq, startUrgentList_builtin (by rw [urgentReady_start, hp])]
  generalize hx : (urgentReady k s).setEng (shutdownEng k (urgentReady k s)) = x
  have hrails : x.rails = s.rails := by rw [← hx]; exact (urgentReady_frame k s).1
  have hclock : x.clock.tick = s.clock.tick := by rw [← hx]; exact htick
  have hwait : x.eng.wait = .none := by rw [← hx]; rfl
  rw [State.setEng_eng, State.setEng_rails]
  refine ⟨?_, by rw [shutdownRails_table hwait, hrails], fun n => ?_⟩
  · split <;> rfl
  · rw [shutdownRails_stat hwait, hrails, hclock]

theorem urgentListOrShutdown : Claims.UrgentListOrShutdown := by
  intro k s hu
  refine ⟨fun hp => ?_, fun hp => ?_⟩
  · rw [urgentStart_listed hp]
    exact ⟨rfl, rfl, (urgentReady_frame k s).1⟩
  · obtain ⟨hidx, htable, hstat⟩ := urgentStart_builtin (k := k) hp
    refine ⟨hidx, htable, fun n => ?_⟩
    rw [hstat n]
    refine ⟨shutStat_of_not, fun ha hv => ?_⟩
    rw [shutStat, if_pos ⟨ha, hv⟩]
    exact downed_fields _ _ _

/-! ## The off-notice wire of an urgent start (R19, R125) -/

/-- The off-notice depends on Policy, the wires, LRST and the Hub Port alone. -/
theorem offNoticed_congr {b : Bool} (hp : t.psc.policy0 = s.psc.policy0) (hw : t.wire = s.wire) (hl : t.lrst = s.lrst)
    (hh : t.hub = s.hub) : (offNoticed b t).hub = (offNoticed b s).hub ∧ (offNoticed b t).wire = (offNoticed b s).wire := by
  unfold offNoticed
  simp only [hp, hw, hl, hh]
  split
  · exact ⟨hh, hw⟩
  · split
    · exact ⟨hh, rfl⟩
    · split <;> exact ⟨rfl, rfl⟩

theorem stopNorm_ports (hh : s.hub.waiting = []) (hb : s.board.waiting = []) :
    (stopNorm s).hub = s.hub ∧ (stopNorm s).board = s.board := by
  have hcut : (cutStep s).hub = s.hub ∧ (cutStep s).board = s.board := by
    unfold cutStep withdrawSendWire
    dsimp only
    split
    · split
      · exact ⟨rfl, rfl⟩
      · simp [hh, hb]
        exact ⟨by rw [← hh], by rw [← hb]⟩
      · exact ⟨rfl, rfl⟩
    · exact ⟨rfl, rfl⟩
  unfold stopNorm
  dsimp only
  split
  · exact ⟨rfl, rfl⟩
  · simpa [closeReport, idleNorm] using hcut

/-- Hold lifted over an empty queue, with every slot offered. -/
theorem liftHold_empty (h : SlotsOffered s) (hq : s.wire.queue = []) :
    liftHold s = s.setWire { s.wire with hold := false } := by
  unfold liftHold
  split
  · have hdrain : ensureDrain (s.setWire { s.wire with hold := false }) = s.setWire { s.wire with hold := false } := by
      simp [ensureDrain, hq]
    rw [hdrain]
    exact pump_of_offered (offered_of_slotsOffered (slotsOffered_of_same h rfl rfl rfl rfl))
  next hh =>
    have : s.wire = { s.wire with hold := false } := by
      conv_lhs => rw [show s.wire = { s.wire with hold := s.wire.hold } from rfl]
      rw [show s.wire.hold = false by simpa using hh]
    rw [← this]
    rfl

/-- The off-notice leaves every slot offered, and touches neither the Board Port nor the Hold Queue. -/
theorem offNoticed_frame (b : Bool) (h : SlotsOffered s) (hh : s.hub.waiting = []) :
    SlotsOffered (offNoticed b s) ∧ (offNoticed b s).board = s.board ∧ (offNoticed b s).wire.queue = s.wire.queue := by
  unfold offNoticed
  dsimp only
  split
  · exact ⟨h, rfl, rfl⟩
  · split
    next hl => exact ⟨.inl hl, rfl, rfl⟩
    next hl =>
      obtain hl' | ⟨hk, -, hb⟩ := h
      · exact absurd hl' hl
      · split
        next ht => exact ⟨.inr ⟨hk, .inl hh, hb⟩, rfl, rfl⟩
        next ht => exact ⟨.inr ⟨hk, .inr (Nat.not_lt.1 ht), hb⟩, rfl, rfl⟩

/-- The ports and wire levels an urgent start leaves are those of its entry, where there is nothing to drain. -/
theorem urgentStart_ports (h : SlotsOffered (enterUrgent (stopNorm s))) (hq : (enterUrgent (stopNorm s)).wire.queue = []) :
    (urgentStart k s).hub = (enterUrgent (stopNorm s)).hub ∧
      (urgentStart k s).wire.level = (enterUrgent (stopNorm s)).wire.level ∧
      (urgentStart k s).board = (enterUrgent (stopNorm s)).board := by
  rw [urgentStart_eq]
  simp [urgentReady, liftHold_empty h hq]

theorem gateCloses : Claims.GateCloses := by
  intro k s hu hh hb hq hk
  obtain ⟨hhub, hboard⟩ := stopNorm_ports hh hb
  have hoff : SlotsOffered s := .inr ⟨hk, .inl hh, .inl hb⟩
  have hstop : SlotsOffered (stopNorm s) := slotsOffered_of_same hoff hhub hboard (by simp) (by simp)
  have hgate : (stopNorm s).psc.gateClosed = s.psc.gateClosed := by simp
  by_cases hg : s.psc.gateClosed = true
  · have henter : enterUrgent (stopNorm s) = (stopNorm s).setPsc { (stopNorm s).psc with
        state := .urgent, target := .softOff, commit := false, haltedFrom := none, gateClosed := true } := by
      unfold enterUrgent
      dsimp only
      rw [if_pos (hgate.trans hg)]
    obtain ⟨h1, h2, h3⟩ := urgentStart_ports (k := k) (s := s)
      (by rw [henter]; exact slotsOffered_of_same hstop rfl rfl rfl rfl) (by rw [henter]; simpa using hq)
    dsimp only
    rw [h1, h2, h3, henter]
    exact ⟨fun h => by simp [hg] at h, fun _ => ⟨hhub, by simp⟩, hboard⟩
  · obtain ⟨x, henter, hx⟩ : ∃ x, enterUrgent (stopNorm s) = offNoticed true ((stopNorm s).setPsc x) ∧
        x.policy0 = s.psc.policy0 := by
      refine ⟨{ (stopNorm s).psc with
        state := .urgent, target := .softOff, commit := false, haltedFrom := none, gateClosed := true }, ?_, by simp⟩
      unfold enterUrgent
      dsimp only
      rw [if_neg (by rw [hgate]; exact hg)]
      exact sendOffNotice_eq true (slotsOffered_of_same hstop rfl rfl rfl rfl) (by rw [State.setPsc_hub, hhub, hh])
    have hset : SlotsOffered ((stopNorm s).setPsc x) := slotsOffered_of_same hstop rfl rfl rfl rfl
    have hwait : ((stopNorm s).setPsc x).hub.waiting = [] := by rw [State.setPsc_hub, hhub, hh]
    obtain ⟨g1, g2, g3⟩ := offNoticed_frame true hset hwait
    obtain ⟨c1, c2⟩ := offNoticed_congr (s := s) (t := (stopNorm s).setPsc x) (b := true) hx (by simp) (by simp) hhub
    obtain ⟨h1, h2, h3⟩ := urgentStart_ports (k := k) (s := s) (henter ▸ g1) (by rw [henter, g3]; simpa using hq)
    dsimp only
    rw [h1, h2, h3, henter]
    exact ⟨fun _ => ⟨c1, by rw [c2]⟩, fun h => absurd h hg, g2.trans hboard⟩

/-- Settles O19: the start up to its list, then the list or the shutdown, and the off-notice wire. -/
theorem urgentStart_holds : Obligations.UrgentStart := ⟨urgentStartEffects, urgentListOrShutdown, gateCloses⟩

end Sys2Proof.Machine

/-! PROOFS. What an urgent start leaves where its list begins with a DELAY, preemption, and FAULT triggers. -/

namespace Sys2Proof.Machine

variable {s t u : State} {k : UrgKind} {i : Fin 256} {c : FaultCause}

/-- The list of an urgent kind is present at index `i` and begins with a DELAY. -/
abbrev ListDelays (k : UrgKind) (i : Fin 256) (s : State) : Prop :=
  (urgentStartOf s.psc.policy1 k).present = true ∧ (urgentStartOf s.psc.policy1 k).value = i ∧ LongDelay (peek s.eng.steps i)

/-- The engine with the list of a kind waiting at its first step, the channels before it as in `e` (R26, R52, R83). -/
def listEng (k : UrgKind) (i : Fin 256) (s : State) (e : Engine) : Engine :=
  { e with
    cur := peek s.eng.steps i, wait := .step, due := .nothing, inflight := oneMore (openedUrgent k s),
    urg := { s.eng.urg with running := true, kind := some k, idx := i, ran := i, start := s.clock.tick } }

theorem urgentReady_tick (k : UrgKind) (s : State) : (urgentReady k s).clock.tick = s.clock.tick := by
  rw [urgentReady_clock]
  split <;> rfl

/-- An urgent start whose list begins with a DELAY waits in it (R25, R83). -/
theorem runChain_urgentStart (h : ListDelays k i s) :
    runChain (urgentStart k s) = (urgentReady k s).setEng (listEng k i s (stopNorm s).eng) := by
  obtain ⟨hp, rfl, hl⟩ := h
  obtain ⟨wait, due, hready⟩ := urgentReady_eng k s
  obtain ⟨hurg, -, hsteps, -⟩ := stopNorm_eng s
  rw [urgentStart_listed hp, hready]
  refine (runChain_urgent (b := false) rfl rfl (by simpa [hsteps] using hl)).trans ?_
  simp [listEng, hsteps, hurg, urgentReady_tick]

/-- A preemption whose list begins with a DELAY waits in it (R25, R87). -/
theorem runChain_preempt (h : ListDelays k i s) :
    ∃ x : State, runChain (preempt k s) = x.setEng (listEng k i s
        { s.eng with last := { s.eng.inflight with
          isOpen := false, outcome := some .stopped, endTick := some s.clock.tick } }) ∧
      x.psc = s.psc ∧ x.fault = s.fault ∧ x.wake = s.wake ∧ x.agent = s.agent ∧ x.loader = s.loader ∧ x.rails = s.rails ∧
      x.powered = s.powered := by
  obtain ⟨hp, rfl, hl⟩ := h
  have htick (x : State) (e : Engine) : (forceFast (x.setEng e)).clock.tick = x.clock.tick := by
    rw [forceFast_clock]
    split <;> rfl
  refine ⟨forceFast (openReport (.urgent k) s.psc.current .softOff (closeReport .stopped (cutStep s))), ?_, by simp⟩
  unfold preempt
  dsimp only
  rw [startUrgentList_listed (by simpa using hp)]
  refine (runChain_urgent (b := false) rfl rfl ?_).trans ?_
  · simpa [openReport, closeReport, cutStep_eng] using hl
  · simp [listEng, openReport, closeReport, cutStep_eng, htick, openedUrgent]

/-- The urgent start, seen from a state whose rails, wakes and lists are the same (R83, R85). -/
theorem runsUrgent_start (h : ListDelays k i s) : RunsUrgent k i s (runChain (urgentStart k s)) := by
  obtain ⟨-, -, hsteps, -⟩ := stopNorm_eng s
  rw [runChain_urgentStart h]
  have hpsc := urgentReady_psc k s
  refine ⟨?_, ?_, ?_, ?_, ?_, rfl, rfl, rfl, rfl, rfl, rfl, rfl, rfl, rfl, rfl, hsteps, ?_⟩
  · rw [State.setEng_psc, hpsc]
  · rw [State.setEng_psc, hpsc]
  · rw [State.setEng_psc, hpsc]
  · rw [State.setEng_psc, hpsc]
  · rw [State.setEng_psc, hpsc]
  · simp [urgentReady]

/-- What an urgent start leaves besides: latch and marks, the Fault Record, the Wake Unit and the report it closes. -/
theorem urgentStart_leaves (h : ListDelays k i s) :
    (runChain (urgentStart k s)).psc =
        { s.psc with state := .urgent, target := .softOff, commit := false, haltedFrom := none, gateClosed := true } ∧
      (runChain (urgentStart k s)).fault = s.fault ∧ (runChain (urgentStart k s)).wake = s.wake ∧
      (runChain (urgentStart k s)).eng.norm.st = .idle ∧
      (runChain (urgentStart k s)).eng.last = (stopNorm s).eng.last := by
  rw [runChain_urgentStart h]
  refine ⟨?_, ?_, ?_, stopNorm_idle s, rfl⟩
  · rw [State.setEng_psc, urgentReady_psc]
  · simp [urgentReady]
  · simp [urgentReady]

theorem preempted_preempt (h : ListDelays k i s) (hstate : s.psc.state = .urgent) (htarget : s.psc.target = .softOff)
    (hgate : s.psc.gateClosed = true) : Preempted k i s (runChain (preempt k s)) := by
  obtain ⟨x, hx, hpsc, hfault, hwake, hagent, hloader, hrails, -⟩ := runChain_preempt h
  rw [hx]
  refine ⟨⟨?_, ?_, ?_, ?_, ?_, rfl, rfl, rfl, rfl, rfl, rfl, rfl, rfl, rfl, rfl, rfl, hrails, hagent, hloader, ?_⟩, ?_, hfault,
    rfl, rfl, rfl, rfl⟩ <;> simp [hpsc, hstate, htarget, hgate, hwake]

/-! ## FAULT triggers (R91) -/

/-- The first fault that a trigger writes (R91). -/
abbrev firstFault (c : FaultCause) (subject : Fin 256) (s : State) : FirstFault :=
  { cause := c, subject := subject, psc := s.psc.state, level := s.psc.current, tick := s.clock.tick }

theorem writeFault_fault (c : FaultCause) (subject : Fin 256) (s : State) :
    (s.fault.first = none → (writeFault c subject s).fault = { s.fault with first := some (firstFault c subject s) }) ∧
    (s.fault.first.isSome = true →
      (writeFault c subject s).fault = { s.fault with further := min 255 (s.fault.further + 1) }) := by
  unfold writeFault
  cases hf : s.fault.first with
  | none => simp
  | some f => simp [satInc_max8, hf]

theorem writeFault_eq (c : FaultCause) (subject : Fin 256) (s : State) :
    writeFault c subject s = s.setFault (writeFault c subject s).fault := by
  unfold writeFault
  split <;> rfl

theorem triggerFault_running (c : FaultCause) (subject : Fin 256) (h : s.eng.urg.running = true) :
    triggerFault c subject s = writeFault c subject s := if_pos h

/-- The state from which a FAULT trigger starts its list. -/
def faultNoted (c : FaultCause) (subject : Fin 256) (s : State) : State :=
  (writeFault c subject s).setPsc { s.psc with latch := true }

theorem triggerFault_idle (c : FaultCause) (subject : Fin 256) (h : s.eng.urg.running = false) :
    triggerFault c subject s = urgentStart .fault (faultNoted c subject s) := by
  unfold triggerFault faultNoted
  dsimp only
  rw [if_neg (by simp [h])]
  simp

theorem urgentStart_psc (k : UrgKind) (s : State) : (urgentStart k s).psc =
    { s.psc with state := .urgent, target := .softOff, commit := false, haltedFrom := none, gateClosed := true } := by
  rw [urgentStart_eq]
  simp [urgentReady_psc]

/-- Settles O18: the Fault Record by `writeFault`, and the latch with the urgent start. -/
theorem faultTriggerRecords : Obligations.FaultTriggerRecords := by
  intro c subject s
  have hfault : (triggerFault c subject s).fault = (writeFault c subject s).fault := by
    by_cases hu : s.eng.urg.running = true
    · rw [triggerFault_running c subject hu]
    · rw [triggerFault_idle c subject (by simpa using hu)]
      simp [faultNoted]
  obtain ⟨hnone, hsome⟩ := writeFault_fault c subject s
  refine ⟨fun h => hfault.trans (hnone h), fun h => hfault.trans (hsome h), fun hu => ?_, fun hu => ?_, by simp⟩
  · rw [triggerFault_running c subject hu]
    simp
  · rw [triggerFault_idle c subject hu, urgentStart_psc]
    exact ⟨rfl, rfl⟩

/-- A FAULT trigger whose list begins with a DELAY: the list waits, the latch is set, the first fault stands (R83, R91). -/
theorem triggerFault_runs (subject : Fin 256) (hu : s.eng.urg.running = false) (hf : s.fault.first = none)
    (h : ListDelays .fault i s) :
    let t := runChain (triggerFault c subject s)
    RunsUrgent .fault i s t ∧ t.psc.latch = true ∧ t.eng.norm.st = .idle ∧ t.wake = s.wake ∧
      t.fault.first = some (firstFault c subject s) ∧
      t.eng.last = (stopNorm s).eng.last := by
  have hnoted : faultNoted c subject s = (s.setFault (writeFault c subject s).fault).setPsc { s.psc with latch := true } := by
    unfold faultNoted
    rw [writeFault_eq]
    rfl
  have hlist : ListDelays .fault i (faultNoted c subject s) := by
    rw [hnoted]
    exact h
  have hlast : (stopNorm (faultNoted c subject s)).eng.last = (stopNorm s).eng.last := by
    obtain ⟨-, -, -, -, hidle, hnot⟩ := stopNorm_eng (faultNoted c subject s)
    obtain ⟨-, -, -, -, hidle', hnot'⟩ := stopNorm_eng s
    have heng : (faultNoted c subject s).eng = s.eng := by simp [hnoted]
    have htick : (faultNoted c subject s).clock = s.clock := by simp [hnoted]
    rw [heng, htick] at hnot
    rw [heng] at hidle
    by_cases hn : s.eng.norm.st = .idle
    · rw [hidle hn, hidle' hn]
    · rw [hnot hn, hnot' hn]
  have hruns := runsUrgent_start hlist
  obtain ⟨hpsc, hfault, hwake, hst, hl⟩ := urgentStart_leaves hlist
  dsimp only
  rw [triggerFault_idle c subject hu]
  refine ⟨?_, ?_, hst, ?_, ?_, hl.trans hlast⟩
  · rw [hnoted] at hruns ⊢
    exact hruns
  · rw [hpsc, hnoted]
    rfl
  · rw [hwake, hnoted]
    rfl
  · rw [hfault, hnoted, State.setPsc_fault, State.setFault_fault, (writeFault_fault c subject s).1 hf]

end Sys2Proof.Machine

/-! PROOFS. The Wake Unit: the samples of the line detectors, the fires they make, and board WAKE frames. -/

namespace Sys2Proof.Machine

variable {s t u : State} {src : Fin 9} {order : EffectOrder}

theorem activeHigh_iff {m : Detect} : activeHigh m = true ↔ m = .rise ∨ m = .high := by cases m <;> simp [activeHigh]

theorem levelMode_iff {m : Detect} : levelMode m = true ↔ m = .high ∨ m = .low := by cases m <;> simp [levelMode]

/-- A DETECTOR_SAMPLE that is due takes its sample (R100). -/
theorem exec_detectorSample (hs : AtRest s) (hload : s.psc.state ≠ .loading) (hdue : peek s.boundary.det src = true)
    (he : detectorSample src order s = t) (ht : t.eng.due = .nothing) :
    exec (.detectorSample src order) s = .next t := by
  show execDetectorSample src order s = _
  exact whilePowered_next hs.1 (by simp [hdue, hload, he]) ht

/-- The sample of a detector is taken and is the most recent one (R100). -/
def lineTaken (src : Fin 9) (s : State) : State :=
  (s.setBoundary { s.boundary with det := poke s.boundary.det src false }).setWake
    { s.wake with sample := poke s.wake.sample src (lineLevel s.pins.now src) }

/-- The state of a detector that a sample asks for, and the detector after the sample (R99, R100). -/
abbrev asksActive (src : Fin 9) (s : State) : Bool :=
  decide (lineLevel s.pins.now src = activeHigh (peek s.wake.table (lineSource src)).mode)
abbrev sampledDet (src : Fin 9) (s : State) : Detector × Bool :=
  detectorStep (actingFilter (peek s.wake.table (lineSource src)).width) (asksActive src s) (peek s.wake.det src)

theorem detectorSample_eq (src : Fin 9) (order : EffectOrder) (s : State) :
    detectorSample src order s =
      if (sampledDet src s).2 = false then setDet src (sampledDet src s).1 (lineTaken src s)
      else if asksActive src s = true then activeEffects src order (lineTaken src s)
      else inactiveEffects src (setDet src (sampledDet src s).1 (lineTaken src s)) := by
  have hsample : peek (takeSample src (s.setBoundary { s.boundary with det := poke s.boundary.det src false })).wake.sample
      src = lineLevel s.pins.now src := peek_poke_self ..
  unfold detectorSample
  simp only [hsample]
  simp [takeSample, lineTaken, sampledDet]

/-- A sample that brings its detector to the other state (R100). -/
theorem detectorStep_turned {w : Nat} {b : Bool} {d : Detector} (hd : d.active ≠ b) (hw : w ≤ d.count + 1) :
    detectorStep w b d = ({ active := b, count := 0 }, true) := by simp [detectorStep, hd, hw]

theorem detectorStep_agrees {w : Nat} {b : Bool} {d : Detector} (hd : d.active = b) :
    detectorStep w b d = ({ d with count := 0 }, false) := by simp [detectorStep, hd]

theorem detectorStep_counts {w : Nat} {b : Bool} {d : Detector} (hd : d.active ≠ b) (hw : d.count + 1 < w) :
    detectorStep w b d = ({ d with count := d.count + 1 }, false) := by
  simp [detectorStep, hd, Nat.not_le.2 hw]

section
variable (order)

theorem detectorSample_agrees (hd : (peek s.wake.det src).active = asksActive src s) :
    detectorSample src order s = setDet src { peek s.wake.det src with count := 0 } (lineTaken src s) := by
  rw [detectorSample_eq, sampledDet, detectorStep_agrees hd, if_pos rfl]

theorem detectorSample_counts (hd : (peek s.wake.det src).active ≠ asksActive src s)
    (hw : (peek s.wake.det src).count + 1 < actingFilter (peek s.wake.table (lineSource src)).width) :
    detectorSample src order s =
      setDet src { peek s.wake.det src with count := (peek s.wake.det src).count + 1 } (lineTaken src s) := by
  rw [detectorSample_eq, sampledDet, detectorStep_counts hd hw, if_pos rfl]

theorem detectorSample_inactive (hd : (peek s.wake.det src).active = true) (ha : asksActive src s = false)
    (hw : actingFilter (peek s.wake.table (lineSource src)).width ≤ (peek s.wake.det src).count + 1) :
    detectorSample src order s =
      inactiveEffects src (setDet src { active := false, count := 0 } (lineTaken src s)) := by
  rw [detectorSample_eq, sampledDet, detectorStep_turned (by simp [hd, ha]) hw, ha]
  simp

theorem detectorSample_active (hd : (peek s.wake.det src).active = false) (ha : asksActive src s = true)
    (hw : actingFilter (peek s.wake.table (lineSource src)).width ≤ (peek s.wake.det src).count + 1) :
    detectorSample src order s = activeEffects src order (lineTaken src s) := by
  rw [detectorSample_eq, sampledDet, detectorStep_turned (by simp [hd, ha]) hw, ha]
  simp

end

/-- Settles O22: the three results of a sample that are no change to ACTIVE. -/
theorem detectorCounts : Obligations.DetectorCounts := by
  intro src order s hs hload hdue
  have hactive : decide (lineLevel s.pins.now src = true ↔ ((peek s.wake.table (lineSource src)).mode = .rise ∨
      (peek s.wake.table (lineSource src)).mode = .high)) = asksActive src s := by
    simp only [asksActive, ← activeHigh_iff, Bool.coe_iff_coe]
  dsimp only
  rw [hactive]
  refine ⟨fun hd => ?_, fun hd hw => ?_, fun hd ha hw => ?_⟩
  · exact exec_detectorSample hs hload hdue (detectorSample_agrees order hd) hs.2
  · exact exec_detectorSample hs hload hdue (detectorSample_counts order hd hw) hs.2
  · refine exec_detectorSample hs hload hdue ((detectorSample_inactive order hd ha hw).trans ?_) hs.2
    unfold inactiveEffects
    split <;> simp [setDet, lineTaken, *]

/-! ## A change to ACTIVE -/

/-- The most recent sample is taken and the detector is ACTIVE: the state in which the effects of the change come. -/
def wentActive (src : Fin 9) (s : State) : State := setDet src { active := true, count := 0 } (lineTaken src s)

theorem timerEffect_of_ne (h : src.val ≠ 8) (s : State) : timerEffect src s = s := if_neg h

theorem guardEffect_of_line (h : src.val ≠ 8) (ht : isTripLine s src = false) : guardEffect src s = s := by
  simp [guardEffect, h, ht]

/-- Three effects of which only the fire does something (R101). -/
theorem activeEffects_of_line (order : EffectOrder) (hsrc : src.val ≠ 8) (htrip : isTripLine s src = false)
    (hd : s.eng.due = .nothing) (hf : fireEffect src s = t) (ht : t.eng.due = .nothing) (hp : t.psc = s.psc) :
    activeEffects src order s = t := by
  have htrip' : isTripLine t src = false := by simpa only [isTripLine, hp] using htrip
  have hfire : runChain (fireEffect src s) = t := by rw [hf, runChain_of_rest ht]
  have hguard : runChain (guardEffect src s) = s := by rw [guardEffect_of_line hsrc htrip, runChain_of_rest hd]
  have hguard' : runChain (guardEffect src t) = t := by rw [guardEffect_of_line hsrc htrip', runChain_of_rest ht]
  have htimer (u : State) : timerEffect src u = u := timerEffect_of_ne hsrc u
  unfold activeEffects
  cases order <;> simp only [htimer, hfire, hguard, hguard', runChain_of_rest hd, runChain_of_rest ht]

theorem fired_frame (n : Fin 14) (s : State) : (fired n s).psc = s.psc ∧ (fired n s).eng = s.eng := by
  have hnoted (n : Fin 14) (s : State) : (noticed n s).psc = s.psc ∧ (noticed n s).eng = s.eng := by
    rw [noticed_frame]
    exact ⟨rfl, rfl⟩
  unfold fired
  dsimp only
  split_ifs
  · exact ⟨rfl, rfl⟩
  · exact hnoted n s
  · exact ⟨rfl, rfl⟩
  · exact hnoted n _
  · exact ⟨rfl, rfl⟩

/-- Settles O23: of the three effects only the fire acts, as `fire_eq` says. -/
theorem detectorFires : Obligations.DetectorFires := by
  intro src order s hs hload hdue hslots hsrc htrip
  dsimp only
  intro hd hlevel hw
  obtain ⟨hpsc, heng⟩ := fired_frame (lineSource src) (wentActive src s)
  have hfire : fireEffect src (lineTaken src s) = fired (lineSource src) (wentActive src s) :=
    fire_eq _ (slotsOffered_of_same hslots rfl rfl rfl rfl)
  have hdone : (fired (lineSource src) (wentActive src s)).eng.due = .nothing := by rw [heng]; exact hs.2
  have heffects : activeEffects src order (lineTaken src s) = fired (lineSource src) (wentActive src s) := by
    refine activeEffects_of_line order (by omega) ?_ hs.2 hfire hdone (by rw [hpsc]; rfl)
    show isTripLine s src = false
    simpa [isTripLine] using htrip
  refine exec_detectorSample hs hload hdue ((detectorSample_active order hd ?_ hw).trans heffects) hdone
  simpa [asksActive] using hlevel

/-- A change to ACTIVE of a source that its mask does not arm sets the detector alone (R104). -/
theorem fireEffect_unarmed (h : inMask (peek s.wake.table (lineSource src)).mask s.wake.armed = false) :
    fireEffect src s = setDet src { active := true, count := 0 } s := by
  unfold fireEffect fire
  rw [if_neg (by simpa [setDet] using h)]

theorem inMask_zero (l : Level) : inMask 0 l = false := by simp [inMask]

/-- Settles O25: the FAULT trigger runs its list before or after the detector is set, which the list does not see. -/
theorem tripStartsFault : Obligations.TripStartsFault := by
  intro src order s hs hload hdue hsrc hu hpresent htrip hmask hf hd hlevel hw hlist hlong
  have hne : src.val ≠ 8 := by omega
  have hdelays : ListDelays .fault s.psc.policy1.fault.value s := ⟨hlist, rfl, hlong⟩
  obtain ⟨hruns, hlatch, -, hwake, hfirst, -⟩ :=
    triggerFault_runs (c := .trip) (Fin.ofNat 256 src.val) (s := lineTaken src s) hu hf hdelays
  obtain ⟨hruns', hlatch', -, -, hfirst', -⟩ :=
    triggerFault_runs (c := .trip) (Fin.ofNat 256 src.val) (s := wentActive src s) hu hf hdelays
  generalize hfirst_run : runChain (triggerFault .trip (Fin.ofNat 256 src.val) (lineTaken src s)) = t₁ at *
  generalize hlast_run : runChain (triggerFault .trip (Fin.ofNat 256 src.val) (wentActive src s)) = t₂ at *
  have hrest₁ : t₁.eng.due = .nothing := by obtain ⟨-, -, -, -, -, -, -, -, -, -, -, hdue, -⟩ := hruns; exact hdue
  have hrest₂ : t₂.eng.due = .nothing := by obtain ⟨-, -, -, -, -, -, -, -, -, -, -, hdue, -⟩ := hruns'; exact hdue
  have hunarmed (x : State) (hx : x.wake.table = s.wake.table) :
      fireEffect src x = setDet src { active := true, count := 0 } x := by
    refine fireEffect_unarmed ?_
    rw [hx, hmask]
    exact inMask_zero _
  have htripline (x : State) (hx : x.psc = s.psc) : guardEffect src x = triggerFault .trip (Fin.ofNat 256 src.val) x := by
    simp [guardEffect, hne, isTripLine, hx, hpresent, htrip]
  have hfire : runChain (fireEffect src (lineTaken src s)) = wentActive src s := by
    rw [hunarmed (lineTaken src s) rfl]
    exact runChain_of_rest (s := wentActive src s) hs.2
  have hg : runChain (guardEffect src (lineTaken src s)) = t₁ := by
    rw [htripline (lineTaken src s) rfl, hfirst_run]
  have hfg : runChain (fireEffect src t₁) = setDet src { active := true, count := 0 } t₁ := by
    rw [hunarmed _ (by rw [hwake]; rfl)]
    exact runChain_of_rest hrest₁
  have hgf : runChain (guardEffect src (wentActive src s)) = t₂ := by
    rw [htripline (wentActive src s) rfl, hlast_run]
  have hends : activeEffects src order (lineTaken src s) = t₂ ∨
      activeEffects src order (lineTaken src s) = setDet src { active := true, count := 0 } t₁ := by
    have htimer (x : State) : timerEffect src x = x := timerEffect_of_ne hne x
    have hset : (setDet src { active := true, count := 0 } t₁).eng.due = .nothing := hrest₁
    unfold activeEffects
    cases order <;>
      simp [htimer, hfire, hg, hfg, hgf, runChain_of_rest hrest₁, runChain_of_rest hrest₂, runChain_of_rest hset,
        runChain_of_rest (s := lineTaken src s) hs.2, runChain_of_rest (s := wentActive src s) hs.2]
  have hexec (t : State) (ht : activeEffects src order (lineTaken src s) = t) (hdone : t.eng.due = .nothing) :
      exec (.detectorSample src order) s = .next t :=
    exec_detectorSample hs hload hdue ((detectorSample_active order hd (by simpa [asksActive] using hlevel) hw).trans ht) hdone
  obtain h | h := hends
  · exact ⟨_, hexec _ h hrest₂, hruns', hlatch', hfirst'⟩
  · exact ⟨_, hexec _ h hrest₁, hruns, hlatch, hfirst⟩

/-! ## The override hold timer (R93, R94) -/

theorem overrideDue_iff {o : OverrideTimer} (h : s.wake.overrideT = some o) :
    overrideDue s = true ↔ elapsed s o.start = o.duration := by
  unfold overrideDue
  rw [h]
  simp

/-- The state with the override timer IDLE. -/
def timerIdle (s : State) : State := s.setWake { s.wake with overrideT := none }

theorem exec_overrideTimerExpiry (hs : AtRest s) {o : OverrideTimer} (ho : s.wake.overrideT = some o)
    (he : (s.clock.tick - o.start).toNat = o.duration) :
    exec .overrideTimerExpiry s = .next (runChain (overrideExpires s)) := by
  show execOverrideTimerExpiry s = _
  unfold execOverrideTimerExpiry
  rw [whilePowered_on _ hs.1, if_pos ((overrideDue_iff ho).2 he)]

theorem overrideExpires_ignored (h : s.psc.state = .softOff ∨ s.psc.state = .hibernate ∨ s.psc.state = .loading) :
    overrideExpires s = timerIdle s := by
  unfold overrideExpires
  obtain h | h | h := h <;> simp only [State.setWake_psc, h] <;> rfl

theorem overrideExpires_triggers (h : s.psc.state = .working ∨ s.psc.state = .suspend ∨ s.psc.state = .transit ∨
    s.psc.state = .backout ∨ s.psc.state = .halted ∨ s.psc.state = .urgent) :
    overrideExpires s = triggerOverride (timerIdle s) := by
  unfold overrideExpires
  obtain h | h | h | h | h | h := h <;> simp only [State.setWake_psc, h] <;> rfl

theorem triggerOverride_idle (h : s.eng.urg.running = false) : triggerOverride s = urgentStart .override s := by
  simp [triggerOverride, h]

theorem triggerOverride_preempts (h : s.eng.urg.running = true) (hk : s.eng.urg.kind = some .fault) :
    triggerOverride s = preempt .override s := by
  simp [triggerOverride, h, hk]

theorem triggerOverride_ignored (h : s.eng.urg.running = true) (hk : s.eng.urg.kind ≠ some .fault) :
    triggerOverride s = s := by
  simp [triggerOverride, h, hk]

theorem overrideExpiryIgnored : Claims.OverrideExpiryIgnored := by
  intro s o hs ho he h
  have hidle : overrideExpires s = timerIdle s := by
    obtain h | h | h | ⟨h, hu, hk⟩ := h
    · exact overrideExpires_ignored (.inl h)
    · exact overrideExpires_ignored (.inr (.inl h))
    · exact overrideExpires_ignored (.inr (.inr h))
    · rw [overrideExpires_triggers (.inr (.inr (.inr (.inr (.inr h)))))]
      refine triggerOverride_ignored (s := timerIdle s) hu fun hf => ?_
      have hk' : s.eng.urg.kind = some .fault := hf
      obtain hk | hk := hk <;> simp [hk] at hk'
  rw [exec_overrideTimerExpiry hs ho he, hidle]
  exact congrArg _ (runChain_of_rest hs.2)

theorem overrideStartsList : Claims.OverrideStartsList := by
  intro s o hs ho he hu hstate hp hl
  have hlist : ListDelays .override s.psc.policy1.override.value (timerIdle s) := ⟨hp, rfl, hl⟩
  obtain ⟨hpsc, hfault, hwake, -⟩ := urgentStart_leaves hlist
  refine ⟨_, exec_overrideTimerExpiry hs ho he, ?_⟩
  rw [overrideExpires_triggers (by tauto), triggerOverride_idle (s := timerIdle s) hu]
  exact ⟨runsUrgent_start hlist, by rw [hwake]; rfl, by rw [hpsc]; rfl, hfault⟩

theorem overridePreempts : Claims.OverridePreempts := by
  intro s o hs ho he hstate htarget hgate hu hk hp hl
  have hlist : ListDelays .override s.psc.policy1.override.value (timerIdle s) := ⟨hp, rfl, hl⟩
  refine ⟨_, exec_overrideTimerExpiry hs ho he, ?_⟩
  rw [overrideExpires_triggers (by tauto), triggerOverride_preempts (s := timerIdle s) hu hk]
  refine ⟨preempted_preempt (s := timerIdle s) hlist hstate htarget hgate, ?_⟩
  obtain ⟨x, hx, -, -, hwake, -⟩ := runChain_preempt hlist
  rw [hx, State.setEng_wake, hwake]
  rfl

/-- Settles O20: the expiry by PSC state, then the start or the preemption. -/
theorem overrideExpiry : Obligations.OverrideExpiry := ⟨overrideExpiryIgnored, overrideStartsList, overridePreempts⟩

/-! ## The AC-fail detector (R95, R96, R97) -/

/-- The AC-fail sample of the boundary is taken, the detector in its next state. -/
def pfailTaken (d : Detector) (s : State) : State :=
  (s.setBoundary { s.boundary with pfail := false }).setWake { s.wake with pfail := d }

theorem exec_pfailSample (hs : AtRest s) (hload : s.psc.state ≠ .loading) (hdue : s.boundary.pfail = true)
    (he : runChain (pfailSample s) = t) : exec .pfailSample s = .next t := by
  show execPfailSample s = _
  unfold execPfailSample
  rw [whilePowered_on _ hs.1, if_pos (by simp [hdue, hload]), he]

/-- The AC-fail detector after a sample, and whether it turned (R95). -/
abbrev pfailStep (s : State) : Detector × Bool :=
  detectorStep (actingFilter s.psc.policy0.pfailWidth) (!s.pins.now.pfail) s.wake.pfail

theorem pfailSample_eq (s : State) : pfailSample s =
    if (pfailStep s).2 = false then pfailTaken (pfailStep s).1 s
    else if (!s.pins.now.pfail) = true then triggerPowerfail (pfailTaken (pfailStep s).1 s)
    else acRestore (pfailTaken (pfailStep s).1 s) := by
  unfold pfailSample pfailTaken
  simp

theorem pfailSample_counts (hd : s.wake.pfail.active ≠ !s.pins.now.pfail)
    (hw : s.wake.pfail.count + 1 < actingFilter s.psc.policy0.pfailWidth) :
    pfailSample s = pfailTaken { s.wake.pfail with count := s.wake.pfail.count + 1 } s := by
  rw [pfailSample_eq, pfailStep, detectorStep_counts hd hw, if_pos rfl]

section
variable (hw : actingFilter s.psc.policy0.pfailWidth ≤ s.wake.pfail.count + 1)
include hw

theorem pfailSample_lost (hd : s.wake.pfail.active = false) (ha : (!s.pins.now.pfail) = true) :
    pfailSample s = triggerPowerfail (pfailTaken { active := true, count := 0 } s) := by
  rw [pfailSample_eq, pfailStep, detectorStep_turned (by simp [hd, ha]) hw, ha]
  simp

theorem pfailSample_restored (hd : s.wake.pfail.active = true) (ha : (!s.pins.now.pfail) = false) :
    pfailSample s = acRestore (pfailTaken { active := false, count := 0 } s) := by
  rw [pfailSample_eq, pfailStep, detectorStep_turned (by simp [hd, ha]) hw, ha]
  simp

end

theorem restoreMark_eq (p : PscState) :
    restoreMark p = !(decide (p = .suspend) || decide (p = .hibernate) || decide (p = .softOff)) := by
  cases p <;> rfl

/-- The restore-on mark is written by an AC loss (R21). -/
def marked (s : State) : State := s.setPsc { s.psc with restoreOn := restoreMark s.psc.state }

theorem triggerPowerfail_idle (h : s.eng.urg.running = false) :
    triggerPowerfail s = urgentStart .powerfail (marked s) := by
  simp [triggerPowerfail, h, marked]

theorem triggerPowerfail_preempts (h : s.eng.urg.running = true) (hk : s.eng.urg.kind ≠ some .powerfail) :
    triggerPowerfail s = preempt .powerfail (marked s) := by
  simp [triggerPowerfail, h, hk, marked]

theorem triggerPowerfail_running (h : s.eng.urg.running = true) (hk : s.eng.urg.kind = some .powerfail) :
    triggerPowerfail s = s.setPsc { s.psc with pendingRestore := false } := by
  simp [triggerPowerfail, h, hk]

theorem acRestore_defers (h : s.eng.urg.running = true) (hk : s.eng.urg.kind = some .powerfail) :
    acRestore s = s.setPsc { s.psc with pendingRestore := true } := if_pos ⟨h, hk⟩

/-- Under STAY_OFF the restore action only clears the two marks (R22). -/
theorem acRestore_stayOff (h : ¬(s.eng.urg.running = true ∧ s.eng.urg.kind = some .powerfail))
    (hp : s.psc.policy0.restore = .stayOff) :
    acRestore s = s.setPsc { s.psc with pendingRestore := false, restoreOn := false } := by
  unfold acRestore restoreAction
  rw [if_neg h, hp]
  rfl

theorem pfailCounts : Claims.PfailCounts := by
  intro s hs hload hdue
  refine ⟨fun hd => ?_, fun hd hw => ?_, fun hd ha hw hu hp hl => ?_, fun hd ha hw hu hk => ?_, fun hd ha hw hu hp => ?_⟩
  · refine exec_pfailSample hs hload hdue ?_
    rw [pfailSample_eq, pfailStep, detectorStep_agrees hd, if_pos rfl]
    exact runChain_of_rest hs.2
  · refine exec_pfailSample hs hload hdue ?_
    rw [pfailSample_counts hd hw]
    exact runChain_of_rest hs.2
  · have hlist : ListDelays .powerfail s.psc.policy1.powerfail.value
        (marked (pfailTaken { active := true, count := 0 } s)) := ⟨hp, rfl, hl⟩
    obtain ⟨hpsc, hfault, hwake, -⟩ := urgentStart_leaves hlist
    refine ⟨_, exec_pfailSample hs hload hdue rfl, ?_⟩
    rw [pfailSample_lost hw hd ha, triggerPowerfail_idle (s := pfailTaken _ s) hu]
    refine ⟨runsUrgent_start hlist, by rw [hwake]; rfl, hfault, by rw [hpsc]; rfl, ?_⟩
    rw [hpsc, ← restoreMark_eq]
    rfl
  · refine exec_pfailSample hs hload hdue ?_
    rw [pfailSample_restored hw hd ha, acRestore_defers (s := pfailTaken _ s) hu hk]
    exact runChain_of_rest hs.2
  · refine exec_pfailSample hs hload hdue ?_
    rw [pfailSample_restored hw hd ha,
      acRestore_stayOff (s := pfailTaken _ s) (fun h => by simpa [pfailTaken, hu] using h.1) hp]
    exact runChain_of_rest hs.2

theorem ne_powerfail {k : Option UrgKind} (h : k = some .fault ∨ k = some .override) : k ≠ some .powerfail := by
  obtain rfl | rfl := h <;> simp

theorem pfailInUrgent : Claims.PfailInUrgent := by
  intro s hs hdue hstate htarget hgate hu
  have hload : s.psc.state ≠ .loading := by simp [hstate]
  refine fun hw => ⟨fun hd ha hk hp hl => ?_, fun hd ha hk => ?_, fun hd ha hk hp => ?_⟩
  · have hlist : ListDelays .powerfail s.psc.policy1.powerfail.value
        (marked (pfailTaken { active := true, count := 0 } s)) := ⟨hp, rfl, hl⟩
    refine ⟨_, exec_pfailSample hs hload hdue rfl, ?_⟩
    rw [pfailSample_lost hw hd ha, triggerPowerfail_preempts (s := pfailTaken _ s) hu (ne_powerfail hk)]
    obtain ⟨x, hx, hpsc, -, hwake, -⟩ := runChain_preempt hlist
    refine ⟨preempted_preempt (s := marked (pfailTaken _ s)) hlist hstate htarget hgate, ?_, ?_⟩
    · rw [hx, State.setEng_wake, hwake]
      rfl
    · rw [hx, State.setEng_psc, hpsc]
      show restoreMark s.psc.state = true
      rw [hstate]
      rfl
  · refine exec_pfailSample hs hload hdue ?_
    rw [pfailSample_lost hw hd ha, triggerPowerfail_running (s := pfailTaken _ s) hu hk]
    exact runChain_of_rest hs.2
  · refine exec_pfailSample hs hload hdue ?_
    rw [pfailSample_restored hw hd ha, acRestore_stayOff (s := pfailTaken _ s) (fun h => ne_powerfail hk h.2) hp]
    exact runChain_of_rest hs.2

/-- Settles O21: the sample by `detectorStep`, then the trigger or the restore. -/
theorem pfailSamples : Obligations.PfailSamples := ⟨pfailCounts, pfailInUrgent⟩

end Sys2Proof.Machine

/-! PROOFS. What follows a failed step, and the Normal channel past its last index. -/

namespace Sys2Proof.Machine

variable {s t u : State} {k : UrgKind} {i : Fin 256} {c : FaultCause}

/-! ## A FAULT trigger, whatever its list -/

/-- The Normal channel and the report closed by an urgent start, whatever its list (R47, R83). -/
theorem urgentStart_norm (k : UrgKind) (s : State) :
    (urgentStart k s).eng.norm.st = .idle ∧ (urgentStart k s).eng.last = (stopNorm s).eng.last := by
  obtain ⟨wait, due, hready⟩ := urgentReady_eng k s
  obtain ⟨i, start, wait', due', heng⟩ := startUrgentList_engine k (urgentReady k s)
  rw [urgentStart_eq, heng, hready]
  exact ⟨stopNorm_idle s, rfl⟩

/-- What a FAULT trigger leaves while no urgent list runs and the Normal channel is IDLE already (R83, R91). -/
theorem triggerFault_leaves (subject : Fin 256) (hu : s.eng.urg.running = false) (hf : s.fault.first = none)
    (hn : s.eng.norm.st = .idle) :
    let t := triggerFault c subject s
    t.psc.state = .urgent ∧ t.psc.latch = true ∧ t.eng.norm.st = .idle ∧ t.eng.last = s.eng.last ∧
      t.fault.first = some (firstFault c subject s) := by
  have heng : (faultNoted c subject s).eng = s.eng := by simp [faultNoted]
  obtain ⟨-, -, -, -, hidle, -⟩ := stopNorm_eng (faultNoted c subject s)
  obtain ⟨hst, hlast⟩ := urgentStart_norm .fault (faultNoted c subject s)
  dsimp only
  rw [triggerFault_idle c subject hu, urgentStart_psc]
  refine ⟨rfl, rfl, hst, ?_, ?_⟩
  · rw [hlast, hidle (by rw [heng]; exact hn), heng]
  · simp [faultNoted, (writeFault_fault c subject s).1 hf]

/-! ## Fail actions of the Normal channel (R43, R44, R45) -/

/-- The first failure is recorded (R43). -/
def failureNoted (k : FailKind) (s : State) : State := onReport (recordFailure s.eng.norm.idx k) s

/-- A retry is left: a stored count of 0 acts as 1 (R44). -/
theorem retryLimit_eq (r : Fin 4) : (if r.val = 0 then 1 else r.val) = max 1 r.val := by split <;> omega

theorem failNorm_retry {k : FailKind} (ha : s.eng.cur.action = .retry) :
    failNorm k s = retryOrBackOut (failureNoted k s) := by
  unfold failNorm
  dsimp only [failureNoted, onReport]
  rw [State.setEng_eng, ha]

theorem failNorm_backout {k : FailKind} (ha : s.eng.cur.action = .backout) :
    failNorm k s = backOutOrFault (failureNoted k s) := by
  unfold failNorm
  dsimp only [failureNoted, onReport]
  rw [State.setEng_eng, ha]

theorem failNorm_fault {k : FailKind} (ha : s.eng.cur.action = .fault) :
    failNorm k s = faultEnd (failureNoted k s) := by
  unfold failNorm
  dsimp only [failureNoted, onReport]
  rw [State.setEng_eng, ha]

theorem failNorm_exhausted {k : FailKind} (ha : s.eng.cur.action = .backout ∨
      s.eng.cur.action = .retry ∧ max 1 s.eng.cur.retry.val ≤ s.eng.norm.retries.val) :
    failNorm k s = backOutOrFault (failureNoted k s) := by
  obtain ha | ⟨ha, hr⟩ := ha
  · exact failNorm_backout ha
  · rw [failNorm_retry ha, retryOrBackOut, if_neg (by exact Nat.not_lt.2 hr)]

theorem faultEnd_leaves (hu : s.eng.urg.running = false) (hf : s.fault.first = none) :
    let t := faultEnd s
    t.psc.state = .urgent ∧ t.psc.latch = true ∧ t.eng.norm.st = .idle ∧
      t.eng.last.outcome = some .failedToFault ∧ t.eng.last.firstFailure = s.eng.inflight.firstFailure ∧
      t.fault.first = some (firstFault .step s.eng.norm.idx s) := by
  obtain ⟨hstate, hlatch, hst, hlast, hfirst⟩ :=
    triggerFault_leaves (c := .step) s.eng.norm.idx (s := closeReport .failedToFault (idleNorm s)) hu hf rfl
  refine ⟨hstate, hlatch, hst, ?_, ?_, hfirst⟩
  · exact (congrArg Report.outcome hlast).trans rfl
  · exact (congrArg Report.firstFailure hlast).trans rfl

theorem normalFailures : Claims.NormalFailures := by
  intro k s hu hf
  dsimp only
  rw [retryLimit_eq]
  refine ⟨fun ha hr hm hp => ?_, fun ha hcan => ?_, fun ha => ?_⟩
  · rw [failNorm_retry ha, retryOrBackOut, if_pos (by exact hr), haltPoint, if_neg (by
      show ¬(s.eng.norm.haltPending || s.eng.stepMode) = true
      simp [hm, hp])]
    exact ⟨rfl, rfl, rfl, rfl, rfl⟩
  · rw [failNorm_exhausted ha, backOutOrFault, if_pos (by exact hcan)]
    simp [backOut, startNorm, cutStep_eng, failureNoted, onReport, recordFailure]
  · have hend : failNorm k s = faultEnd (failureNoted k s) := by
      obtain ha | ⟨ha, hcan⟩ := ha
      · exact failNorm_fault ha
      · rw [failNorm_exhausted ha, backOutOrFault, if_neg (by exact hcan)]
    rw [hend]
    exact faultEnd_leaves (s := failureNoted k s) hu hf

/-! ## Past index 255 (R25) -/

theorem leadOn_last (h : s.eng.norm.idx = 255) : leadOn s = runawayNorm s := by
  unfold leadOn
  rw [dif_pos (by rw [h]; rfl)]

/-- The Normal channel past its last index, seen from the state in which its last step ended (R25, R91). -/
theorem runawayNorm_runs (hu : s.eng.urg.running = false) (hf : s.fault.first = none) (h : ListDelays .fault i s) :
    let t := runChain (runawayNorm s)
    RunsUrgent .fault i s t ∧ t.psc.latch = true ∧ t.eng.norm.st = .idle ∧
      t.eng.last.outcome = some .runaway ∧ t.eng.last.endTick = some s.clock.tick ∧
      t.eng.last.firstFailure = s.eng.inflight.firstFailure ∧ t.eng.last.warnings = s.eng.inflight.warnings ∧
      t.fault.first = some (firstFault .runaway 255 s) := by
  unfold runawayNorm
  generalize hx : (if commitsHere s && Config.commitsAtRunaway s.uses then commitNow s else s) = x
  have hcase : x = commitNow s ∨ x = s := by
    rw [← hx]
    exact ite_eq_or_eq ..
  have hclose : ListDelays .fault i (closeReport .runaway (idleNorm (x.setUses (x.uses + 1)))) := by
    obtain rfl | rfl := hcase <;> exact h
  obtain ⟨hruns, hlatch, hst, -, hfirst, hlast⟩ := triggerFault_runs (c := .runaway) 255
    (by obtain rfl | rfl := hcase <;> exact hu) (by obtain rfl | rfl := hcase <;> exact hf) hclose
  obtain ⟨-, -, -, -, hidle, -⟩ := stopNorm_eng (closeReport .runaway (idleNorm (x.setUses (x.uses + 1))))
  rw [hidle rfl] at hlast
  dsimp only
  refine ⟨?_, hlatch, hst, (congrArg Report.outcome hlast).trans rfl, (congrArg Report.endTick hlast).trans ?_,
    (congrArg Report.firstFailure hlast).trans ?_, (congrArg Report.warnings hlast).trans ?_, hfirst.trans ?_⟩
  · obtain rfl | rfl := hcase <;> exact hruns
  all_goals obtain rfl | rfl := hcase <;> rfl

theorem normalRunsAway : Claims.NormalRunsAway := by
  intro k s hs hn hw hkind hidx he hready hk
  obtain ⟨hu, hf, hp, hl⟩ := hready
  have htimed : isTimed s.eng.cur.kind = true := by
    obtain rfl | ⟨hk, -⟩ := hk
    · rw [hkind]; rfl
    · rw [hkind]; exact (onlyTimesOut.ne hk).2.2
  have hexec := exec_stepTimerExpiry hs (stepTimerDue_normal hw hn hu htimed he)
  have hlist : ListDelays .fault s.psc.policy1.fault.value s := ⟨hp, rfl, hl⟩
  refine ⟨_, hexec, ?_⟩
  by_cases hd : k = .delay
  · subst hd
    have hrun : runChain (stepExpires s) = runChain (runawayNorm (ended s)) := by
      rw [stepExpires_delay hkind, succeed, runChain_ended_normal hn hu, endNorm_ok (by simp [hkind]),
        leadOn_last (s := ended s) hidx]
    rw [hrun, if_pos rfl]
    exact runawayNorm_runs (s := ended s) hu hf hlist
  · obtain ⟨hk, ha⟩ := hk.resolve_left hd
    have hrun : runChain (stepExpires s) = runChain (runawayNorm (ended (warnedOf .timeout s))) := by
      rw [stepExpires_timeout (hkind ▸ hk), runChain_ended_normal hn hu, endNorm_failed ha,
        leadOn_last (s := ended (warnedOf .timeout s)) hidx]
    have hwarn : warned s.eng.norm.idx .timeout s.eng.inflight = warned 255 .timeout s.eng.inflight := by
      rw [hidx]
    rw [hrun, if_neg hd, ← hwarn]
    exact runawayNorm_runs (s := ended (warnedOf .timeout s)) hu hf hlist

/-- Settles O30: the fail actions by branch, the failures of the Urgent channel, and the runaway. -/
theorem failActions : Obligations.FailActions := ⟨normalFailures, urgentFailures, normalRunsAway⟩

end Sys2Proof.Machine

/-! PROOFS. The waits for a line and for the fast clock, the settle of a list and the wakes it takes. -/

namespace Sys2Proof.Machine

variable {s t u : State} {k : StepKind}

theorem SteppingIn.waits (h : SteppingIn s k) : waitsIn s k = true := by
  obtain ⟨-, hn, -, hw, hk, -⟩ := h
  exact waitsIn_iff.2 ⟨hw, hk, by simp [channelRuns, hn]⟩

theorem SteppingIn.rest (h : SteppingIn s k) : AtRest s :=
  let ⟨hs, _⟩ := h
  hs

/-! ## A line wait (R36) -/

/-- The sample of one of the eight input lines becomes the most recent one. -/
theorem takeSample_line (n : Fin 8) (s : State) :
    takeSample (Fin.castLE (by decide) n) s =
      s.setWake { s.wake with sample := poke s.wake.sample (Fin.castLE (by decide) n) (s.pins.now.ins.getLsbD n.val) } := by
  unfold takeSample lineLevel
  rw [if_pos (by simp)]
  simp

/-- Settles O32: the sample that the row takes is the one that `lineSampled` then reads. -/
theorem waitLineEnds : Obligations.WaitLineEnds := by
  intro s h
  have hexec : exec .waitLineCompletes s = .next (runChain (awaitLine s)) := by
    show execWaitLineCompletes s = _
    unfold execWaitLineCompletes
    rw [whilePowered_on _ h.rest.1, if_pos h.waits]
  have hsampled (b : Bool) (x : Vector Bool 9) (v : Bool) :
      lineSampled (s.setWake { s.wake with sample := poke x (Fin.castLE (by decide) (lineOf s.eng.cur)) v })
        (lineOf s.eng.cur) b = decide (v = b) := by
    unfold lineSampled
    rw [State.setWake_wake, peek_poke_self]
  unfold awaitLine at hexec
  dsimp only at hexec ⊢
  rw [takeSample_line, State.setWake_eng, hsampled] at hexec
  refine ⟨fun hl => ?_, fun hl => ?_⟩
  · rw [hexec, if_pos (by simpa using hl)]
    exact congrArg _ (h.succeeds (by decide) rfl)
  · rw [hexec, if_neg (by simpa using hl)]
    exact congrArg _ (runChain_of_rest h.rest.2)

/-! ## A clock wait (R39) -/

/-- The fourth good window of a loop that tracks without LOCKED sets LOCKED (R131, R132). -/
theorem endWindow_fourth {count : Nat} (hloop : s.clock.loop = .tracking) (hlock : s.clock.locked = false)
    (hgood : s.clock.good = 3) (hlo : 8152 ≤ count) (hhi : count ≤ 8232) :
    endWindow count s = setLocked (s.setClock { s.clock with good := 4, window := some s.clock.tick }) := by
  have he : windowError count ≤ 40 := by
    rw [windowError_eq]
    omega
  unfold endWindow
  simp only [State.setClock_clock, hloop, hlock, hgood, if_neg (show ¬163 < windowError count by omega),
    if_neg (show ¬40 < windowError count by omega), Bool.false_eq_true, if_false, State.setClock_twice]
  rfl

/-- LOCKED sets under FAST_RC while a CLOCK_UP waits (R39, R132, R133). -/
theorem setLocked_waits (hlock : s.clock.locked = false) (hmode : s.clock.mode = .fastRc) (hw : waitsIn s .clockUp = true) :
    setLocked s = endRunWith .ok (s.setClock
      { s.clock with locked := true, lockChanges := min 255 (s.clock.lockChanges + 1), mode := .fastLoop }) := by
  unfold setLocked handOnFastLoop handOn
  simp only [hlock, hmode, satInc_max8, if_true, Bool.false_eq_true, if_false, State.setClock_clock]
  exact if_pos hw

/-- Settles O33: the window's end is the fourth good one, and the move to FAST_LOOP ends the step. -/
theorem clockUpEnds : Obligations.ClockUpEnds := by
  intro count start s h hmode hloop hlock hgood hso hwin hel hlo hhi
  have hdue : windowDue s = true := windowDue_iff.2 ⟨by simp [hloop], hso, start, hwin, hel⟩
  have hend := endWindow_fourth hloop hlock hgood hlo hhi
  rw [setLocked_waits (by exact hlock) (by exact hmode) (by exact h.waits)] at hend
  have hawait : awaitLock count s = endWindow count s := by
    unfold awaitLock
    rw [if_neg (by simp [hmode]), if_pos ⟨hdue, by rw [hend]; rfl⟩]
  show execClockUpCompletes count s = _
  unfold execClockUpCompletes
  rw [whilePowered_on _ h.rest.1, if_pos h.waits, hawait, hend]
  exact congrArg _ (h.succeeds (by decide) rfl)

/-! ## What moves frames does not read the PSC -/

/-- An operation that neither reads nor changes the PSC. -/
def PscBlind (f : State → State) : Prop := ∀ (p : Psc) (s : State), f (s.setPsc p) = (f s).setPsc p

theorem PscBlind.ite {c : State → Prop} [∀ s, Decidable (c s)] {f g : State → State} (hc : ∀ p s, c (s.setPsc p) ↔ c s)
    (hf : PscBlind f) (hg : PscBlind g) : PscBlind fun s => if c s then f s else g s := by
  intro p s
  by_cases h : c s
  · simp only [(hc p s).2 h, h, if_true, hf p s]
  · simp only [mt (hc p s).1 h, h, if_false, hg p s]

theorem PscBlind.comp {f g : State → State} (hf : PscBlind f) (hg : PscBlind g) : PscBlind fun s => f (g s) := by
  intro p s
  show f (g (s.setPsc p)) = _
  rw [hg, hf]

theorem PscBlind.id : PscBlind fun s => s := fun _ _ => rfl

theorem pscBlind_setLink {q : Port} {l : State → Link} (hl : ∀ p s, l (s.setPsc p) = l s) :
    PscBlind fun s => setLink s q (l s) := by
  intro p s
  show setLink (s.setPsc p) q (l (s.setPsc p)) = _
  rw [hl]
  cases q <;> rfl

theorem link_setPsc (q : Port) (p : Psc) (s : State) : link (s.setPsc p) q = link s q := by cases q <;> rfl

theorem pscBlind_queueTx (q : Port) (f : Frame) : PscBlind (queueTx q f) :=
  pscBlind_setLink fun p s => by rw [link_setPsc]

theorem pscBlind_dropWaiting (q : Port) : PscBlind (dropWaiting q) :=
  pscBlind_setLink fun p s => by rw [link_setPsc]

theorem pscBlind_countPort (q : Port) (f : PortCounters → PortCounters) : PscBlind (countPort q f) :=
  pscBlind_setLink fun p s => by rw [link_setPsc]

theorem pscBlind_joinWaiting (q : Port) (f : Internal) : PscBlind (joinWaiting q f) :=
  .ite (fun _ _ => Iff.rfl) .id (pscBlind_setLink fun p s => by rw [link_setPsc])

theorem pscBlind_endRunWith (e : RunEnd) : PscBlind (endRunWith e) := fun _ _ => rfl

theorem pscBlind_handOn (k : StepKind) (e : RunEnd) : PscBlind (handOn k e) :=
  .ite (fun _ _ => Iff.rfl) (pscBlind_endRunWith e) .id

theorem pscBlind_handOnDrained : PscBlind handOnDrained := by
  refine .ite (fun _ _ => Iff.rfl) .id fun p s => ?_
  cases hw : s.eng.wait <;> simp only [State.setPsc_eng, hw]
  · exact PscBlind.ite (f := endRunWith .ok) (c := fun s => (waitsIn s .endList || waitsIn s .release) = true)
      (fun _ _ => Iff.rfl) (pscBlind_endRunWith _) .id p s
  · rfl
  · rfl

theorem pscBlind_ensureDrain : PscBlind ensureDrain := by
  intro p s
  unfold ensureDrain
  rw [State.setPsc_wire]
  split
  · rfl
  next e _ _ =>
    exact PscBlind.ite (c := fun s => (s.wire.hold || drainWaits s) = true) (f := fun s => s)
      (g := joinWaiting (portOf (wireDir s e.wire)) .drain) (fun _ _ => Iff.rfl) .id (pscBlind_joinWaiting _ _) p s

theorem pscBlind_takeDrain (q : Port) : PscBlind (takeDrain q) := by
  refine .ite (fun _ _ => Iff.rfl) .id fun p s => ?_
  have hdrop : PscBlind fun t => t.setWire { t.wire with queue := t.wire.queue.drop (drainEntries s).length } :=
    fun _ _ => rfl
  exact (pscBlind_handOnDrained.comp (pscBlind_ensureDrain.comp (hdrop.comp (pscBlind_queueTx q _)))) p s

theorem pscBlind_takeOldest (q : Port) : PscBlind (takeOldest q) := by
  intro p s
  unfold takeOldest
  rw [link_setPsc]
  split
  · rfl
  · exact ((pscBlind_queueTx _ _).comp (pscBlind_dropWaiting q)) p s
  · exact ((pscBlind_queueTx _ _).comp (pscBlind_dropWaiting q)) p s
  · exact ((pscBlind_takeDrain _).comp (pscBlind_dropWaiting q)) p s
  next e _ _ =>
    have hlevel : PscBlind (setLevel e.wire e.level) := fun _ _ => rfl
    exact ((pscBlind_handOn _ _).comp (hlevel.comp ((pscBlind_queueTx _ _).comp (pscBlind_dropWaiting q)))) p s

theorem canTakeOldest_setPsc (q : Port) (p : Psc) (s : State) : canTakeOldest (s.setPsc p) q = canTakeOldest s q := by
  cases q <;> rfl

theorem pscBlind_pump : PscBlind pump := by
  have hn (n : Nat) : PscBlind (pumpN n) := by
    induction n with
    | zero => exact .id
    | succ n ih =>
      exact .ite (fun p s => by rw [canTakeOldest_setPsc]) (ih.comp (pscBlind_takeOldest _))
        (.ite (fun p s => by rw [canTakeOldest_setPsc]) (ih.comp (pscBlind_takeOldest _)) .id)
  exact hn _

theorem pscBlind_createInternal (q : Port) (f : Internal) : PscBlind (createInternal q f) :=
  pscBlind_pump.comp (pscBlind_joinWaiting q f)

theorem pscBlind_createNotice (n : Fin 14) : PscBlind (createNotice n) :=
  .ite (fun _ _ => Iff.rfl) .id
    (.ite (fun _ _ => Iff.rfl) (pscBlind_countPort _ _) (pscBlind_createInternal _ _))

theorem pscBlind_takeFire (n : Fin 14) : PscBlind (takeFire n) :=
  .ite (fun _ _ => Iff.rfl) (pscBlind_createNotice n)
    (.ite (fun _ _ => Iff.rfl) (fun _ _ => rfl)
      (.ite (fun _ _ => Iff.rfl) ((pscBlind_createNotice n).comp fun _ _ => rfl) fun _ _ => rfl))

/-- The move of the Armed Level, with its fires, reads nothing of the PSC. -/
theorem pscBlind_setArmed (x : Level) : PscBlind (setArmed x) := by
  have hfold (old : Level) (ns : List (Fin 9)) : PscBlind fun s => ns.foldl (armingFire old x) s := by
    induction ns with
    | nil => exact .id
    | cons n ns ih =>
      refine ih.comp (g := fun s => armingFire old x s n) ?_
      exact .ite (fun _ _ => Iff.rfl) (pscBlind_takeFire _) .id
  exact fun p s => hfold s.wake.armed _ p (s.setWake { s.wake with armed := x })

/-! ## A settle (R15) -/

theorem armingFire_inactive {old new : Level} {n : Fin 9} (h : (peek s.wake.det n).active = false) :
    armingFire old new s n = s := by simp [armingFire, h]

/-- A move of the Armed Level fires nothing where no detector is ACTIVE (R103). -/
theorem setArmed_quiet (x : Level) (h : ∀ n : Fin 9, (peek s.wake.det n).active = false) :
    setArmed x s = s.setWake { s.wake with armed := x } := by
  have hfold (ns : List (Fin 9)) (t : State) (ht : ∀ n : Fin 9, (peek t.wake.det n).active = false) :
      ns.foldl (armingFire s.wake.armed x) t = t := by
    induction ns with
    | nil => rfl
    | cons n ns ih => rw [List.foldl_cons, armingFire_inactive (ht n), ih]
  exact hfold _ _ h

/-- A settle with an absent slot leaves it absent (R16). -/
theorem serveSlot_none (x : Level) (h : s.psc.slot = none) : serveSlot x s = s := by
  unfold serveSlot
  rw [h]
  show s.setPsc { s.psc with slot := none } = s
  rw [← h]
  exact State.setPsc_self s

/-- What a fire leaves of the Wake Unit. -/
theorem takeFire_wake (n : Fin 14) (s : State) :
    (takeFire n s).wake.det = s.wake.det ∧ (takeFire n s).wake.armed = s.wake.armed := by
  unfold takeFire
  (repeat' split) <;> simp

theorem onlyWait_takeFire (n : Fin 14) (s : State) : OnlyWait s (takeFire n s) := by
  have hnotice (t : State) : OnlyWait t (createNotice n t) := by
    unfold createNotice
    (repeat' split)
    · rfl
    · exact .of_eng (by simp)
    · exact onlyWait_createInternal ..
  unfold takeFire
  (repeat' split)
  · exact hnotice s
  · rfl
  · exact hnotice (s.setWake _)
  · rfl

/-- A move of the Armed Level, whatever it fires, leaves the detectors and of the engine all but the wait (R102, R103). -/
theorem setArmed_leaves (x : Level) (s : State) :
    (setArmed x s).wake.det = s.wake.det ∧ (setArmed x s).wake.armed = x ∧ OnlyWait s (setArmed x s) := by
  have hfold (ns : List (Fin 9)) (t : State) (h : t.wake.det = s.wake.det ∧ t.wake.armed = x ∧ OnlyWait s t) :
      (ns.foldl (armingFire s.wake.armed x) t).wake.det = s.wake.det ∧
        (ns.foldl (armingFire s.wake.armed x) t).wake.armed = x ∧
        OnlyWait s (ns.foldl (armingFire s.wake.armed x) t) := by
    induction ns generalizing t with
    | nil => exact h
    | cons n ns ih =>
      refine ih _ ?_
      unfold armingFire
      dsimp only
      split
      · obtain ⟨hdet, harmed⟩ := takeFire_wake (lineSource n) t
        exact ⟨hdet.trans h.1, harmed.trans h.2.1, h.2.2.trans (onlyWait_takeFire ..)⟩
      · exact h
  exact hfold _ _ ⟨rfl, rfl, rfl⟩

/-- A settle whose slot is absent, but for the move of the Armed Level: the current level and the target, the report
closed and copied, and in WORKING the queued wakes in its wake list (R15, R108). -/
theorem settle_of_noSlot (x : Level) (o : ReportOutcome) (h : s.psc.slot = none) :
    settle x o s =
      (closeReport o (reportWakes x (setArmed x (s.setPsc
        { s.psc with current := x, target := x, commit := false, haltedFrom := none })))).setPsc
        { s.psc with state := levelState x, current := x, target := x, commit := false, haltedFrom := none } := by
  unfold settle
  dsimp only
  rw [serveSlot_none]
  · simp
  · simp [h]

/-- What the settle leaves, by the state in which the Armed Level has moved (R15, R103, R108). -/
theorem settle_leaves (x : Level) (o : ReportOutcome) (h : s.psc.slot = none) (a : State)
    (ha : a = setArmed x (s.setPsc { s.psc with current := x, target := x, commit := false, haltedFrom := none })) :
    let t := settle x o s
    let list := if x = .working then a.wake.queue.map WakeEntry.source else s.eng.inflight.wakeList
    t.wake = { a.wake with queue := if x = .working then [] else a.wake.queue } ∧
      t.eng.last = { s.eng.inflight with
        wakeList := list, isOpen := false, outcome := some o, endTick := some s.clock.tick } ∧ t.eng.inflight = t.eng.last ∧ t.hub = a.hub ∧ t.board = a.board ∧
      t.psc = { s.psc with state := levelState x, current := x, target := x, commit := false, haltedFrom := none } ∧
      t.rails = s.rails ∧ t.wire = a.wire ∧ t.clock = s.clock := by
  obtain ⟨-, -, hwait⟩ := setArmed_leaves x
    (s.setPsc { s.psc with current := x, target := x, commit := false, haltedFrom := none })
  dsimp only
  rw [settle_of_noSlot x o h, ← ha]
  rw [← ha] at hwait
  have hrep := hwait.inflight
  have hclock : a.clock = s.clock := by simp [ha]
  have hrails : a.rails = s.rails := by simp [ha]
  unfold reportWakes
  split
  · simp [closeReport, onReport, hclock, hrails, hrep]
  · simp [closeReport, hclock, hrails, hrep]

theorem settleCopies : Claims.SettleCopies := by
  intro x o s hslot hdet
  have harmed := setArmed_quiet x
    (s := s.setPsc { s.psc with current := x, target := x, commit := false, haltedFrom := none }) hdet
  obtain ⟨hwake, hlast, hcopy, -, -, hpsc, -, hwire, -⟩ := settle_leaves x o hslot _ harmed.symm
  simp [hwake, hlast, hcopy, hpsc, hwire]

theorem settleArmsFirst : Claims.SettleArmsFirst := by
  intro x o s hslot
  obtain ⟨hwake, hlast, hcopy, hhub, hboard, -⟩ := settle_leaves x o hslot _ (pscBlind_setArmed x _ s).symm
  obtain ⟨hdet, harmed, -⟩ := setArmed_leaves x s
  simp [hwake, hlast, hhub, hboard, hdet, harmed]

/-- Settles O36: by the state in which the Armed Level has moved, which is the same but for it where nothing fires. -/
theorem settleTakesWakes : Obligations.SettleTakesWakes := ⟨settleCopies, settleArmsFirst⟩

end Sys2Proof.Machine

/-! PROOFS. The link ports and the classifier: reception, the checks of an arriving frame, which frame is taken next,
and the Hold Queue at its limit. -/

namespace Sys2Proof.Machine

variable {s t u : State} {p : Port} {f : Frame}

/-! ## Reception (R142) -/

theorem ready_iff (h : (link s p).receiving = none) (hl : s.lrst = false) :
    ready s p = (decide ((link s p).rx.length < 4) && decide (s.psc.state ≠ .loading)) := by
  simp [ready, rxInUse, h, hl, Config.rxSlots]

/-- Settles O39: the three conditions under which a start bit is ignored, and READY otherwise. -/
theorem receptionBegins : Obligations.ReceptionBegins := by
  intro p rested s hs
  refine ⟨fun hl hr hn => ?_, fun h => ?_⟩
  · have hgoes : (s.lrst || (link s p).receiving.isSome || ((link s p).needRest && !rested)) = false := by
      obtain h | h := hn <;> simp [hl, hr, h]
    show execFrameReceptionBegins p rested s = _
    refine whilePowered_next hs.1 ?_ (by exact (congrArg _ (show (setLink s p _).eng = s.eng by simp)).trans hs.2)
    dsimp only
    rw [if_neg (by simp [hgoes]), ready_iff hr hl]
  · show execFrameReceptionBegins p rested s = _
    refine whilePowered_self hs ?_
    have hstops : (s.lrst || (link s p).receiving.isSome || ((link s p).needRest && !rested)) = true := by
      obtain h | ⟨h, hr⟩ := h <;> simp [*]
    dsimp only
    rw [if_pos hstops]

/-! ## The checks of an arriving frame (R143) -/

theorem field_low (b : Byte) : field b 0 4 = b.toNat % 16 := by simp [field]
theorem field_high (b : Byte) : field b 4 4 = b.toNat / 16 := by
  have := b.isLt
  simp only [field]
  omega

section
variable {bytes : List Byte} {framing : Bool}

theorem parseFrame_fault (h : framing = true ∨ 18 < bytes.length ∨ bytes.length < 3) :
    parseFrame bytes framing = .error .malformed := by
  unfold parseFrame
  rw [if_pos]
  obtain h | h | h := h <;> simp [h]

variable (hf : ¬(framing = true ∨ 18 < bytes.length ∨ bytes.length < 3))
include hf

theorem parseFrame_sound : parseFrame bytes framing =
    if crc8 (bytes.take (bytes.length - 1)) ≠ byteAt bytes (bytes.length - 1) then .error .crcErr
    else if (byteAt bytes 0).toNat % 16 + 3 ≠ bytes.length then .error .malformed
    else (frameKindOf ((byteAt bytes 0).toNat / 16)).elim (.error .unknown) fun k =>
      .ok { kind := k, route := (byteAt bytes 1).getLsbD 7, bit6 := (byteAt bytes 1).getLsbD 6,
            tag := (byteAt bytes 1).setWidth 6, payload := (bytes.take (bytes.length - 1)).drop 2 } := by
  have htag : BitVec.ofNat 6 (byteAt bytes 1).toNat = (byteAt bytes 1).setWidth 6 := by
    apply BitVec.eq_of_toNat_eq
    simp
  have hdrop : (bytes.drop 2).dropLast = (bytes.take (bytes.length - 1)).drop 2 := by
    rw [List.dropLast_eq_take, List.drop_take, List.length_drop]
    congr 1
  unfold parseFrame
  rw [if_neg (by simpa [and_assoc] using hf), field_low, field_high, htag, hdrop, List.dropLast_eq_take]
  cases frameKindOf ((byteAt bytes 0).toNat / 16) <;> rfl

end

theorem frameKindOf_none {n : Nat} (h : n = 0 ∨ 4 < n) : frameKindOf n = none := by
  unfold frameKindOf
  simp only [show n ≠ 1 by omega, show n ≠ 2 by omega, show n ≠ 3 by omega, show n ≠ 4 by omega, if_false]

theorem frameKindOf_frameCode {k : FrameKind} (h : k ≠ .mgmtRsp) : frameKindOf (frameCode k) = some k := by
  cases k <;> first | rfl | exact absurd rfl h

/-- The CRC-8 of a run of bytes carried on over one byte, bit by bit (R143). -/
theorem crc8_concat (bs : List Byte) (b : Byte) : crc8 (bs ++ [b]) =
    (List.range 8).foldl (fun c _ => if c.getLsbD 7 then (c <<< 1) ^^^ 0x07 else c <<< 1) (crc8 bs ^^^ b) := by
  have hbit (c : Byte) : crc8Bit c = if c.getLsbD 7 then (c <<< 1) ^^^ 0x07 else c <<< 1 := by
    simp [crc8Bit, BitVec.msb_eq_getLsbD_last]
  simp only [crc8, List.foldl_append, List.foldl_cons, List.foldl_nil]
  simp only [Nat.iterate, hbit, List.range_succ, List.range_zero, List.foldl_append, List.foldl_cons, List.foldl_nil,
    List.nil_append]

/-- An arriving frame in reception: dropped without a slot, and else by its checks (R142, R143). -/
theorem frameArrival_eq {bytes : List Byte} {framing slot : Bool} (hs : AtRest s) (h : (link s p).receiving = some slot)
    {x : Link} (hx : (if !slot then countPort p incOverrun (setLink s p { link s p with receiving := none })
      else
        match parseFrame bytes framing with
        | .error c => countDrop p c (setLink s p { link s p with receiving := none })
        | .ok f => enterRx p f (setLink s p { link s p with receiving := none })) = setLink s p x) :
    exec (.frameArrival p bytes framing) s = .next (setLink s p x) := by
  show execFrameArrival p bytes framing s = _
  refine whilePowered_next hs.1 ?_ (by simpa using hs.2)
  rw [h]
  exact hx

/-- Settles O40: the CRC-8 bit by bit, and each branch of `parseFrame` in the words of R143. -/
theorem frameArrives : Obligations.FrameArrives := by
  refine ⟨⟨rfl, crc8_concat⟩, fun p bytes framing slot s hs hr => ?_⟩
  have hsat (n : Nat) : satInc Config.max16 n = min 65535 (n + 1) := satInc_max16 n
  refine ⟨fun hslot => ?_, fun hslot hf => ?_, fun hslot hf hc => ?_, fun hslot hf hc hl => ?_,
    fun hslot hf hc hl hk => ?_, fun fk hslot hf hc hl hne hk => ?_⟩ <;>
    refine frameArrival_eq hs hr ?_ <;> subst hslot
  · simp [countPort, incOverrun, hsat]
  · rw [parseFrame_fault hf]
    simp [countDrop, countPort, incMalformed, hsat]
  · rw [parseFrame_sound hf, if_pos hc]
    simp [countDrop, countPort, incCrcErr, hsat]
  · rw [parseFrame_sound hf, if_neg (not_not.2 hc), if_pos hl]
    simp [countDrop, countPort, incMalformed, hsat]
  · rw [parseFrame_sound hf, if_neg (not_not.2 hc), if_neg (not_not.2 hl), frameKindOf_none hk]
    simp [countDrop, countPort, incUnknown, hsat]
  · rw [parseFrame_sound hf, if_neg (not_not.2 hc), if_neg (not_not.2 hl), ← hk, frameKindOf_frameCode hne]
    simp [enterRx]

/-! ## A full Hold Queue (R123) -/

theorem collapseInto_of_absent {e : WireLevel} {q : List WireLevel} (h : ∀ y ∈ q, y.wire ≠ e.wire) :
    collapseInto e q = none := by
  induction q with
  | nil => rfl
  | cons y ys ih =>
    obtain ⟨hy, hys⟩ := List.forall_mem_cons.1 h
    simp [collapseInto, ih hys, hy]

/-- The entry of the wire nearest the tail takes the arriving level at its place. -/
theorem collapseInto_nearest {e x : WireLevel} {back : List WireLevel} (front : List WireLevel) (hx : x.wire = e.wire)
    (h : ∀ y ∈ back, y.wire ≠ e.wire) : collapseInto e (front ++ x :: back) = some (front ++ e :: back) := by
  induction front with
  | nil => simp [collapseInto, collapseInto_of_absent h, hx]
  | cons y ys ih => simp [collapseInto, ih]

/-- Settles O45: the two results of the search from the tail. -/
theorem holdQueueFull : Obligations.HoldQueueFull := by
  intro e s hlen
  have hfull : ¬s.wire.queue.length < Config.holdSlots := by simp [hlen, Config.holdSlots]
  refine ⟨fun front back x hq hx hback => ?_, fun habsent => ?_⟩ <;> unfold holdEntry <;> rw [if_neg hfull]
  · rw [hq, collapseInto_nearest front hx hback]
    by_cases ho : s.eng.inflight.isOpen = true
    · simp [onOpenReport, onReport, countWire, incCollapse, reportCollapse, satInc_max16, satInc_max8, ho]
    · simp [onOpenReport, countWire, incCollapse, satInc_max16, ho]
      rfl
  · rw [collapseInto_of_absent habsent]
    by_cases ho : s.eng.inflight.isOpen = true
    · simp [onOpenReport, onReport, countWire, incHoldOverflow, reportOverflow, satInc_max16, satInc_max8, ho]
    · simp [onOpenReport, countWire, incHoldOverflow, satInc_max16, ho]
      rfl

/-! ## The frame taken next (R115) -/

theorem takable_iff (hk : s.wire.kept = none) : takable s p f = true ↔ HeadGoes s p f := by
  have hslot : forwardSlot s p.other = true ↔ SlotOpen s p.other := by
    simp [forwardSlot, slotFree, hk, Config.txSlots, and_assoc]
  unfold takable HeadGoes
  cases hkind : f.kind with
  | mgmtRsp => simp
  | wire => simpa using hslot
  | data => simp [hslot]
  | mgmtReq => cases hr : f.route <;> simp
  | wake => simp

section
variable (hk : s.wire.kept = none)
include hk

theorem offered_of_goes (hf : (link s p).rx.head? = some f) (hg : HeadGoes s p f) : offered s p = some f := by
  unfold offered
  obtain ⟨rest, hrx⟩ := List.head?_eq_some_iff.1 hf
  rw [hrx]
  exact if_pos ((takable_iff hk).2 hg)

theorem offered_of_stuck (h : HeadStuck s p) : offered s p = none := by
  unfold offered
  split
  · rfl
  next g rest hrx => exact if_neg fun ht => h g (by simp [hrx]) ((takable_iff hk).1 ht)

end

/-- A row of the classifier does nothing where no frame can be taken (R115). -/
theorem takeNext_of_none (row : Port → Frame → Bool) (handle : Port → Frame → State → State) (h : picked s = none) :
    takeNext row handle s = s := by
  unfold takeNext
  rw [h]

theorem popRx_eq (p : Port) (s : State) : popRx p s = taken p s := by cases p <;> rfl

/-- A row that names the frame taken next takes it off its queue and handles it. -/
theorem takeNext_of_picked {row : Port → Frame → Bool} (handle : Port → Frame → State → State)
    (h : picked s = some (p, f)) (hrow : row p f = true) : takeNext row handle s = handle p f (taken p s) := by
  unfold takeNext
  rw [h]
  dsimp only
  rw [if_pos hrow, popRx_eq]

theorem headsInTurn : Claims.HeadsInTurn := by
  intro s hk
  have hpicked : picked s = match offered s s.wire.pointer with
    | some f => some (s.wire.pointer, f)
    | none => (offered s s.wire.pointer.other).map fun f => (s.wire.pointer.other, f) := rfl
  refine ⟨fun f hf hg => ?_, fun hst f hf hg => ?_, fun hst hso => ?_⟩
  · rw [hpicked, offered_of_goes hk hf hg]
  · rw [hpicked, offered_of_stuck hk hst, offered_of_goes hk hf hg]
    rfl
  · have hnone : picked s = none := by
      rw [hpicked, offered_of_stuck hk hst, offered_of_stuck hk hso]
      rfl
    refine ⟨hnone, fun hs c hc => ?_⟩
    simp only [List.mem_cons, List.not_mem_nil, or_false] at hc
    obtain rfl | rfl | rfl | rfl := hc
    all_goals exact whilePowered_self hs (takeNext_of_none _ _ hnone)

/-! ## DATA frames, misrouted frames and board WAKE frames (R110, R116) -/

theorem taken_rest (hs : AtRest s) : (taken p s).eng.due = .nothing := by
  simpa [taken] using hs.2

theorem counted_rest (g : PortCounters → PortCounters) (hs : AtRest s) :
    (counted p g (taken p s)).eng.due = .nothing := by
  simpa [counted, taken] using hs.2

theorem countPort_routeErr : countPort p incRouteErr s =
    counted p (fun c => { c with routeErr := min 65535 (c.routeErr + 1) }) s := by
  simp [countPort, counted, incRouteErr, satInc_max16]

theorem countPort_malformed : countPort p incMalformed s =
    counted p (fun c => { c with malformed := min 65535 (c.malformed + 1) }) s := by
  simp [countPort, counted, incMalformed, satInc_max16]

theorem dataTaken : Claims.DataTaken := by
  rintro p f s ⟨hs, hp, -⟩
  refine ⟨fun hk hr => ?_, fun hk hr => ?_, fun hk hr => ?_, fun hk hport => ?_⟩
  · show execDataFrameTaken s = _
    refine whilePowered_next hs.1 ((takeNext_of_picked _ hp (by simp [hk])).trans ?_) (by simpa [sentOn] using taken_rest hs)
    simp [handleData, hr, queueTx, sentOn]
  · show execDataFrameTaken s = _
    refine whilePowered_next hs.1 ((takeNext_of_picked _ hp (by simp [hk])).trans ?_) (counted_rest _ hs)
    simp [handleData, hr, countPort_routeErr]
  · show execMisroutedFrameDrop s = _
    refine whilePowered_next hs.1 ((takeNext_of_picked _ hp (by simp [misrouted, hk, hr])).trans ?_) (counted_rest _ hs)
    exact countPort_routeErr
  · show execMisroutedFrameDrop s = _
    refine whilePowered_next hs.1 ((takeNext_of_picked _ hp (by simp [misrouted, hk, hport])).trans ?_) (counted_rest _ hs)
    exact countPort_routeErr

/-- Settles O46: by the frame the two queues offer in turn, and by what its row does with it. -/
theorem dataAndMisrouted : Obligations.DataAndMisrouted := ⟨dataTaken, headsInTurn⟩

/-- Settles O47: a code names a source that fires, and any other payload is counted. -/
theorem boardWakeFires : Obligations.BoardWakeFires := by
  intro f s hs hp hk
  have hexec {t : State} (ht : handleBoardWake .board f (taken .board s) = t) (hd : t.eng.due = .nothing) :
      exec .boardWakeFrame s = .next t := by
    show execBoardWakeFrame s = _
    exact whilePowered_next hs.1 ((takeNext_of_picked _ hp (by simp [hk])).trans ht) hd
  refine ⟨fun b hb hle hslots => hexec ?_ ?_, fun hbad => hexec ?_ (counted_rest _ hs)⟩
  · unfold handleBoardWake
    rw [hb]
    dsimp only
    rw [if_pos hle]
    exact fire_eq _ (by
      refine slotsOffered_iff.2 ((slotsOffered_iff.1 hslots).imp (fun h => by simpa [taken] using h) ?_)
      refine fun ⟨hkept, hidle⟩ => ⟨by simpa [taken] using hkept, fun q => ?_⟩
      cases q
      · exact hidle .hub
      · exact hidle .board)
  · obtain ⟨-, heng⟩ := fired_frame (Fin.ofNat 14 (9 + b.toNat)) (taken .board s)
    rw [heng]
    exact taken_rest hs
  · unfold handleBoardWake
    split
    next b hb => 
      rw [if_neg (by have := hbad b hb; omega)]
      exact countPort_malformed
    · exact countPort_malformed

end Sys2Proof.Machine

/-! PROOFS. Encodings: the codes of chapter 11, the places of the fields in each record, and the frames of the links. -/

namespace Sys2Proof.Machine

variable {bs : List Byte} {n k : Nat}

/-! ## Bytes -/

theorem toNat_byteOf_mod (n : Nat) : (byteOf n).toNat = n % 256 := by simp [byteOf]
theorem toNat_byteOf (h : n < 256) : (byteOf n).toNat = n := by simp [byteOf, Nat.mod_eq_of_lt h]

/-- A bit of a byte by its number. -/
theorem getLsbD_eq (b : Byte) (k : Nat) : b.getLsbD k = decide (b.toNat / 2 ^ k % 2 = 1) := by
  rw [← BitVec.testBit_toNat, Nat.testBit_eq_decide_div_mod_eq]

theorem getLsbD_byteOf (h : n < 256) {b : Bool} (hb : n / 2 ^ k % 2 = b.toNat) : (byteOf n).getLsbD k = b := by
  rw [getLsbD_eq, toNat_byteOf h, hb]
  cases b <;> rfl

theorem bitAt_eq (b : Bool) (k : Nat) : bitAt b k = b.toNat * 2 ^ k := by cases b <;> simp [bitAt]

@[simp] theorem byteAt_cons_zero (b : Byte) (bs : List Byte) : byteAt (b :: bs) 0 = b := rfl
@[simp] theorem byteAt_cons_succ (b : Byte) (bs : List Byte) (i : Nat) : byteAt (b :: bs) (i + 1) = byteAt bs i := rfl

/-- Two bytes of a record that hold a number, least significant first. -/
theorem le2_of_bytes {i : Nat} (hn : n < 65536) (h0 : byteAt bs i = byteOf n) (h1 : byteAt bs (i + 1) = byteOf (n / 256)) :
    le2 bs i = n := by
  simp only [le2, h0, h1, byteOf, BitVec.toNat_ofNat]
  omega

/-! ## Codes -/

theorem kindOf_iff {x : StepKind} : kindOf n = some x ↔ kindCode x = n := by
  refine ⟨fun h => ?_, ?_⟩
  · have hlt : n < 15 := (List.getElem?_eq_some_iff.1 h).1
    interval_cases n <;> obtain rfl := Option.some.inj h <;> rfl
  · rintro rfl
    cases x <;> rfl

theorem wireActionOf_iff {x : WireAction} : wireActionOf n = some x ↔ wireActionCode x = n := by
  refine ⟨fun h => ?_, ?_⟩
  · have hlt : n < 5 := (List.getElem?_eq_some_iff.1 h).1
    interval_cases n <;> obtain rfl := Option.some.inj h <;> rfl
  · rintro rfl
    cases x <;> rfl

theorem detectOf_iff {x : Detect} : detectOf n = some x ↔ detectCode x = n := by
  refine ⟨fun h => ?_, ?_⟩
  · have hlt : n < 4 := (List.getElem?_eq_some_iff.1 h).1
    interval_cases n <;> obtain rfl := Option.some.inj h <;> rfl
  · rintro rfl
    cases x <;> rfl

theorem restoreOf_iff {x : Restore} : restoreOf n = some x ↔ restoreCode x = n := by
  refine ⟨fun h => ?_, ?_⟩
  · have hlt : n < 3 := (List.getElem?_eq_some_iff.1 h).1
    interval_cases n <;> obtain rfl := Option.some.inj h <;> rfl
  · rintro rfl
    cases x <;> rfl

theorem unitOf_iff {x : TimeUnit} : unitOf n = some x ↔ unitCode x = n := by
  refine ⟨fun h => ?_, ?_⟩
  · have hlt : n < 3 := (List.getElem?_eq_some_iff.1 h).1
    interval_cases n <;> obtain rfl := Option.some.inj h <;> rfl
  · rintro rfl
    cases x <;> rfl

theorem actionOf_iff {x : FailAction} (h : n < 4) : actionOf n = x ↔ actionCode x = n := by
  interval_cases n <;> cases x <;> decide

theorem kindCode_lt (x : StepKind) : kindCode x < 15 := by cases x <;> decide
theorem actionCode_lt (x : FailAction) : actionCode x < 4 := by cases x <;> decide
theorem wireActionCode_lt (x : WireAction) : wireActionCode x < 5 := by cases x <;> decide
theorem detectCode_lt (x : Detect) : detectCode x < 4 := by cases x <;> decide
theorem restoreCode_lt (x : Restore) : restoreCode x < 3 := by cases x <;> decide
theorem unitCode_lt (x : TimeUnit) : unitCode x < 3 := by cases x <;> decide

/-! ## Time fields (R129) -/

theorem timeAt_iff {i : Nat} {t : TimeField} :
    TimeAt bs i t ↔ le2 bs i % 4096 = t.value.val ∧ le2 bs i / 4096 % 4 = unitCode t.unit := by
  unfold TimeAt
  cases t.unit <;> rfl

/-- A time field is read from its place exactly where it stands there. -/
theorem decodeTime_iff {i : Nat} {t : TimeField} : decodeTime (wordAt bs i) = some t ↔ TimeAt bs i t := by
  rw [timeAt_iff]
  show decodeTime (le2 bs i) = some t ↔ _
  unfold decodeTime
  rw [Option.map_eq_some_iff]
  constructor
  · rintro ⟨u, hu, rfl⟩
    exact ⟨by simp [Fin.ofNat], (unitOf_iff.1 hu).symm⟩
  · rintro ⟨hv, hu⟩
    obtain ⟨value, unit⟩ := t
    exact ⟨unit, unitOf_iff.2 hu.symm, by simp [Fin.ofNat, hv]⟩

theorem encodeTime_eq (t : TimeField) : encodeTime t =
    [byteOf (t.value.val + 4096 * unitCode t.unit), byteOf ((t.value.val + 4096 * unitCode t.unit) / 256)] := rfl

/-- The two bytes of a time field stand as R129 says, with the two bits above its unit 0. -/
theorem timeAt_of_bytes {i : Nat} {t : TimeField} (h0 : byteAt bs i = byteOf (t.value.val + 4096 * unitCode t.unit))
    (h1 : byteAt bs (i + 1) = byteOf ((t.value.val + 4096 * unitCode t.unit) / 256)) :
    TimeAt bs i t ∧ (byteAt bs (i + 1)).toNat / 64 = 0 := by
  have hu := unitCode_lt t.unit
  have hv := t.value.isLt
  have hle := le2_of_bytes (n := t.value.val + 4096 * unitCode t.unit) (by omega) h0 h1
  rw [timeAt_iff, hle, h1, toNat_byteOf (by omega)]
  omega

/-! ## Step records (R161) -/

theorem stepAt_iff {r : StepRec} : StepAt bs r ↔
    ((byteAt bs 0).toNat % 16 = kindCode r.kind ∧ (byteAt bs 0).toNat / 16 % 4 = actionCode r.action ∧
      (byteAt bs 0).getLsbD 6 = r.commit) ∧ (byteAt bs 1).toNat = r.opA.val ∧ (byteAt bs 2).toNat = r.opB.toNat ∧
      (byteAt bs 3).toNat = r.retry.val ∧ TimeAt bs 4 r.time := by
  have hkind : kindNumber r.kind = kindCode r.kind := by cases r.kind <;> rfl
  have hb : (if r.opB then 1 else 0) = r.opB.toNat := by cases r.opB <;> rfl
  unfold StepAt
  rw [hkind, hb]
  cases r.action <;> rfl

/-- A STEP record is read from the places of R161 exactly where it stands there, with an operand A its kind allows. -/
theorem decodeStep_iff {r : StepRec} : decodeStep bs = some r ↔ StepAt bs r ∧ r.opA.val ≤ opALimit r.kind := by
  rw [stepAt_iff]
  have hlow : field (byteAt bs 0) 0 4 = (byteAt bs 0).toNat % 16 := field_low _
  have hmid : field (byteAt bs 0) 4 2 = (byteAt bs 0).toNat / 16 % 4 := rfl
  unfold decodeStep
  constructor
  · intro h
    split at h
    next kind t hk ht =>
      split at h
      · simp at h
      next hlim =>
        simp only [Bool.or_eq_true, decide_eq_true_eq, not_or, not_lt] at hlim
        obtain ⟨⟨hA, hB⟩, hR⟩ := hlim
        obtain rfl := Option.some.inj h
        have hA63 : opALimit kind ≤ 63 := by cases kind <;> decide
        refine ⟨⟨⟨(hlow ▸ kindOf_iff.1 hk).symm, ((actionOf_iff (by omega)).1 (hmid ▸ rfl)).symm, rfl⟩, ?_, ?_, ?_,
          decodeTime_iff.1 ht⟩, ?_⟩
        · simp; omega
        · obtain h0 | h1 : (byteAt bs 2).toNat = 0 ∨ (byteAt bs 2).toNat = 1 := by omega
          · simp [h0]
          · simp [h1]
        · simp; omega
        · simp; omega
    · simp at h
  · rintro ⟨⟨⟨hk, ha, hc⟩, hA, hB, hR, ht⟩, hlim⟩
    obtain ⟨kind, opA, opB, time, action, retry, commit⟩ := r
    dsimp only at *
    rw [hlow, kindOf_iff.2 hk.symm, decodeTime_iff.2 ht]
    have hb := opB.toNat_le
    have hr := retry.isLt
    dsimp only
    rw [if_neg (by simp [hA, hB, hR]; omega), hmid, (actionOf_iff (by omega)).2 ha.symm]
    refine congrArg some ?_
    rw [StepRec.mk.injEq]
    refine ⟨rfl, ?_, ?_, rfl, rfl, ?_, hc⟩
    · simp [hA]
    · rw [hB]; cases opB <;> rfl
    · simp [hR]

theorem stepAt_encode (r : StepRec) : StepAt (encodeStep r) r ∧ (byteAt (encodeStep r) 0).toNat / 128 = 0 ∧
    (byteAt (encodeStep r) 5).toNat / 64 = 0 := by
  have hk := kindCode_lt r.kind
  have ha := actionCode_lt r.action
  have hc := r.commit.toNat_le
  have hA := r.opA.isLt
  have hb := r.opB.toNat_le
  have hr := r.retry.isLt
  obtain ⟨ht, htop⟩ := timeAt_of_bytes (bs := encodeStep r) (i := 4) (t := r.time) rfl rfl
  rw [stepAt_iff]
  refine ⟨⟨⟨?_, ?_, getLsbD_byteOf ?_ ?_⟩, ?_, ?_, ?_, ht⟩, ?_, htop⟩
  all_goals
    simp only [encodeStep, byteAt_cons_zero, byteAt_cons_succ, bitAt_eq, toNat_byteOf_mod]
    omega

theorem stepReadsBack (r : StepRec) (h : r.opA.val ≤ opALimit r.kind) :
    decodeStep (encodeStep r) = some r ∧ (encodeStep r).length = recLen .step :=
  ⟨decodeStep_iff.2 ⟨(stepAt_encode r).1, h⟩, rfl⟩

/-! ## Transition Table entries -/

theorem ofNat_eq_iff {m : Nat} [NeZero m] {n : Nat} {x : Fin m} : Fin.ofNat m n = x ↔ n % m = x.val := by
  simp [Fin.ext_iff]

/-- A TRANSITION record is read from the places of R161. -/
theorem decodeTrans_iff {e : TransEntry} : decodeTrans bs = e ↔ TransAt bs e := by
  have h1 := (byteAt bs 1).isLt
  have h2 := (byteAt bs 2).isLt
  obtain ⟨present, mainStart, ⟨bpresent, bvalue⟩⟩ := e
  simp only [decodeTrans, optOf, TransEntry.mk.injEq, Opt.mk.injEq, ofNat_eq_iff, Nat.mod_eq_of_lt h1,
    Nat.mod_eq_of_lt h2]
  tauto

theorem transAt_encode (e : TransEntry) : TransAt (encodeTrans e) e ∧ (byteAt (encodeTrans e) 0).toNat / 4 = 0 := by
  have hp := e.present.toNat_le
  have hb := e.backout.present.toNat_le
  have hm := e.mainStart.isLt
  have hv := e.backout.value.isLt
  refine ⟨⟨getLsbD_byteOf ?_ ?_, getLsbD_byteOf ?_ ?_, ?_, ?_⟩, ?_⟩
  all_goals
    simp only [encodeTrans, byteAt_cons_zero, byteAt_cons_succ, bitAt_eq, toNat_byteOf_mod]
    omega

/-! ## Wire Map entries -/

theorem wireAt_iff {e : WireEntry} : WireAt bs e ↔ (byteAt bs 0).toNat % 8 = wireActionCode e.action ∧
    (byteAt bs 0).getLsbD 3 = decide (e.dir = .up) ∧ (byteAt bs 0).getLsbD 4 = e.deflt := by
  unfold WireAt
  cases e.action <;> rfl

theorem field_three (b : Byte) : field b 0 3 = b.toNat % 8 := by simp [field]

/-- A WIREMAP record is read from the places of R161. -/
theorem decodeWire_iff {e : WireEntry} : decodeWire bs = some e ↔ WireAt bs e := by
  rw [wireAt_iff]
  unfold decodeWire
  rw [Option.map_eq_some_iff, field_three]
  obtain ⟨dir, action, deflt⟩ := e
  have hdir (b : Bool) : (if b then Direction.up else .down) = dir ↔ b = decide (dir = .up) := by
    cases b <;> cases dir <;> decide
  simp only [wireActionOf_iff, WireEntry.mk.injEq, hdir]
  constructor
  · rintro ⟨a, ha, hd, rfl, hf⟩
    exact ⟨ha.symm, hd, hf⟩
  · rintro ⟨ha, hd, hf⟩
    exact ⟨action, ha.symm, hd, rfl, hf⟩

theorem wireAt_encode (e : WireEntry) : WireAt (encodeWire e) e ∧ (byteAt (encodeWire e) 0).toNat / 32 = 0 := by
  have ha := wireActionCode_lt e.action
  have hd := (decide (e.dir = .up)).toNat_le
  have hf := e.deflt.toNat_le
  rw [wireAt_iff]
  refine ⟨⟨?_, getLsbD_byteOf ?_ ?_, getLsbD_byteOf ?_ ?_⟩, ?_⟩
  all_goals
    simp only [encodeWire, byteAt_cons_zero, bitAt_eq, toNat_byteOf_mod]
    omega

/-! ## Wake Source Table entries -/

theorem wakeAt_iff {e : WakeSource} : WakeAt bs e ↔ BitVec.ofNat 4 (byteAt bs 0).toNat = e.mask ∧
    (byteAt bs 1).toNat % 8 = detectCode e.mode ∧ (byteAt bs 1).toNat / 16 = e.width.val := by
  have hmask : (∀ n : Fin 4, (byteAt bs 0).getLsbD n.val = e.mask.getLsbD n.val) ↔
      BitVec.ofNat 4 (byteAt bs 0).toNat = e.mask := by
    rw [show BitVec.ofNat 4 (byteAt bs 0).toNat = (byteAt bs 0).setWidth 4 from rfl]
    constructor
    · intro h
      refine BitVec.eq_of_getLsbD_eq fun i hi => ?_
      simpa [hi] using h ⟨i, hi⟩
    · intro h n
      simp [← h]
  unfold WakeAt
  rw [hmask]
  cases e.mode <;> rfl

/-- A WAKESRC record is read from the places of R161. -/
theorem decodeWake_iff {e : WakeSource} : decodeWake bs = some e ↔ WakeAt bs e := by
  rw [wakeAt_iff]
  have hw := (byteAt bs 1).isLt
  unfold decodeWake
  rw [Option.map_eq_some_iff, field_three, field_high]
  obtain ⟨mask, mode, width⟩ := e
  simp only [detectOf_iff, WakeSource.mk.injEq, ofNat_eq_iff]
  constructor
  · rintro ⟨m, hm, hk, rfl, hf⟩
    exact ⟨hk, hm.symm, by omega⟩
  · rintro ⟨hk, hm, hf⟩
    exact ⟨mode, hm.symm, hk, rfl, by omega⟩

theorem wakeAt_encode (e : WakeSource) : WakeAt (encodeWake e) e ∧ (byteAt (encodeWake e) 0).toNat / 16 = 0 ∧
    (byteAt (encodeWake e) 1).toNat / 8 % 2 = 0 := by
  have hm := e.mask.isLt
  have hd := detectCode_lt e.mode
  have hw := e.width.isLt
  rw [wakeAt_iff]
  refine ⟨⟨BitVec.eq_of_toNat_eq ?_, ?_, ?_⟩, ?_, ?_⟩
  all_goals
    simp only [encodeWake, byteAt_cons_zero, byteAt_cons_succ, toNat_byteOf_mod, BitVec.toNat_ofNat]
    omega

/-! ## Policy record 1 -/

/-- Policy record 1 is read from the places of R161. -/
theorem decodePolicy1_iff {p : Policy1} : decodePolicy1 bs = p ↔ ListsAt bs p := by
  have h1 := (byteAt bs 1).isLt
  have h2 := (byteAt bs 2).isLt
  have h3 := (byteAt bs 3).isLt
  obtain ⟨⟨a, x⟩, ⟨b, y⟩, ⟨c, z⟩⟩ := p
  simp only [decodePolicy1, optOf, Policy1.mk.injEq, Opt.mk.injEq, ofNat_eq_iff, Nat.mod_eq_of_lt h1,
    Nat.mod_eq_of_lt h2, Nat.mod_eq_of_lt h3]
  tauto

theorem listsAt_encode (p : Policy1) : ListsAt (encodePolicy1 p) p ∧ (byteAt (encodePolicy1 p) 0).toNat / 8 = 0 ∧
    ∀ i : Nat, 4 ≤ i → i < 9 → byteAt (encodePolicy1 p) i = 0 := by
  have ha := p.powerfail.present.toNat_le
  have hb := p.override.present.toNat_le
  have hc := p.fault.present.toNat_le
  have hx := p.powerfail.value.isLt
  have hy := p.override.value.isLt
  have hz := p.fault.value.isLt
  refine ⟨⟨⟨getLsbD_byteOf ?_ ?_, getLsbD_byteOf ?_ ?_, getLsbD_byteOf ?_ ?_⟩, ?_, ?_, ?_⟩, ?_, fun i hlo hhi => ?_⟩
  case refine_11 => interval_cases i <;> rfl
  all_goals
    simp only [encodePolicy1, byteAt_cons_zero, byteAt_cons_succ, bitAt_eq, toNat_byteOf_mod]
    omega

/-! ## Policy record 0 -/

theorem byte_ext_iff {a b : Byte} : (∀ n : Fin 8, a.getLsbD n.val = b.getLsbD n.val) ↔ a = b :=
  ⟨fun h => BitVec.eq_of_getLsbD_eq fun i hi => h ⟨i, hi⟩, fun h n => by rw [h]⟩

theorem policyAt_iff {p : Policy0} : PolicyAt bs p ↔
    ((byteAt bs 0).toNat = p.reqSusp.val ∧ (byteAt bs 1).toNat = p.reqHib.val ∧ (byteAt bs 2).toNat = p.reqOff.val) ∧
    ((byteAt bs 3).getLsbD 7 = p.offNotice.present ∧ (byteAt bs 3).toNat % 64 = p.offNotice.value.val) ∧
    ((byteAt bs 4).getLsbD 7 = p.trip.present ∧ (byteAt bs 4).toNat % 16 = p.trip.value.val ∧
      (byteAt bs 4).toNat / 16 % 4 = restoreCode p.restore) ∧ byteAt bs 8 = p.outMask := by
  unfold PolicyAt
  rw [byte_ext_iff]
  cases p.restore <;> rfl

/-- Policy record 0 is read from the places of R161, its override time and its filter width clamped (R156). -/
theorem decodePolicy0_iff {p : Policy0} {c : Bool} : decodePolicy0 bs = some (p, c) ↔
    PolicyAt bs p ∧ (p.trip.present = true → p.trip.value.val ≤ 7) ∧
      ∃ t : TimeField, TimeAt bs 5 t ∧ p.overrideFor = clampOverride t ∧ p.pfailWidth.val = min 15 (byteAt bs 7).toNat ∧
        c = (decide (clampOverride t ≠ t) || decide (15 < (byteAt bs 7).toNat)) := by
  rw [policyAt_iff]
  have hfield : field (byteAt bs 4) 4 2 = (byteAt bs 4).toNat / 16 % 4 := rfl
  unfold decodePolicy0
  rw [hfield]
  constructor
  · intro h
    split at h
    next restore t hr ht =>
      dsimp only [optOf] at h
      split at h
      · simp at h
      next hlim =>
        simp only [Bool.or_eq_true, Bool.and_eq_true, decide_eq_true_eq, not_or, not_lt, not_and, Fin.ofNat] at hlim
        obtain ⟨⟨⟨hS, hH⟩, hO⟩, hT⟩ := hlim
        obtain ⟨rfl, rfl⟩ := Prod.mk.inj (Option.some.inj h)
        refine ⟨⟨⟨?_, ?_, ?_⟩, ⟨rfl, rfl⟩, ⟨rfl, rfl, (restoreOf_iff.1 hr).symm⟩, rfl⟩, hT, t, decodeTime_iff.1 ht, rfl, ?_, rfl⟩
        all_goals
          simp only [Fin.ofNat]
          omega
    · simp at h
  · rintro ⟨⟨⟨hS, hH, hO⟩, ⟨hop, hov⟩, ⟨htp, htv, hr⟩, hm⟩, hT, t, ht, hov', hw, rfl⟩
    obtain ⟨reqSusp, reqHib, reqOff, ⟨op, ov⟩, restore, ⟨tp, tv⟩, overrideFor, width, mask⟩ := p
    dsimp only at *
    subst hop htp
    have h1 := reqSusp.isLt
    have h2 := reqHib.isLt
    have h3 := reqOff.isLt
    have hlim : ¬(decide (63 < (byteAt bs 0).toNat) || decide (63 < (byteAt bs 1).toNat) ||
        decide (63 < (byteAt bs 2).toNat) || ((byteAt bs 4).getLsbD 7 && decide (7 < (Fin.ofNat 16 (byteAt bs 4).toNat).val))) = true := by
      simp only [Bool.or_eq_true, Bool.and_eq_true, decide_eq_true_eq, not_or, not_lt, not_and, Fin.ofNat, htv]
      exact ⟨⟨⟨by omega, by omega⟩, by omega⟩, hT⟩
    rw [restoreOf_iff.2 hr.symm, decodeTime_iff.2 ht]
    dsimp only [optOf]
    refine (if_neg hlim).trans ?_
    simp only [Option.some.injEq, Prod.mk.injEq, Policy0.mk.injEq, Opt.mk.injEq, ofNat_eq_iff, and_true, true_and]
    refine ⟨?_, ?_, ?_, hov, htv, hov'.symm, ?_, hm⟩ <;> omega

theorem policyAt_encode (p : Policy0) : PolicyAt (encodePolicy0 p) p ∧ PolicyTimesAt (encodePolicy0 p) p ∧
    (byteAt (encodePolicy0 p) 3).toNat / 64 % 2 = 0 ∧ (byteAt (encodePolicy0 p) 4).toNat / 64 % 2 = 0 ∧
    (byteAt (encodePolicy0 p) 6).toNat / 64 = 0 := by
  have hS := p.reqSusp.isLt
  have hH := p.reqHib.isLt
  have hO := p.reqOff.isLt
  have hop := p.offNotice.present.toNat_le
  have hov := p.offNotice.value.isLt
  have htp := p.trip.present.toNat_le
  have htv := p.trip.value.isLt
  have hr := restoreCode_lt p.restore
  have hw := p.pfailWidth.isLt
  obtain ⟨ht, htop⟩ := timeAt_of_bytes (bs := encodePolicy0 p) (i := 5) (t := p.overrideFor) rfl rfl
  rw [policyAt_iff]
  refine ⟨⟨⟨?_, ?_, ?_⟩, ⟨getLsbD_byteOf ?_ ?_, ?_⟩, ⟨getLsbD_byteOf ?_ ?_, ?_, ?_⟩, rfl⟩, ⟨ht, ?_⟩, ?_, ?_, htop⟩
  all_goals
    simp only [encodePolicy0, encodeTime_eq, List.cons_append, List.nil_append, byteAt_cons_zero, byteAt_cons_succ,
      bitAt_eq, toNat_byteOf_mod]
    omega

/-- The override time of a stored Policy is not clamped again (R156). -/
theorem clampOverride_of_le {t : TimeField} (h : duration t ≤ 1966080) : clampOverride t = t := by
  unfold clampOverride
  rw [if_neg (by simp only [Config.overrideMaxK]; omega)]

theorem policy0ReadsBack (p : Policy0) (hT : p.trip.present = true → p.trip.value.val ≤ 7)
    (ht : duration p.overrideFor ≤ 1966080) :
    decodePolicy0 (encodePolicy0 p) = some (p, false) ∧ (encodePolicy0 p).length = recLen .policy := by
  obtain ⟨hat, ⟨htime, hwidth⟩, -⟩ := policyAt_encode p
  have hw := p.pfailWidth.isLt
  refine ⟨decodePolicy0_iff.2 ⟨hat, hT, _, htime, (clampOverride_of_le ht).symm, by omega, ?_⟩, rfl⟩
  simp [clampOverride_of_le ht, hwidth]
  omega

/-! ## Rail records -/

/-- The code of a sense kind (R161). -/
def senseCode : Sense → Nat
  | .monitored _ => 0
  | .pgline => 1
  | .timed _ _ => 2

/-- The highest line a sense kind allows (R56). -/
def lineLimit : Sense → Nat
  | .monitored _ => 11
  | .pgline => 7
  | .timed _ _ => 15

/-- A sense group is read from the places of R161, for its kind's code and lines. -/
theorem decodeSense_iff {x : Sense} : decodeSense bs = some x ↔
    SenseAt bs x ∧ (byteAt bs 0).toNat / 8 % 4 = senseCode x ∧ (byteAt bs 2).toNat % 16 ≤ lineLimit x := by
  have hkind : field (byteAt bs 0) 3 2 = (byteAt bs 0).toNat / 8 % 4 := rfl
  unfold decodeSense
  rw [hkind, field_low]
  dsimp only
  constructor
  · intro h
    split at h
    next hk =>
      split at h
      · simp at h
      next hl =>
        obtain rfl := Option.some.inj h
        exact ⟨⟨rfl, rfl, rfl, rfl, rfl⟩, hk, not_lt.1 hl⟩
    next =>
      split at h
      next hk =>
        split at h
        · simp at h
        next hl =>
          obtain rfl := Option.some.inj h
          exact ⟨trivial, hk, not_lt.1 hl⟩
      next =>
        split at h
        next hk =>
          split at h
          next t d ht hd =>
            obtain rfl := Option.some.inj h
            exact ⟨⟨decodeTime_iff.1 ht, decodeTime_iff.1 hd⟩, hk, by simp only [lineLimit]; omega⟩
          · simp at h
        · simp at h
  · rintro ⟨hat, hk, hl⟩
    cases x with
    | monitored b =>
      obtain ⟨hgain, hnominal, hgood, hfail, hdrain⟩ := hat
      rw [if_pos (by exact hk), if_neg (by exact not_lt.2 hl)]
      obtain ⟨gain, nominal, tolGood, tolFail, drain⟩ := b
      exact congrArg some (congrArg Sense.monitored (Bands.mk.injEq .. ▸ ⟨hgain, hnominal, hgood, hfail, hdrain⟩))
    | pgline => rw [if_neg (by simp [hk, senseCode]), if_pos (by exact hk), if_neg (by exact not_lt.2 hl)]
    | timed t d =>
      rw [if_neg (by simp [hk, senseCode]), if_neg (by simp [hk, senseCode]), if_pos (by exact hk), decodeTime_iff.2 hat.1,
        decodeTime_iff.2 hat.2]

theorem railAt_iff {r : RailRec} : RailAt bs r ↔
    ((byteAt bs 0).getLsbD 0 = r.present ∧ (byteAt bs 0).getLsbD 1 = r.activeLow ∧
      (byteAt bs 0).getLsbD 2 = r.critical ∧ (byteAt bs 0).toNat / 8 % 4 = senseCode r.sense) ∧
    ((byteAt bs 1).getLsbD 7 = r.parent.present ∧ (byteAt bs 1).toNat % 16 = r.parent.value.val) ∧
    ((byteAt bs 2).toNat % 16 = r.line.val ∧ (byteAt bs 2).toNat / 16 = r.filter.val) ∧ SenseAt bs r.sense := by
  unfold RailAt
  cases r.sense <;> rfl

/-- A RAIL record is read from the places of R161, before clamping, where its parent and its line are allowed (R56). -/
theorem decodeRailRaw_iff {slot : Fin 16} {r : RailRec} : decodeRailRaw slot bs = some r ↔
    RailAt bs r ∧ (r.parent.present = true → r.parent.value < slot) ∧ r.line.val ≤ lineLimit r.sense := by
  rw [railAt_iff]
  have hf := (byteAt bs 2).isLt
  unfold decodeRailRaw
  rw [field_high]
  dsimp only [optOf]
  constructor
  · intro h
    split at h
    · simp at h
    next hp =>
      obtain ⟨x, hx, rfl⟩ := Option.map_eq_some_iff.1 h
      obtain ⟨hat, hk, hl⟩ := decodeSense_iff.1 hx
      refine ⟨⟨⟨rfl, rfl, rfl, hk⟩, ⟨rfl, rfl⟩, ⟨rfl, ?_⟩, hat⟩, fun hpar => ?_, hl⟩
      · simp only [Fin.ofNat]
        omega
      · simpa [optOf, show (byteAt bs 1).getLsbD 7 = true from hpar, Fin.lt_def] using hp
  · rintro ⟨⟨⟨hp, ha, hc, hk⟩, ⟨hpp, hpv⟩, ⟨hl, hw⟩, hat⟩, hpar, hlim⟩
    have hsense : decodeSense bs = some r.sense := decodeSense_iff.2 ⟨hat, hk, hl ▸ hlim⟩
    have hparent : Fin.ofNat 16 (byteAt bs 1).toNat = r.parent.value := ofNat_eq_iff.2 hpv
    have hline : Fin.ofNat 16 (byteAt bs 2).toNat = r.line := ofNat_eq_iff.2 hl
    have hfilter : Fin.ofNat 16 ((byteAt bs 2).toNat / 16) = r.filter := ofNat_eq_iff.2 (by omega)
    rw [hpp, hparent, if_neg (by simpa using hpar), hsense, hp, ha, hc, hline, hfilter]
    rfl

theorem senseCode_lt (x : Sense) : senseCode x < 3 := by cases x <;> simp [senseCode]

theorem clampBands_idem {b : Bands} (h : clampBands b = b) : b.gain < 65536 ∧ b.nominal < 65536 ∧ b.tolGood < 256 ∧
    b.tolFail < 256 ∧ b.drain < 65536 := by
  obtain ⟨⟨-, hgain⟩, ⟨-, hnominal⟩, ⟨-, hgood⟩, ⟨-, hfail⟩, ⟨-, hdrain⟩, -⟩ := bandClamping b
  rw [h] at hgain hnominal hgood hfail hdrain
  omega

theorem encodeRail_head (r : RailRec) : ∃ group : List Byte, encodeRail r =
    byteOf (bitAt r.present 0 + bitAt r.activeLow 1 + bitAt r.critical 2 + 8 * senseCode r.sense) ::
      byteOf (bitAt r.parent.present 7 + r.parent.value.val) :: byteOf (r.line.val + 16 * r.filter.val) :: group := by
  unfold encodeRail
  cases r.sense <;> exact ⟨_, rfl⟩

theorem senseAt_encode (r : RailRec) (h : ∀ b : Bands, r.sense = .monitored b → clampBands b = b) :
    SenseAt (encodeRail r) r.sense := by
  obtain ⟨present, activeLow, critical, parent, line, filter, sense⟩ := r
  cases sense with
  | monitored b =>
    obtain ⟨hgain, hnominal, hgood, hfail, hdrain⟩ := clampBands_idem (h b rfl)
    exact ⟨le2_of_bytes hgain rfl rfl, le2_of_bytes hnominal rfl rfl, toNat_byteOf hgood, toNat_byteOf hfail,
      le2_of_bytes hdrain rfl rfl⟩
  | pgline => trivial
  | timed t d => exact ⟨(timeAt_of_bytes rfl rfl).1, (timeAt_of_bytes rfl rfl).1⟩

theorem railAt_encode (r : RailRec) (h : ∀ b : Bands, r.sense = .monitored b → clampBands b = b) :
    RailAt (encodeRail r) r ∧ (byteAt (encodeRail r) 0).toNat / 32 = 0 ∧
      (byteAt (encodeRail r) 1).toNat / 16 % 8 = 0 := by
  have hsense := senseAt_encode r h
  obtain ⟨group, hr⟩ := encodeRail_head r
  have hp := r.present.toNat_le
  have ha := r.activeLow.toNat_le
  have hc := r.critical.toNat_le
  have hk := senseCode_lt r.sense
  have hpp := r.parent.present.toNat_le
  have hpv := r.parent.value.isLt
  have hl := r.line.isLt
  have hf := r.filter.isLt
  rw [railAt_iff]
  rw [hr] at hsense ⊢
  refine ⟨⟨⟨getLsbD_byteOf ?_ ?_, getLsbD_byteOf ?_ ?_, getLsbD_byteOf ?_ ?_, ?_⟩, ⟨getLsbD_byteOf ?_ ?_, ?_⟩,
    ⟨?_, ?_⟩, hsense⟩, ?_, ?_⟩
  all_goals
    simp only [byteAt_cons_zero, byteAt_cons_succ, bitAt_eq, toNat_byteOf_mod]
    omega

/-- The bytes that a PGLINE or a NONE rail leaves unused are 0. -/
theorem encodeRail_rest (r : RailRec) {i : Nat} (hi : i < 11) (h : r.sense = .pgline ∧ 3 ≤ i ∨
    (∃ settle drain : TimeField, r.sense = .timed settle drain) ∧ 7 ≤ i) : byteAt (encodeRail r) i = 0 := by
  obtain ⟨present, activeLow, critical, parent, line, filter, sense⟩ := r
  obtain ⟨rfl, hlo⟩ | ⟨⟨t, d, rfl⟩, hlo⟩ := h
  all_goals interval_cases i <;> rfl

theorem railReadsBack (slot : Fin 16) (r : RailRec) (hp : r.parent.present = true → r.parent.value < slot)
    (hs : match r.sense with
      | .monitored b => r.line.val ≤ 11 ∧ clampBands b = b
      | .pgline => r.line.val ≤ 7
      | .timed _ _ => True) :
    decodeRail slot (encodeRail r) = some (r, false) ∧ (encodeRail r).length = recLen .rail := by
  have hlimit : r.line.val ≤ lineLimit r.sense ∧ clampSense r.sense = r.sense ∧
      ∀ b : Bands, r.sense = .monitored b → clampBands b = b := by
    cases hx : r.sense <;> simp_all [lineLimit, clampSense]
    omega
  obtain ⟨hline, hclamp, hbands⟩ := hlimit
  refine ⟨?_, ?_⟩
  · unfold decodeRail
    rw [decodeRailRaw_iff.2 ⟨(railAt_encode r hbands).1, hp, hline⟩]
    simp [hclamp]
  · obtain ⟨present, activeLow, critical, parent, line, filter, sense⟩ := r
    cases sense <;> rfl

/-! ## Records as a whole (R161) -/

theorem recordsReadBack : Claims.RecordsReadBack :=
  ⟨railReadsBack, stepReadsBack, fun e => ⟨decodeTrans_iff.2 (transAt_encode e).1, rfl⟩,
    fun e => ⟨decodeWire_iff.2 (wireAt_encode e).1, rfl⟩, fun e => ⟨decodeWake_iff.2 (wakeAt_encode e).1, rfl⟩,
    policy0ReadsBack, fun p => ⟨decodePolicy1_iff.2 (listsAt_encode p).1, rfl⟩⟩

theorem recordLayouts : Claims.RecordLayouts := by
  refine ⟨fun r h => ?_, stepAt_encode, transAt_encode, wireAt_encode, wakeAt_encode, policyAt_encode, listsAt_encode⟩
  obtain ⟨hat, h0, h1⟩ := railAt_encode r h
  exact ⟨hat, h0, h1, fun i hi hrest => encodeRail_rest r hi hrest⟩

theorem checkRecord_step {s : State} {i : Nat} {c : Checked} (h : checkRecord s .step i bs = some c) :
    ∃ x, decodeStep bs = some x ∧ c = .step (Fin.ofNat 256 i) x := by
  obtain ⟨x, hx, rfl⟩ := Option.map_eq_some_iff.1 h
  exact ⟨x, hx, rfl⟩

theorem recordsStored : Claims.RecordsStored := by
  intro s i bs
  refine ⟨fun slot x c hi h => ?_, fun n x hi h => ?_, fun n x hi h => ?_, fun n x hi h => ?_, fun n x hi h => ?_,
    fun x c h => ?_, fun x h => ?_⟩
  · obtain ⟨y, hy, he⟩ := Option.map_eq_some_iff.1 h
    obtain ⟨r, hr, rfl⟩ := Option.map_eq_some_iff.1 hy
    obtain ⟨rfl, rfl, rfl⟩ := Checked.rail.inj he
    refine ⟨Nat.mod_eq_of_lt hi, r, (decodeRailRaw_iff.1 hr).1, by cases r.sense <;> rfl, ?_⟩
    obtain ⟨present, activeLow, critical, parent, line, filter, sense⟩ := r
    simp
  · obtain ⟨y, hy, he⟩ := Option.map_eq_some_iff.1 h
    obtain ⟨rfl, rfl⟩ := Checked.step.inj he
    exact ⟨Nat.mod_eq_of_lt hi, (decodeStep_iff.1 hy).1⟩
  · obtain ⟨rfl, rfl⟩ := Checked.trans.inj (Option.some.inj h)
    exact ⟨Nat.mod_eq_of_lt hi, decodeTrans_iff.1 rfl⟩
  · have hw : checkWire s (Fin.ofNat 64 i) bs = some (.wire n x) := h
    unfold checkWire at hw
    split at hw
    next e he =>
      split at hw
      · obtain ⟨rfl, rfl⟩ := Checked.wire.inj (Option.some.inj hw)
        exact ⟨Nat.mod_eq_of_lt hi, decodeWire_iff.1 he⟩
      · simp at hw
    · simp at hw
  · obtain ⟨y, hy, he⟩ := Option.map_eq_some_iff.1 h
    obtain ⟨rfl, rfl⟩ := Checked.wake.inj he
    exact ⟨Nat.mod_eq_of_lt hi, decodeWake_iff.1 hy⟩
  · have hp : checkPolicy s 0 bs = some (.policy0 x c) := h
    unfold checkPolicy at hp
    rw [if_pos rfl] at hp
    split at hp
    next p b he =>
      split at hp
      · obtain ⟨rfl, rfl⟩ := Checked.policy0.inj (Option.some.inj hp)
        obtain ⟨hat, -, t, ht, hover, hwidth, rfl⟩ := decodePolicy0_iff.1 he
        refine ⟨hat, fun hc => ?_⟩
        simp only [Bool.or_eq_false_iff, decide_eq_false_iff_not, not_not, not_lt] at hc
        rw [PolicyTimesAt, hover, hc.1]
        exact ⟨ht, by omega⟩
      · simp at hp
    · simp at hp
  · exact decodePolicy1_iff.1 (Checked.policy1.inj (Option.some.inj h))

/-- Settles O53: each record's decoder reads the places of R161, and each encoder writes them. -/
theorem recordsRoundTrip : Obligations.RecordsRoundTrip := ⟨recordsReadBack, recordLayouts, recordsStored⟩

/-! ## Link frames (R159) -/

/-- Settles O54: the bytes of a frame, put through the checks of an arriving frame in their order. -/
theorem framesRoundTrip : Obligations.FramesRoundTrip := by
  intro f hk hlen
  have hcode : frameCode f.kind < 6 := by cases f.kind <;> decide
  have htag := f.tag.isLt
  have hroute := f.route.toNat_le
  have hbit := f.bit6.toNat_le
  have hbytes : (frameBytes f).length = f.payload.length + 3 := by simp [frameBytes, frameBody]
  have hbody : (frameBytes f).take ((frameBytes f).length - 1) = frameBody f := by
    rw [← List.dropLast_eq_take]
    simp [frameBytes]
  have hcrc : byteAt (frameBytes f) ((frameBytes f).length - 1) = crc8 (frameBody f) := by
    simp [byteAt, frameBytes]
  have h0 : (byteAt (frameBytes f) 0).toNat = 16 * frameCode f.kind + f.payload.length := toNat_byteOf (by omega)
  have h1 : byteAt (frameBytes f) 1 = byteOf (bitAt f.route 7 + bitAt f.bit6 6 + f.tag.toNat) := rfl
  refine ⟨?_, by omega, by omega⟩
  rw [parseFrame_sound (by simp; omega), hbody, hcrc, if_neg (by simp), h0, if_neg (by omega),
    show (16 * frameCode f.kind + f.payload.length) / 16 = frameCode f.kind by omega, frameKindOf_frameCode hk, h1]
  have hr : (byteOf (bitAt f.route 7 + bitAt f.bit6 6 + f.tag.toNat)).getLsbD 7 = f.route := by
    rw [bitAt_eq, bitAt_eq]
    exact getLsbD_byteOf (by omega) (by omega)
  have hb : (byteOf (bitAt f.route 7 + bitAt f.bit6 6 + f.tag.toNat)).getLsbD 6 = f.bit6 := by
    rw [bitAt_eq, bitAt_eq]
    exact getLsbD_byteOf (by omega) (by omega)
  have ht : (byteOf (bitAt f.route 7 + bitAt f.bit6 6 + f.tag.toNat)).setWidth 6 = f.tag := by
    apply BitVec.eq_of_toNat_eq
    simp only [BitVec.toNat_setWidth, toNat_byteOf_mod, bitAt_eq]
    omega
  rw [hr, hb, ht]
  rfl

end Sys2Proof.Machine

/-! PROOFS. Scan passes: the row of a pass, the counting of a sample, and the verdict it leads to. -/

namespace Sys2Proof.Machine

variable {s t u : State} {slot : Fin 16} {v : Verdict} {x : RailStat} {r : RailRec}

/-! ## The verdict that a sample leads to (R62, R67, R68) -/

/-- The rail has a sense input: no timer belongs to its verdicts. -/
abbrev SensedRail (s : State) (slot : Fin 16) : Prop := ∀ a b, (peek s.rails.table slot).sense ≠ .timed a b

/-- A change of verdict of a rail whose status has just been stored. -/
theorem moveVerdict_withStat (h : SensedRail s slot) (x : RailStat) :
    moveVerdict slot v (withStat s slot x) = handOnVerdict slot v
      (if v = .good then withGoodTime (withStat s slot (moved x v)) slot else withStat s slot (moved x v)) := by
  rw [moveVerdict_eq]
  unfold verdictMoved
  rw [movedStat_of_none (timerOf_of_sensed (s := withStat s slot x) h), withStat_stat, withStat_withStat]

theorem applyCount_good (h : SensedRail s slot) : applyCount slot (x, some .good) s =
    handOnVerdict slot .good (withGoodTime (withStat s slot (moved x .good)) slot) := moveVerdict_withStat h x

theorem applyCount_off (h : SensedRail s slot) : applyCount slot (x, some .off) s =
    handOnVerdict slot .off (withStat s slot (moved x .off)) := moveVerdict_withStat h x

theorem lostStat_eq (x : RailStat) : moved { x with lost := satInc Config.max8 x.lost } .lost = lostStat x := by
  rw [satInc_max8]
  rfl

theorem applyCount_lost (h : SensedRail s slot) : applyCount slot (x, some .lost) s =
    if (peek s.rails.table slot).critical then
      triggerFault .rail (Fin.ofNat 256 slot.val) (handOnVerdict slot .lost (withStat s slot (lostStat x)))
    else handOnVerdict slot .lost (withStat s slot (lostStat x)) := by
  have hmove : moveVerdict slot .lost (setStat slot { x with lost := satInc Config.max8 x.lost } (withStat s slot x)) =
      handOnVerdict slot .lost (withStat s slot (lostStat x)) := by
    rw [setStat_eq, withStat_withStat, moveVerdict_withStat h, lostStat_eq]
    rfl
  have hsubject : (Fin.castLE (by decide) slot : Fin 256) = Fin.ofNat 256 slot.val :=
    Fin.ext (Nat.mod_eq_of_lt (by have := slot.isLt; omega)).symm
  have hcritical (t : State) : (peek (handOnVerdict slot .lost t).rails.table slot).critical =
      (peek t.rails.table slot).critical := by simp
  show railLost slot (withStat s slot x) = _
  unfold railLost
  rw [withStat_stat]
  dsimp only
  rw [hmove, hcritical, hsubject]
  rfl

/-! ## What becomes of a step that waits on the rail (R31, R32) -/

theorem handOn_of_waits {k : StepKind} {e : RunEnd} (h : waitsIn s k = true) : handOn k e s = endRunWith e s := if_pos h

theorem handOnVerdict_good (h : slotOf s.eng.cur = slot) : handOnVerdict slot .good s = handOn .waitGood .ok s := by
  unfold handOnVerdict
  rw [if_neg (not_not.2 h)]

theorem handOnVerdict_off (h : slotOf s.eng.cur = slot) : handOnVerdict slot .off s = handOn .waitOff .ok s := by
  unfold handOnVerdict
  rw [if_neg (not_not.2 h)]

/-- A loss fails the WAIT_GOOD on the rail, but for a critical rail's in the Normal channel (R31, R67). -/
theorem handOnVerdict_lost (h : slotOf s.eng.cur = slot)
    (hc : (peek s.rails.table slot).critical = false ∨ s.eng.urg.running = true) :
    handOnVerdict slot .lost s = handOn .waitGood (.failed .lost) s := by
  unfold handOnVerdict
  rw [if_neg (not_not.2 h)]
  dsimp only
  rw [if_neg]
  obtain h | h := hc <;> simp [h]

theorem handOnVerdict_lost_critical (hc : (peek s.rails.table slot).critical = true) (hu : s.eng.urg.running = false) :
    handOnVerdict slot .lost s = s := by
  unfold handOnVerdict
  split
  · rfl
  · simp [hc, hu]

section
variable (h : SensedRail s slot) (hd : s.eng.due = .nothing)

theorem withGoodTime_rest (hd : s.eng.due = .nothing) (slot : Fin 16) : (withGoodTime s slot).eng.due = .nothing := by
  unfold withGoodTime
  dsimp only
  split
  · exact hd
  · exact hd

/-- What a good time leaves of the engine. -/
theorem withGoodTime_waits (s : State) (slot : Fin 16) (k : StepKind) :
    waitsIn (withGoodTime s slot) k = waitsIn s k ∧ (withGoodTime s slot).eng.cur = s.eng.cur := by
  unfold withGoodTime
  dsimp only
  split <;> exact ⟨rfl, rfl⟩

theorem steppingIn_withGoodTime {k : StepKind} (h : SteppingIn s k) (slot : Fin 16) :
    SteppingIn (withGoodTime s slot) k := by
  unfold withGoodTime
  dsimp only
  split
  · exact h
  · exact h

include h hd

theorem runChain_good (hn : NotAwaited s slot) : runChain (applyCount slot (x, some .good) s) =
    withGoodTime (withStat s slot (moved x .good)) slot := by
  have hnot : NotAwaited (withGoodTime (withStat s slot (moved x .good)) slot) slot := by
    unfold withGoodTime
    dsimp only
    split
    · exact hn
    · exact hn
  rw [applyCount_good h, handOnVerdict_of_not hnot]
  exact runChain_of_rest (withGoodTime_rest (s := withStat s slot _) hd slot)

theorem runChain_off (hn : NotAwaited s slot) :
    runChain (applyCount slot (x, some .off) s) = withStat s slot (moved x .off) := by
  rw [applyCount_off h, handOnVerdict_of_not (by exact hn)]
  exact runChain_of_rest (s := withStat s slot _) hd

theorem runChain_lost (hn : NotAwaited s slot) (hc : (peek s.rails.table slot).critical = false) :
    runChain (applyCount slot (x, some .lost) s) = withStat s slot (lostStat x) := by
  rw [applyCount_lost h, if_neg (by simp [hc]), handOnVerdict_of_not (by exact hn)]
  exact runChain_of_rest (s := withStat s slot _) hd

omit hd in
theorem runChain_good_waits (hw : SteppingIn s .waitGood) (hslot : slotOf s.eng.cur = slot) :
    runChain (applyCount slot (x, some .good) s) =
      haltedAfter (withGoodTime (withStat s slot (moved x .good)) slot) := by
  have hw' : SteppingIn (withGoodTime (withStat s slot (moved x .good)) slot) .waitGood :=
    steppingIn_withGoodTime (s := withStat s slot _) hw slot
  obtain ⟨-, hcur⟩ := withGoodTime_waits (withStat s slot (moved x .good)) slot .waitGood
  rw [applyCount_good h, handOnVerdict_good (by rw [hcur]; exact hslot), handOn_of_waits hw'.waits]
  exact hw'.succeeds (by decide) rfl

omit hd in
theorem runChain_off_waits (hw : SteppingIn s .waitOff) (hslot : slotOf s.eng.cur = slot) :
    runChain (applyCount slot (x, some .off) s) = haltedAfter (withStat s slot (moved x .off)) := by
  rw [applyCount_off h, handOnVerdict_off (by exact hslot), handOn_of_waits (by exact hw.waits)]
  exact hw.succeeds (t := withStat s slot _) (by decide) rfl

omit hd in
theorem runChain_lost_waits (hw : SteppingIn s .waitGood) (hslot : slotOf s.eng.cur = slot)
    (hc : (peek s.rails.table slot).critical = false) (ha : s.eng.cur.action = .goOn) :
    runChain (applyCount slot (x, some .lost) s) = haltedAfter ((withStat s slot (lostStat x)).setEng
      { s.eng with inflight := warned s.eng.norm.idx .lost s.eng.inflight }) := by
  rw [applyCount_lost h, if_neg (by simp [hc]), handOnVerdict_lost (by exact hslot) (.inl (by exact hc)),
    handOn_of_waits (by exact hw.waits)]
  exact runChain_failed_halts (s := withStat s slot _) hw.below ha hw.halts

omit hd in
/-- The loss of a critical rail with the Urgent channel IDLE starts the FAULT list (R67, R83, R91). -/
theorem lossStartsFault (hc : (peek s.rails.table slot).critical = true) (hready : FaultListReady s) :
    LossStartsFault slot (withStat s slot (lostStat x)) (runChain (applyCount slot (x, some .lost) s)) := by
  obtain ⟨hu, hf, hp, hl⟩ := hready
  obtain ⟨hruns, hlatch, -, -, hfirst, hlast⟩ := triggerFault_runs (c := .rail) (Fin.ofNat 256 slot.val)
    (s := withStat s slot (lostStat x)) hu hf ⟨hp, rfl, hl⟩
  rw [applyCount_lost h, if_pos hc, handOnVerdict_lost_critical (by exact hc) (by exact hu)]
  refine ⟨hruns, hlatch, hfirst, fun hn => ?_⟩
  obtain ⟨-, -, -, -, -, hclosed⟩ := stopNorm_eng (withStat s slot (lostStat x))
  rw [hlast, hclosed hn]
  exact ⟨rfl, rfl⟩

omit hd in
/-- While the Urgent channel runs, the loss of a critical rail is recorded, and the WAIT_GOOD on it fails (R46, R67). -/
theorem lossFailsUrgent (hc : (peek s.rails.table slot).critical = true) (hw : UrgentIn s .waitGood)
    (hslot : slotOf s.eng.cur = slot) (hf : s.fault.first.isSome = true) :
    runChain (applyCount slot (x, some .lost) s) = urgentNext .lost ((withStat s slot (lostStat x)).setFault
      { s.fault with further := min 255 (s.fault.further + 1) }) := by
  obtain ⟨hs, hu, hwait, hk, hi, hl⟩ := hw
  have hwaits : waitsIn s .waitGood = true := waitsIn_iff.2 ⟨hwait, hk, by simp [channelRuns, hu]⟩
  have hb : UrgentBelow ((withStat s slot (lostStat x)).setFault
    { s.fault with further := min 255 (s.fault.further + 1) }) := ⟨hu, hi, hl⟩
  rw [applyCount_lost h, if_pos hc, handOnVerdict_lost (by exact hslot) (.inr (by exact hu)),
    handOn_of_waits (by exact hwaits), triggerFault_running _ _ (by exact hu), writeFault_eq,
    (writeFault_fault _ _ _).2 (by exact hf), ← runChain_urgent_failed hb]
  rfl

end

end Sys2Proof.Machine

/-! PROOFS. SCAN_PASS: the rails it names, and the samples of MONITORED and PGLINE rails by verdict. -/

namespace Sys2Proof.Machine

variable {s t u : State} {slot : Fin 16} {v : Verdict} {x : RailStat} {r : RailRec} {b : Bands}

/-! ## The row of a pass (R71) -/

theorem passDue_iff : passDue s = true ↔ PassHere s := by
  simp [passDue, passAt]

/-- The pass of this boundary has begun. -/
theorem beginPass_passScanned (s : State) :
    beginPass s = s.setBoundary { s.boundary with passBegun := true, scanned := passScanned s } := by
  unfold beginPass passScanned
  split
  next hb =>
    have hkept : ({ s.boundary with passBegun := true, scanned := s.boundary.scanned } : Boundary) = s.boundary := by
      rw [← hb]
    rw [hkept]
    rfl
  next hb =>
    refine congrArg (fun v => s.setBoundary { s.boundary with passBegun := true, scanned := v }) ?_
    refine congrArg Vector.ofFn (funext fun n => ?_)
    unfold isScanned
    cases (peek s.rails.stat n).verdict <;> cases (peek s.rails.table n).sense <;> rfl

theorem takeRail_beginPass (h : peek s.boundary.rail slot = true) :
    takeRail slot (beginPass s) = sampleRail slot (sampledAt s slot) := by
  rw [beginPass_passScanned]
  exact if_pos h

theorem poke_of_peek {α : Type} {n : Nat} {v : Vector α n} {i : Fin n} {a : α} (h : peek v i = a) : poke v i a = v :=
  table_ext fun j => by
    rw [peek_poke]
    split
    next hij => rw [← hij, h]
    next => rfl

theorem takeRail_sampledAt (h : peek s.boundary.rail slot = false) : takeRail slot (beginPass s) = sampledAt s slot := by
  rw [beginPass_passScanned, takeRail, if_neg (by simp [h])]
  unfold sampledAt
  rw [poke_of_peek h]

/-- A row of one rail, where the boundary carries a pass. -/
theorem exec_scanPass_one (hs : AtRest s) (hp : PassHere s) :
    exec (.scanPass [slot]) s = .next (runChain (takeRail slot (beginPass s))) := by
  have hrest : (runChain (takeRail slot (beginPass s))).eng.due = .nothing :=
    (railsTaken_takeRail slot (beginPass s)).rest (by rw [beginPass_passScanned]; exact hs.2)
  show execScanPass [slot] s = _
  exact whilePowered_next hs.1 (if_pos (passDue_iff.2 hp)) hrest

theorem exec_scanPass_none (slots : List (Fin 16)) (hs : AtRest s) (hp : ¬PassHere s) :
    exec (.scanPass slots) s = .next s := by
  show execScanPass slots s = _
  exact whilePowered_self hs (if_neg (mt passDue_iff.1 hp))

/-! ## The sample of a rail (R64, R74, R77, R78, R79) -/

theorem isSampled_iff : isSampled v = true ↔ v = .rising ∨ v = .good ∨ v = .draining := by
  cases v <;> simp [isSampled]

theorem sampleRail_idle (h : (peek s.rails.stat slot).verdict = .off ∨ (peek s.rails.stat slot).verdict = .lost) :
    sampleRail slot s = s := by
  obtain h | h := h <;> simp [sampleRail, h, isSampled]

/-- The status of a MONITORED rail as its sample reads it (R74). -/
abbrev readStat (s : State) (slot : Fin 16) (r : RailRec) (b : Bands) : RailStat :=
  { peek s.rails.stat slot with mV := railMv (codeAt s r) b.gain }

/-- The event of a MONITORED rail whose sample is due. -/
theorem takeRail_monitored (h : Sampled s slot r b v) (hv : v = .rising ∨ v = .good ∨ v = .draining) :
    takeRail slot (beginPass s) = applyCount slot
      (countMonitored (actingFilter r.filter) b (codeAt s r) (readStat s slot r b)) (converted s slot r) := by
  obtain ⟨hs, hp, hdue, hr, hpresent, hsense, hverdict⟩ := h
  rw [takeRail_beginPass hdue]
  unfold sampleRail
  dsimp only
  rw [show peek (sampledAt s slot).rails.table slot = r from hr,
    show peek (sampledAt s slot).rails.stat slot = peek s.rails.stat slot from rfl,
    if_neg (by simp [hpresent, hverdict, isSampled_iff, hv])]
  simp only [hsense]
  rfl

/-- The row of a PGLINE rail whose sample is due. -/
theorem scanPass_pgline (hs : AtRest s) (hp : PassHere s) (hdue : peek s.boundary.rail slot = true)
    (hr : peek s.rails.table slot = r) (hpresent : r.present = true) (hsense : r.sense = .pgline) (hline : r.line.val < 8)
    (hv : (peek s.rails.stat slot).verdict = .rising ∨ (peek s.rails.stat slot).verdict = .good ∨
      (peek s.rails.stat slot).verdict = .draining) :
    exec (.scanPass [slot]) s = .next (runChain (applyCount slot
      (countPg (actingFilter r.filter) (s.pins.now.pg.getLsbD r.line.val) (peek s.rails.stat slot)) (sampledAt s slot))) := by
  rw [exec_scanPass_one hs hp, takeRail_beginPass hdue]
  refine congrArg (fun x => Host.Outcome.next (runChain x)) ?_
  unfold sampleRail
  dsimp only
  rw [show peek (sampledAt s slot).rails.table slot = r from hr,
    show peek (sampledAt s slot).rails.stat slot = peek s.rails.stat slot from rfl,
    if_neg (by simp [hpresent, isSampled_iff, hv])]
  simp only [hsense, Nat.mod_eq_of_lt hline]
  rfl

/-! ## The counts by verdict -/

section
variable {f : Nat} {code : BitVec 10}

/-- In count and over count after a sample of a RISING rail, out count of a GOOD one, low count of a DRAINING one. -/
abbrev upCount (b : Bands) (code : BitVec 10) (x : RailStat) : Nat :=
  if bandClass b code = .inGood then x.inCount + 1 else 0
abbrev overCountOf (b : Bands) (code : BitVec 10) (x : RailStat) : Nat := if isOver b code then x.overCount + 1 else 0
abbrev outCountOf (b : Bands) (code : BitVec 10) (x : RailStat) : Nat :=
  if bandClass b code = .outFail then x.outCount + 1 else 0
abbrev lowCountOf (b : Bands) (code : BitVec 10) (x : RailStat) : Nat := if belowDrain b code then x.lowCount + 1 else 0

theorem countMonitored_rising (h : x.verdict = .rising) : countMonitored f b code x =
    ({ x with inCount := upCount b code x, overCount := overCountOf b code x },
      if f ≤ upCount b code x then some .good else if f ≤ overCountOf b code x then some .lost else none) := by
  simp [countMonitored, h, countOn, risen]
  rfl

theorem countMonitored_good (h : x.verdict = .good) : countMonitored f b code x =
    ({ x with outCount := outCountOf b code x }, if f ≤ outCountOf b code x then some .lost else none) := by
  simp [countMonitored, h, countOn]

theorem countMonitored_draining (h : x.verdict = .draining) : countMonitored f b code x =
    ({ x with lowCount := lowCountOf b code x }, if f ≤ lowCountOf b code x then some .off else none) := by
  simp [countMonitored, h, countOn]
  rfl

variable {high : Bool}

theorem countPg_rising (h : x.verdict = .rising) : countPg f high x =
    ({ x with inCount := if high then x.inCount + 1 else 0 },
      if f ≤ (if high then x.inCount + 1 else 0) then some .good else none) := by
  simp [countPg, h, countOn]
  rfl

theorem countPg_good (h : x.verdict = .good) : countPg f high x =
    ({ x with outCount := if high then 0 else x.outCount + 1 },
      if f ≤ (if high then 0 else x.outCount + 1) then some .lost else none) := by
  cases high <;> simp [countPg, h, countOn]

theorem countPg_draining (h : x.verdict = .draining) : countPg f high x =
    ({ x with lowCount := if high then 0 else x.lowCount + 1 },
      if f ≤ (if high then 0 else x.lowCount + 1) then some .off else none) := by
  cases high <;> simp [countPg, h, countOn]

end

/-! ## MONITORED rails -/

theorem sensed_of_monitored (h : Sampled s slot r b v) : SensedRail (converted s slot r) slot := by
  obtain ⟨-, -, -, hr, -, hsense, -⟩ := h
  intro a d he
  have : r.sense = .timed a d := by rw [← hr]; exact he
  simp [hsense] at this

theorem table_of_sampled (h : Sampled s slot r b v) : peek (converted s slot r).rails.table slot = r :=
  let ⟨_, _, _, hr, _⟩ := h
  hr

theorem rest_of_sampled (h : Sampled s slot r b v) : s.eng.due = .nothing :=
  let ⟨hs, _⟩ := h
  hs.2

theorem verdict_of_sampled (h : Sampled s slot r b v) : (peek s.rails.stat slot).verdict = v :=
  let ⟨_, _, _, _, _, _, hv⟩ := h
  hv

/-! The event of a MONITORED rail and the row of it, by verdict. -/

theorem takeRail_rising (h : Sampled s slot r b .rising) {o : Option Verdict}
    (ho : (if actingFilter r.filter ≤ upCount b (codeAt s r) (readStat s slot r b) then some .good
      else if actingFilter r.filter ≤ overCountOf b (codeAt s r) (readStat s slot r b) then some .lost else none) = o) :
    takeRail slot (beginPass s) = applyCount slot
      ({ readStat s slot r b with
        inCount := upCount b (codeAt s r) (readStat s slot r b),
        overCount := overCountOf b (codeAt s r) (readStat s slot r b) }, o) (converted s slot r) := by
  rw [takeRail_monitored h (.inl rfl), countMonitored_rising (x := readStat s slot r b) (verdict_of_sampled h), ho]

theorem scanPass_rising (h : Sampled s slot r b .rising) {o : Option Verdict}
    (ho : (if actingFilter r.filter ≤ upCount b (codeAt s r) (readStat s slot r b) then some .good
      else if actingFilter r.filter ≤ overCountOf b (codeAt s r) (readStat s slot r b) then some .lost else none) = o) :
    exec (.scanPass [slot]) s = .next (runChain (applyCount slot
      ({ readStat s slot r b with
        inCount := upCount b (codeAt s r) (readStat s slot r b),
        overCount := overCountOf b (codeAt s r) (readStat s slot r b) }, o) (converted s slot r))) := by
  rw [exec_scanPass_one h.1 h.2.1, takeRail_rising h ho]

theorem takeRail_good (h : Sampled s slot r b .good) {o : Option Verdict}
    (ho : (if actingFilter r.filter ≤ outCountOf b (codeAt s r) (readStat s slot r b) then some .lost else none) = o) :
    takeRail slot (beginPass s) = applyCount slot
      ({ readStat s slot r b with outCount := outCountOf b (codeAt s r) (readStat s slot r b) }, o) (converted s slot r) := by
  rw [takeRail_monitored h (.inr (.inl rfl)), countMonitored_good (x := readStat s slot r b) (verdict_of_sampled h), ho]

theorem scanPass_good (h : Sampled s slot r b .good) {o : Option Verdict}
    (ho : (if actingFilter r.filter ≤ outCountOf b (codeAt s r) (readStat s slot r b) then some .lost else none) = o) :
    exec (.scanPass [slot]) s = .next (runChain (applyCount slot
      ({ readStat s slot r b with outCount := outCountOf b (codeAt s r) (readStat s slot r b) }, o) (converted s slot r))) := by
  rw [exec_scanPass_one h.1 h.2.1, takeRail_good h ho]

theorem takeRail_draining (h : Sampled s slot r b .draining) {o : Option Verdict}
    (ho : (if actingFilter r.filter ≤ lowCountOf b (codeAt s r) (readStat s slot r b) then some .off else none) = o) :
    takeRail slot (beginPass s) = applyCount slot
      ({ readStat s slot r b with lowCount := lowCountOf b (codeAt s r) (readStat s slot r b) }, o) (converted s slot r) := by
  rw [takeRail_monitored h (.inr (.inr rfl)), countMonitored_draining (x := readStat s slot r b) (verdict_of_sampled h), ho]

theorem scanPass_draining (h : Sampled s slot r b .draining) {o : Option Verdict}
    (ho : (if actingFilter r.filter ≤ lowCountOf b (codeAt s r) (readStat s slot r b) then some .off else none) = o) :
    exec (.scanPass [slot]) s = .next (runChain (applyCount slot
      ({ readStat s slot r b with lowCount := lowCountOf b (codeAt s r) (readStat s slot r b) }, o) (converted s slot r))) := by
  rw [exec_scanPass_one h.1 h.2.1, takeRail_draining h ho]

/-- A sample that leaves the verdict is only counted. -/
theorem runChain_counted (hd : s.eng.due = .nothing) : runChain (applyCount slot (x, none) s) = withStat s slot x :=
  runChain_of_rest (s := withStat s slot x) hd

theorem scanRising : Claims.ScanRising := by
  intro s slot r b h
  have hsense := sensed_of_monitored h
  have hd := rest_of_sampled h
  have htable := table_of_sampled h
  refine ⟨fun hu ho => ?_, fun hu hn => ?_, fun ho hu hn hc => ?_⟩
  · rw [scanPass_rising h (by rw [if_neg (by exact not_le.2 hu), if_neg (by exact not_le.2 ho)])]
    exact congrArg _ (runChain_counted (s := converted s slot r) hd)
  · rw [scanPass_rising h (if_pos hu)]
    exact congrArg _ (runChain_good (s := converted s slot r) hsense hd hn)
  · rw [scanPass_rising h (by rw [if_neg (by exact not_le.2 hu), if_pos (by exact ho)])]
    exact congrArg _ (runChain_lost (s := converted s slot r) hsense hd hn (by rw [htable, hc]))

theorem scanGood : Claims.ScanGood := by
  intro s slot r b h
  have hsense := sensed_of_monitored h
  have hd := rest_of_sampled h
  have htable := table_of_sampled h
  refine ⟨fun ho => ?_, fun ho hn hc => ?_⟩
  · rw [scanPass_good h (if_neg (by exact not_le.2 ho))]
    exact congrArg _ (runChain_counted (s := converted s slot r) hd)
  · rw [scanPass_good h (if_pos ho)]
    exact congrArg _ (runChain_lost (s := converted s slot r) hsense hd hn
      (by rw [htable, hc]))

theorem scanDraining : Claims.ScanDraining := by
  intro s slot r b h
  have hsense := sensed_of_monitored h
  have hd := rest_of_sampled h
  refine ⟨fun hl => ?_, fun hl hn => ?_⟩
  · rw [scanPass_draining h (if_neg (by exact not_le.2 hl))]
    exact congrArg _ (runChain_counted (s := converted s slot r) hd)
  · rw [scanPass_draining h (if_pos hl)]
    exact congrArg _ (runChain_off (s := converted s slot r) hsense hd hn)

/-- The row that loses a MONITORED rail, by the verdict it had. -/
theorem scanPass_loses (h : Sampled s slot r b v)
    (hlost : v = .rising ∧ upCount b (codeAt s r) (readStat s slot r b) < actingFilter r.filter ∧
        actingFilter r.filter ≤ overCountOf b (codeAt s r) (readStat s slot r b) ∨
      v = .good ∧ actingFilter r.filter ≤ outCountOf b (codeAt s r) (readStat s slot r b)) :
    ∃ x, lostStat x = lostStat (readStat s slot r b) ∧
      exec (.scanPass [slot]) s = .next (runChain (applyCount slot (x, some .lost) (converted s slot r))) := by
  obtain ⟨rfl, hu, ho⟩ | ⟨rfl, ho⟩ := hlost
  · refine ⟨{ readStat s slot r b with inCount := _, overCount := _ }, ?_, scanPass_rising h (by rw [if_neg (by exact not_le.2 hu), if_pos (by exact ho)])⟩
    rfl
  · refine ⟨{ readStat s slot r b with outCount := _ }, ?_, scanPass_good h (if_pos ho)⟩
    rfl

theorem criticalLoss : Claims.CriticalLoss := by
  intro s slot r b v h hc
  dsimp only
  intro hlost
  obtain ⟨x, hx, hrow⟩ := scanPass_loses h hlost
  have hsense := sensed_of_monitored h
  have hcritical : (peek (converted s slot r).rails.table slot).critical = true := by rw [table_of_sampled h, hc]
  refine ⟨fun hready => ⟨_, hrow, ?_⟩, fun hw hslot hf => ?_⟩
  · rw [← hx]
    exact lossStartsFault (s := converted s slot r) hsense hcritical hready
  · rw [hrow, ← hx]
    exact congrArg _ (lossFailsUrgent (s := converted s slot r) hsense hcritical hw hslot hf)

theorem monitoredEndsWait : Claims.MonitoredEndsWait := by
  intro s r b v slot h
  have hsense := sensed_of_monitored h
  have htable := table_of_sampled h
  refine ⟨fun hv hw hu => ?_, fun hv hw ha hc hu ho => ?_, fun hv hw hl => ?_⟩ <;> subst hv
  · rw [scanPass_rising h (if_pos hu)]
    exact congrArg _ (runChain_good_waits (s := converted s slot r) hsense hw rfl)
  · rw [scanPass_rising h (by rw [if_neg (by exact not_le.2 hu), if_pos (by exact ho)])]
    exact congrArg _ (runChain_lost_waits (s := converted s slot r) hsense hw rfl
      (by rw [htable, hc]) ha)
  · rw [scanPass_draining h (if_pos hl)]
    exact congrArg _ (runChain_off_waits (s := converted s slot r) hsense hw rfl)

/-! ## The rails that a row takes (R71, R73) -/

/-- The event of a rail is no longer due once a row has named it, and every other stays as it is. -/
theorem rail_takeRail (n m : Fin 16) (s : State) :
    peek (runChain (takeRail n s)).boundary.rail m = (peek s.boundary.rail m && decide (m ≠ n)) := by
  rw [(sameTime_runChain (.refl (takeRail n s))).boundary]
  by_cases hn : peek s.boundary.rail n = true
  · have hsample := sameTime_sampleRail (slot := n)
      (.refl (s.setBoundary { s.boundary with rail := poke s.boundary.rail n false }))
    rw [takeRail, if_pos hn, hsample.boundary, State.setBoundary_boundary, peek_poke]
    split
    next h => simp [h]
    next h => simp [Ne.symm h]
  · rw [takeRail, if_neg hn]
    obtain rfl | h := eq_or_ne m n
    · simpa using hn
    · simp [h]

theorem rail_takeRails (slots : List (Fin 16)) (m : Fin 16) (s : State) :
    peek (takeRails slots s).boundary.rail m = (peek s.boundary.rail m && decide (m ∉ slots)) := by
  induction slots generalizing s with
  | nil => simp [takeRails]
  | cons n ns ih =>
    rw [show takeRails (n :: ns) s = takeRails ns (runChain (takeRail n s)) from rfl, ih, rail_takeRail]
    simp [Bool.and_assoc]

theorem scanTakesSlots : Claims.ScanTakesSlots := by
  refine ⟨fun slots s hs => ⟨fun hp => ?_, exec_scanPass_none slots hs⟩, fun slot s hs hp => ⟨fun hv => ?_, fun hdue => ?_⟩⟩
  · have htaken := railsTaken_takeRails slots (beginPass s)
    have hbegun : (beginPass s).boundary = { s.boundary with passBegun := true, scanned := passScanned s } := by
      rw [beginPass_passScanned]
      rfl
    refine ⟨takeRails slots (beginPass s), ?_, by rw [htaken.begun, hbegun], by rw [htaken.scanned, hbegun], fun n => ?_⟩
    · show execScanPass slots s = _
      exact whilePowered_next hs.1 (if_pos (passDue_iff.2 hp)) (htaken.rest (by rw [beginPass_passScanned]; exact hs.2))
    · rw [rail_takeRails, beginPass_rail]
  · have hnone : sampleRail slot (sampledAt s slot) = sampledAt s slot := sampleRail_idle hv
    rw [exec_scanPass_one hs hp]
    by_cases hdue : peek s.boundary.rail slot = true
    · rw [takeRail_beginPass hdue, hnone]
      exact congrArg _ (runChain_of_rest hs.2)
    · rw [takeRail_sampledAt (by simpa using hdue)]
      exact congrArg _ (runChain_of_rest hs.2)
  · rw [exec_scanPass_one hs hp, takeRail_sampledAt hdue]
    exact congrArg _ (runChain_of_rest hs.2)

/-! ## PGLINE rails (R64) -/

section
variable (hs : AtRest s) (hp : PassHere s) (hdue : peek s.boundary.rail slot = true) (hr : peek s.rails.table slot = r)
  (hpresent : r.present = true) (hsense : r.sense = .pgline) (hline : r.line.val < 8)
include hs hp hdue hr hpresent hsense hline

theorem scanPass_pg_rising {o : Option Verdict} (hv : (peek s.rails.stat slot).verdict = .rising)
    (ho : (if actingFilter r.filter ≤ (if s.pins.now.pg.getLsbD r.line.val then (peek s.rails.stat slot).inCount + 1 else 0)
      then some .good else none) = o) :
    exec (.scanPass [slot]) s = .next (runChain (applyCount slot
      ({ peek s.rails.stat slot with
        inCount := if s.pins.now.pg.getLsbD r.line.val then (peek s.rails.stat slot).inCount + 1 else 0 }, o)
      (sampledAt s slot))) := by
  rw [scanPass_pgline hs hp hdue hr hpresent hsense hline (.inl hv), countPg_rising hv, ho]

theorem scanPass_pg_good {o : Option Verdict} (hv : (peek s.rails.stat slot).verdict = .good)
    (ho : (if actingFilter r.filter ≤ (if s.pins.now.pg.getLsbD r.line.val then 0 else (peek s.rails.stat slot).outCount + 1)
      then some .lost else none) = o) :
    exec (.scanPass [slot]) s = .next (runChain (applyCount slot
      ({ peek s.rails.stat slot with
        outCount := if s.pins.now.pg.getLsbD r.line.val then 0 else (peek s.rails.stat slot).outCount + 1 }, o)
      (sampledAt s slot))) := by
  rw [scanPass_pgline hs hp hdue hr hpresent hsense hline (.inr (.inl hv)), countPg_good hv, ho]

theorem scanPass_pg_draining {o : Option Verdict} (hv : (peek s.rails.stat slot).verdict = .draining)
    (ho : (if actingFilter r.filter ≤ (if s.pins.now.pg.getLsbD r.line.val then 0 else (peek s.rails.stat slot).lowCount + 1)
      then some .off else none) = o) :
    exec (.scanPass [slot]) s = .next (runChain (applyCount slot
      ({ peek s.rails.stat slot with
        lowCount := if s.pins.now.pg.getLsbD r.line.val then 0 else (peek s.rails.stat slot).lowCount + 1 }, o)
      (sampledAt s slot))) := by
  rw [scanPass_pgline hs hp hdue hr hpresent hsense hline (.inr (.inr hv)), countPg_draining hv, ho]

omit hs hp hdue hpresent hline in
theorem sensed_of_pgline : SensedRail (sampledAt s slot) slot := by
  intro a d he
  have : r.sense = .timed a d := by rw [← hr]; exact he
  simp [hsense] at this

end

theorem scanPgline : Claims.ScanPgline := by
  intro s slot r hs hp hdue hr hpresent hsense hline
  have hsensed := sensed_of_pgline hr hsense
  have hrow_rising {o} := scanPass_pg_rising (o := o) hs hp hdue hr hpresent hsense hline
  have hrow_good {o} := scanPass_pg_good (o := o) hs hp hdue hr hpresent hsense hline
  have hrow_draining {o} := scanPass_pg_draining (o := o) hs hp hdue hr hpresent hsense hline
  refine ⟨fun hv => ⟨fun hn => ?_, fun hn hna => ?_⟩, fun hv => ⟨fun hn => ?_, fun hn hna hc => ?_⟩,
    fun hv => ⟨fun hn => ?_, fun hn hna => ?_⟩, fun hv => (scanTakesSlots.2 slot s hs hp).1 hv⟩
  · rw [hrow_rising hv (if_neg (not_le.2 hn))]
    exact congrArg _ (runChain_counted (s := sampledAt s slot) hs.2)
  · rw [hrow_rising hv (if_pos hn)]
    exact congrArg _ (runChain_good (s := sampledAt s slot) hsensed hs.2 hna)
  · rw [hrow_good hv (if_neg (not_le.2 hn))]
    exact congrArg _ (runChain_counted (s := sampledAt s slot) hs.2)
  · rw [hrow_good hv (if_pos hn)]
    exact congrArg _ (runChain_lost (s := sampledAt s slot) hsensed hs.2 hna (by rw [← hc, ← hr]; rfl))
  · rw [hrow_draining hv (if_neg (not_le.2 hn))]
    exact congrArg _ (runChain_counted (s := sampledAt s slot) hs.2)
  · rw [hrow_draining hv (if_pos hn)]
    exact congrArg _ (runChain_off (s := sampledAt s slot) hsensed hs.2 hna)

theorem pglineHandsOn : Claims.PglineHandsOn := by
  intro s slot r hs hp hdue hr hpresent hsense hline
  have hsensed := sensed_of_pgline hr hsense
  have hrow_rising {o} := scanPass_pg_rising (o := o) hs hp hdue hr hpresent hsense hline
  have hrow_good {o} := scanPass_pg_good (o := o) hs hp hdue hr hpresent hsense hline
  have hrow_draining {o} := scanPass_pg_draining (o := o) hs hp hdue hr hpresent hsense hline
  refine ⟨fun hv hh hn hw hslot => ?_, fun hv hh hn hw hslot => ?_, fun hv hh hn hc => ?_⟩
  · rw [hrow_rising hv (if_pos (by rw [hh]; exact hn))]
    exact congrArg _ (runChain_good_waits (s := sampledAt s slot) hsensed hw hslot)
  · rw [hrow_draining hv (if_pos (by rw [hh]; exact hn))]
    exact congrArg _ (runChain_off_waits (s := sampledAt s slot) hsensed hw hslot)
  · have hrow := hrow_good hv (if_pos (by rw [hh]; exact hn))
    have hcritical : (peek (sampledAt s slot).rails.table slot).critical = true := by rw [← hc, ← hr]; rfl
    refine ⟨fun hready => ⟨_, hrow, lossStartsFault (s := sampledAt s slot) hsensed hcritical hready⟩,
      fun hw hslot hf => hrow.trans ?_⟩
    exact congrArg _ (lossFailsUrgent (s := sampledAt s slot) hsensed hcritical hw hslot hf)

/-- Settles O15: the three counted verdicts of a PGLINE rail, with the two that take no sample, and what their changes
are handed to. -/
theorem scanPowerGood : Obligations.ScanPowerGood := ⟨scanPgline, pglineHandsOn⟩

end Sys2Proof.Machine

/-! PROOFS. The built-in shutdown within a scan pass, and the rows that end a wait for a rail. -/

namespace Sys2Proof.Machine

variable {s t u : State} {slot : Fin 16} {v : Verdict} {x : RailStat} {r : RailRec} {b : Bands} {k : UrgKind}
  {o : ReportOutcome}

/-! ## The end of a built-in shutdown (R16, R86, R89) -/

/-- Behind a closed gate a settle only clears the slot (R16). -/
theorem serveSlot_closed (x : Level) (h : s.psc.gateClosed = true) : serveSlot x s = s.setPsc { s.psc with slot := none } := by
  unfold serveSlot
  dsimp only
  split
  · rfl
  · rw [if_neg (by simp [h])]

/-- A settle behind a closed gate, but for the move of the Armed Level (R15, R16). -/
theorem settle_closed (x : Level) (h : s.psc.gateClosed = true) :
    settle x o s = (closeReport o (reportWakes x (setArmed x (s.setPsc
      { s.psc with current := x, target := x, commit := false, haltedFrom := none })))).setPsc
      { s.psc with state := levelState x, current := x, target := x, commit := false, haltedFrom := none, slot := none } := by
  unfold settle
  dsimp only
  rw [serveSlot_closed]
  · simp
  · simpa using h

theorem settle_closed_rest (x : Level) (h : s.psc.gateClosed = true) (hw : s.eng.wait = .none) (hd : s.eng.due = .nothing) :
    (settle x o s).eng.wait = .none ∧ (settle x o s).eng.due = .nothing ∧ (settle x o s).pins = s.pins := by
  have harm := ends_setArmed (l := x) (.refl (s.setPsc
    { s.psc with current := x, target := x, commit := false, haltedFrom := none }))
  obtain ⟨hw', hd'⟩ := harm.of_wait_none hw
  rw [settle_closed x h]
  refine ⟨?_, ?_, by simp⟩
  · unfold reportWakes
    split
    · exact hw'
    · exact hw'
  · unfold reportWakes
    split
    · exact hd'.trans hd
    · exact hd'.trans hd

/-- The urgent end behind a closed gate leaves nothing due and no wait (R89). -/
theorem urgentEnd_rest (h : s.psc.gateClosed = true) (hw : s.eng.wait = .none) (hd : s.eng.due = .nothing) :
    (urgentEnd o s).eng.wait = .none ∧ (urgentEnd o s).eng.due = .nothing ∧ (urgentEnd o s).pins = s.pins := by
  obtain ⟨hw', hd', hp'⟩ := settle_closed_rest (o := o) .softOff
    (s := s.setEng { s.eng with urg := { s.eng.urg with running := false, kind := none, idx := s.eng.urg.ran } }) h hw hd
  unfold urgentEnd
  dsimp only
  generalize settle .softOff o _ = v at hw' hd' hp' ⊢
  have hgate : (if v.psc.gateClosed = true ∧ requested v = .softOff then openGate v else v).eng.wait = .none ∧
      (if v.psc.gateClosed = true ∧ requested v = .softOff then openGate v else v).eng.due = .nothing ∧
      (if v.psc.gateClosed = true ∧ requested v = .softOff then openGate v else v).pins = s.pins := by
    split
    · obtain ⟨hwg, hdg⟩ := openGate_rest hw' hd'
      exact ⟨hwg, hdg, by simpa [openGate] using hp'⟩
    · exact ⟨hw', hd', hp'⟩
  generalize (if v.psc.gateClosed = true ∧ requested v = .softOff then openGate v else v) = g at hgate ⊢
  obtain ⟨hwg, hdg, hpg⟩ := hgate
  split
  · obtain ⟨hwr, hdr, -⟩ := restoreAction_sameRun hwg
    exact ⟨hwr, hdr.trans hdg, by simpa using hpg⟩
  · exact ⟨hwg, hdg, hpg⟩

theorem cutStep_now (s : State) : (cutStep s).pins.now = s.pins.now := by
  unfold cutStep
  dsimp only
  (repeat' split) <;> rfl

theorem urgentReady_now (k : UrgKind) (s : State) : (urgentReady k s).pins.now = s.pins.now := by
  have hstop : (stopNorm s).pins.now = s.pins.now := by
    unfold stopNorm
    split
    · rfl
    · simpa [closeReport, idleNorm] using cutStep_now s
  simpa [urgentReady] using hstop

/-- An urgent start whose list is absent, with the chain that follows: the rails are those of the shutdown, the pass and
the lines are as they were, and no step waits (R86, R89). -/
theorem runChain_builtin (hp : (urgentStartOf s.psc.policy1 k).present = false) :
    (runChain (urgentStart k s)).rails = (urgentStart k s).rails ∧
      (runChain (urgentStart k s)).pins.now = s.pins.now ∧ (runChain (urgentStart k s)).boundary = s.boundary ∧
      (runChain (urgentStart k s)).powered = s.powered ∧ (runChain (urgentStart k s)).eng.due = .nothing ∧
      (runChain (urgentStart k s)).eng.wait ≠ .step := by
  have hgate : (urgentStart k s).psc.gateClosed = true := urgentStart_gateClosed k s
  have hrun : (urgentStart k s).eng.urg.running = true := urgentStart_running k s
  have hnow : (urgentStart k s).pins.now = s.pins.now := by
    rw [urgentStart_eq, (startUrgentList_frame k _).2.2.2.2.2.2.2.2.2.1]
    exact urgentReady_now k s
  have hboundary : (urgentStart k s).boundary = s.boundary := by simp
  have hpowered : (urgentStart k s).powered = s.powered := by simp
  have hdue : (urgentStart k s).eng.wait = .none ∧ (urgentStart k s).eng.due = .runEnded .builtinDrained ∨
      (urgentStart k s).eng.wait = .builtin ∧ (urgentStart k s).eng.due = .nothing := by
    rw [urgentStart_eq, startUrgentList_builtin (by rw [urgentReady_start, hp]), State.setEng_eng]
    split
    · exact .inl ⟨rfl, rfl⟩
    · exact .inr ⟨rfl, rfl⟩
  generalize urgentStart k s = z at *
  obtain ⟨hw, hd⟩ | ⟨hw, hd⟩ := hdue
  · have hend := urgentEnd_rest (o := .completed) (s := z.setEng { z.eng with due := .nothing }) hgate hw rfl
    have hchain : runChain z = urgentEnd .completed (z.setEng { z.eng with due := .nothing }) := by
      rw [runChain_chainStep (fun _ _ => hw), chainStep, hd]
      dsimp only
      rw [if_pos (by simp [channelRuns, hrun]), endRun]
      dsimp only
      rw [State.setEng_eng, if_pos (by exact hrun)]
      exact runChain_of_rest hend.2.1
    obtain ⟨hwe, hde, hpe⟩ := hend
    rw [hchain]
    refine ⟨by simp, by rw [hpe]; exact hnow, by simp [hboundary], by simp [hpowered], hde, by simp [hwe]⟩
  · rw [runChain_of_rest hd]
    exact ⟨rfl, hnow, hboundary, hpowered, hd, by simp [hw]⟩

/-! ## The loss of a critical rail where the FAULT list is absent (R67, R86) -/

/-- The state from which the loss of a critical rail starts the shutdown. -/
def lossNoted (slot : Fin 16) (x : RailStat) (s : State) : State :=
  faultNoted .rail (Fin.ofNat 256 slot.val) (withStat s slot (lostStat x))

theorem lossNoted_eq (slot : Fin 16) (x : RailStat) (s : State) : lossNoted slot x s =
    ((withStat s slot (lostStat x)).setFault (lossNoted slot x s).fault).setPsc { s.psc with latch := true } := by
  have hfault : (lossNoted slot x s).fault =
      (writeFault .rail (Fin.ofNat 256 slot.val) (withStat s slot (lostStat x))).fault := rfl
  rw [hfault]
  unfold lossNoted faultNoted
  rw [writeFault_eq]
  rfl

section
variable (h : SensedRail s slot) (hc : (peek s.rails.table slot).critical = true) (hu : s.eng.urg.running = false)
include h hc hu

theorem applyCount_shutsDown :
    applyCount slot (x, some .lost) s = urgentStart .fault (lossNoted slot x s) := by
  rw [applyCount_lost h, if_pos hc, handOnVerdict_lost_critical (by exact hc) (by exact hu),
    triggerFault_idle _ _ (by exact hu)]
  rfl

variable (hp : s.psc.policy1.fault.present = false)
include hp

/-- What the shutdown leaves of the rails, the pass and the lines. -/
theorem runChain_shutsDown :
    let t := runChain (applyCount slot (x, some .lost) s)
    t.rails.table = s.rails.table ∧
      (∀ n, peek t.rails.stat n =
        shutStat s.clock.tick (peek s.rails.table n) (if n = slot then lostStat x else peek s.rails.stat n)) ∧
      t.pins.now = s.pins.now ∧ t.boundary = s.boundary ∧ t.powered = s.powered ∧ t.eng.due = .nothing ∧
      t.eng.wait ≠ .step := by
  have hlist : (urgentStartOf (lossNoted slot x s).psc.policy1 .fault).present = false := by
    rw [lossNoted_eq]
    exact hp
  obtain ⟨hrails, hnow, hboundary, hpowered, hdue, hwait⟩ := runChain_builtin hlist
  obtain ⟨-, htable, hstat⟩ := urgentStart_builtin hlist
  have hframe : (lossNoted slot x s).rails = (withStat s slot (lostStat x)).rails ∧
      (lossNoted slot x s).clock = s.clock ∧ (lossNoted slot x s).pins = s.pins ∧
      (lossNoted slot x s).boundary = s.boundary ∧ (lossNoted slot x s).powered = s.powered := by
    rw [lossNoted_eq]
    exact ⟨rfl, rfl, rfl, rfl, rfl⟩
  obtain ⟨hr, hk, hpins, hb, hpow⟩ := hframe
  dsimp only
  rw [applyCount_shutsDown h hc hu, hrails, hnow, hboundary, hpowered, htable, hr, hpins, hb, hpow]
  refine ⟨rfl, fun n => ?_, rfl, rfl, rfl, hdue, hwait⟩
  rw [hstat, hr, hk]
  refine congrArg (shutStat s.clock.tick (peek s.rails.table n)) ?_
  show peek (poke s.rails.stat slot (lostStat x)) n = _
  rw [peek_poke]
  split
  next hn => rw [if_pos hn.symm]
  next hn => rw [if_neg (Ne.symm hn)]

end

/-- A LOST MONITORED rail comes down in the shutdown (R61, R86). -/
theorem shutStat_monitored {tick : Tick} (hs : r.sense = .monitored b) (he : x.en = .asserted) (hv : IsOn x.verdict) :
    shutStat tick r x = { moved x .draining with en := .deasserted } := by
  rw [shutStat, if_pos ⟨he, hv⟩]
  unfold downed timesOf
  rw [hs]
  rfl

/-- A second row of the pass, on a rail that the shutdown has taken to DRAINING. -/
theorem scanPass_down {c : Bands} {y : RailStat} (h : Sampled s slot r c .draining) (hy : peek s.rails.stat slot = y)
    (hlow : y.lowCount = 0) (hw : s.eng.wait ≠ .step) :
    ∃ u : State, exec (.scanPass [slot]) s = .next u ∧ peek u.rails.stat slot =
      if max 1 r.filter.val ≤ (if belowDrain c (codeAt s r) then 1 else 0) then
        moved { y with mV := railMv (codeAt s r) c.gain } .off
      else { y with mV := railMv (codeAt s r) c.gain, lowCount := if belowDrain c (codeAt s r) then 1 else 0 } := by
  obtain ⟨hcounts, hoff⟩ := scanDraining s slot r c h
  dsimp only at hcounts hoff
  rw [hy, hlow] at hcounts hoff
  by_cases hf : max 1 r.filter.val ≤ (if belowDrain c (codeAt s r) then 0 + 1 else 0)
  · exact ⟨_, hoff hf (.inr (.inl hw)), (withStat_stat ..).trans (if_pos hf).symm⟩
  · exact ⟨_, hcounts (not_le.1 hf), (withStat_stat ..).trans (if_neg hf).symm⟩

theorem shutdownInPass : Claims.ShutdownInPass := by
  intro s slot other r x b c hne hslot hother hc hen hu hp hclass hcount
  have hout : actingFilter r.filter ≤ outCountOf b (codeAt s r) (readStat s slot r b) := by
    rw [outCountOf, if_pos hclass]
    exact hcount
  have hrow := scanPass_good hslot (if_pos hout)
  have hshut := runChain_shutsDown (s := converted s slot r) (sensed_of_monitored hslot)
    (x := { readStat s slot r b with outCount := outCountOf b (codeAt s r) (readStat s slot r b) })
    (by rw [table_of_sampled hslot, hc]) hu hp
  obtain ⟨hs, hpass, hdue, hr, hpresent, hsense, hverdict⟩ := hother
  have hdown : shutStat s.clock.tick x (peek s.rails.stat other) =
      { moved (peek s.rails.stat other) .draining with en := .deasserted } :=
    shutStat_monitored hsense hen (.inr (.inr hverdict))
  refine ⟨⟨sampledAt s other, (scanTakesSlots.2 other s hs hpass).1 (.inr hverdict), ?_⟩, ?_⟩
  · have hslot' : Sampled (sampledAt s other) slot r b .good := by
      obtain ⟨-, -, hd, hrest⟩ := hslot
      exact ⟨hs, .inl rfl, (peek_poke_ne _ _ hne.symm).trans hd, hrest⟩
    have hrow' := scanPass_good hslot' (if_pos hout)
    obtain ⟨-, hstat, -⟩ := runChain_shutsDown (s := converted (sampledAt s other) slot r) (sensed_of_monitored hslot')
      (x := { readStat s slot r b with outCount := outCountOf b (codeAt s r) (readStat s slot r b) })
      (by rw [table_of_sampled hslot', hc]) hu hp
    refine ⟨_, hrow', (hstat other).trans ?_⟩
    rw [if_neg hne.symm]
    exact (congrArg (fun y => shutStat s.clock.tick y _) hr).trans hdown
  · obtain ⟨htable, hstat, hnow, hboundary, hpowered, hrest, hwait⟩ := hshut
    generalize runChain (applyCount slot _ (converted s slot r)) = t at *
    have hstat' : peek t.rails.stat other = { moved (peek s.rails.stat other) .draining with en := .deasserted } := by
      rw [hstat, if_neg hne.symm]
      exact (congrArg (fun y => shutStat s.clock.tick y _) hr).trans hdown
    have hcode : codeAt t x = codeAt s x := by
      unfold codeAt
      rw [hnow]
      rfl
    refine ⟨t, hrow, hstat', ?_⟩
    have hother' : Sampled t other x c .draining := by
      refine ⟨⟨hpowered.trans hs.1, hrest⟩, .inl (by rw [hboundary]; rfl), ?_, ?_, hpresent, hsense, by rw [hstat']; rfl⟩
      · rw [hboundary]
        exact (peek_poke_ne _ _ hne).trans hdue
      · rw [htable]
        exact hr
    rw [← hcode]
    exact scanPass_down hother' hstat' rfl hwait

/-- Settles O14: the verdicts one by one, then the loss of a critical rail, the waits, the rails of a row, and the
shutdown in a pass. -/
theorem scanMonitored : Obligations.ScanMonitored :=
  ⟨scanRising, scanGood, scanDraining, criticalLoss, monitoredEndsWait, scanTakesSlots, shutdownInPass⟩

end Sys2Proof.Machine

/-! PROOFS. The rows that end a wait for a rail. -/

namespace Sys2Proof.Machine

variable {s t u : State} {slot : Fin 16} {v : Verdict} {x : RailStat} {r : RailRec} {b : Bands}

/-! ## The rows that end a wait for a rail (R31, R32) -/

@[simp] theorem waitsIn_endRunWith (e : RunEnd) (s : State) (k : StepKind) : waitsIn (endRunWith e s) k = false := by
  simp [waitsIn, endRunWith]

theorem exec_waitGood (hs : AtRest s) (hw : waitsIn s .waitGood = true) : exec .waitGoodCompletes s =
    .next (runChain (awaitRail endsWaitGood (fun t => !waitsIn t .waitGood) (slotOf s.eng.cur) s)) := by
  show execWaitGoodCompletes s = _
  unfold execWaitGoodCompletes
  rw [whilePowered_on _ hs.1, if_pos hw]

theorem exec_waitOff (hs : AtRest s) (hw : waitsIn s .waitOff = true) : exec .waitOffCompletes s =
    .next (runChain (awaitRail (fun v => decide (v = .off))
      (fun t => decide (verdictOf t (slotOf s.eng.cur) = .off)) (slotOf s.eng.cur) s)) := by
  show execWaitOffCompletes s = _
  unfold execWaitOffCompletes
  rw [whilePowered_on _ hs.1, if_pos hw]

section
variable {ends : Verdict → Bool} {ended : State → Bool}

/-- The row carries the event of the rail out where it ends the wait, and else leaves the part as it is. -/
theorem awaitRail_event (hv : ends (verdictOf s slot) = false) (he : railEvent slot s = t) (hend : ended t = true) :
    awaitRail ends ended slot s = t := by
  unfold awaitRail
  rw [if_neg (by simp [hv])]
  dsimp only
  rw [he, if_pos hend]

theorem awaitRail_stays (hv : ends (verdictOf s slot) = false) (he : railEvent slot s = t) (hend : ended t = false) :
    awaitRail ends ended slot s = s := by
  unfold awaitRail
  rw [if_neg (by simp [hv])]
  dsimp only
  rw [he, if_neg (by simp [hend])]

end

theorem railEvent_settle (h : settleDue slot s = true) : railEvent slot s = moveVerdict slot .good s := if_pos h

theorem railEvent_drain (h : settleDue slot s = false) (h' : drainDue slot s = true) :
    railEvent slot s = moveVerdict slot .off s := by
  unfold railEvent
  rw [if_neg (by simp [h]), if_pos h']

theorem waitGoodEnds : Claims.WaitGoodEnds := by
  intro s settle drain start h
  dsimp only
  intro hsense hv htimer he
  have hdue : settleDue (slotOf s.eng.cur) s = true := (settleDue_iff hsense htimer).2 ⟨hv, he⟩
  have hwait : SteppingIn (verdictMoved (slotOf s.eng.cur) .good s) .waitGood := by
    rw [verdictMoved_good]
    exact steppingIn_withGoodTime (s := withStat s _ _) h _
  have hevent : railEvent (slotOf s.eng.cur) s = endRunWith .ok (verdictMoved (slotOf s.eng.cur) .good s) := by
    rw [railEvent_settle hdue, moveVerdict_eq, handOnVerdict_good (by simp), handOn_of_waits hwait.waits]
  rw [exec_waitGood h.rest h.waits, awaitRail_event (by rw [verdictOf, hv]; rfl) hevent (by simp), ← verdictMoved_good]
  exact congrArg _ (hwait.succeeds (by decide) rfl)

theorem waitOffEnds : Claims.WaitOffEnds := by
  intro s settle drain start h
  dsimp only
  intro hsense hv htimer he
  have hsettle : settleDue (slotOf s.eng.cur) s = false := by
    rw [← Bool.not_eq_true, settleDue_iff hsense htimer, hv]
    simp
  have hdue : drainDue (slotOf s.eng.cur) s = true := (drainDue_iff hsense htimer).2 ⟨hv, he⟩
  have hmoved := verdictMoved_of_none (s := s) (slot := slotOf s.eng.cur) (v := .off) (by simp)
    (timerOf_of_still (by simp) (by simp))
  have hwait : SteppingIn (verdictMoved (slotOf s.eng.cur) .off s) .waitOff := by
    rw [hmoved]
    exact h
  have hevent : railEvent (slotOf s.eng.cur) s = endRunWith .ok (verdictMoved (slotOf s.eng.cur) .off s) := by
    rw [railEvent_drain hsettle hdue, moveVerdict_eq, handOnVerdict_off (by simp), handOn_of_waits hwait.waits]
  have hoff : verdictOf (endRunWith .ok (verdictMoved (slotOf s.eng.cur) .off s)) (slotOf s.eng.cur) = .off := by
    rw [hmoved]
    show (peek (withStat s _ _).rails.stat _).verdict = _
    rw [withStat_stat]
    rfl
  rw [exec_waitOff h.rest h.waits, awaitRail_event (by rw [verdictOf, hv]; rfl) hevent (by simp [hoff]), ← hmoved]
  exact congrArg _ (hwait.succeeds (by decide) rfl)

/-- On a MONITORED rail the event is the sample of the pass. -/
theorem railEvent_sampled (h : Sampled s slot r b v) : railEvent slot s = takeRail slot (beginPass s) := by
  obtain ⟨-, hp, -, hr, -, hsense, -⟩ := h
  have hnot (v : Verdict) (pick : TimeField → TimeField → TimeField) : railTimerDue v pick slot s = false := by
    simp [railTimerDue, hr, hsense]
  unfold railEvent settleDue drainDue
  rw [hnot, hnot, if_neg (by simp), if_neg (by simp), if_pos (passDue_iff.2 hp)]

/-- The WAIT_GOOD row does what the SCAN_PASS row does, where the sample ends the wait. -/
theorem waitGood_eq_scanPass (h : Sampled s (slotOf s.eng.cur) r b .rising) (hw : waitsIn s .waitGood = true)
    (he : takeRail (slotOf s.eng.cur) (beginPass s) = t) (hend : waitsIn t .waitGood = false) :
    exec .waitGoodCompletes s = exec (.scanPass [slotOf s.eng.cur]) s := by
  rw [exec_waitGood h.1 hw, exec_scanPass_one h.1 h.2.1, he,
    awaitRail_event (by rw [verdictOf, verdict_of_sampled h]; rfl) ((railEvent_sampled h).trans he) (by simp [hend])]

/-- The loss of a critical rail ends the WAIT_GOOD on it: it is cut by the urgent start, or fails (R46, R67). -/
theorem waitsIn_criticalLoss (h : SensedRail s slot) (hc : (peek s.rails.table slot).critical = true)
    (hslot : slotOf s.eng.cur = slot) (hw : waitsIn s .waitGood = true) (hready : FaultListReady s ∨ UrgentIn s .waitGood) :
    waitsIn (applyCount slot (x, some .lost) s) .waitGood = false := by
  obtain ⟨hu, -, hp, -⟩ | ⟨-, hu, -⟩ := hready
  · have hp' : (urgentStartOf (lossNoted slot x s).psc.policy1 .fault).present = true := by
      rw [lossNoted_eq]
      exact hp
    rw [applyCount_shutsDown h hc hu, urgentStart_listed hp']
    simp [waitsIn]
  · rw [applyCount_lost h, if_pos hc, handOnVerdict_lost (by exact hslot) (.inr (by exact hu)),
      handOn_of_waits (by exact hw), triggerFault_running _ _ (by exact hu), writeFault_eq]
    rfl

theorem waitRowsSample : Claims.WaitRowsSample := by
  intro s r b v slot h
  have hsense := sensed_of_monitored h
  have htable := table_of_sampled h
  refine ⟨fun hv hw => ?_, fun hv hw => ?_⟩ <;> subst hv
  · refine ⟨fun hst hu => ?_, fun hst hc ha hu ho => ?_, fun hready hc hu ho => ?_, fun hu ho => ?_⟩
    · refine waitGood_eq_scanPass h hw (takeRail_rising h (if_pos hu)) ?_
      rw [applyCount_good hsense, handOnVerdict_good (by rw [(withGoodTime_waits _ _ .waitGood).2]; rfl),
        handOn_of_waits (by rw [(withGoodTime_waits _ _ .waitGood).1]; exact hw)]
      simp
    · refine waitGood_eq_scanPass h hw (takeRail_rising h (by rw [if_neg (by exact not_le.2 hu), if_pos (by exact ho)])) ?_
      rw [applyCount_lost hsense, if_neg (by simp [htable, hc]), handOnVerdict_lost (by exact rfl) (.inl (by exact (htable ▸ hc))),
        handOn_of_waits (by exact hw)]
      simp
    · refine waitGood_eq_scanPass h hw (takeRail_rising h (by rw [if_neg (by exact not_le.2 hu), if_pos (by exact ho)])) ?_
      exact waitsIn_criticalLoss hsense (by rw [htable, hc]) rfl hw hready
    · have he := takeRail_rising h (by rw [if_neg (by exact not_le.2 hu), if_neg (by exact not_le.2 ho)])
      rw [exec_waitGood h.1 hw, awaitRail_stays (by rw [verdictOf, verdict_of_sampled h]; rfl)
        ((railEvent_sampled h).trans he) (by
          show (!waitsIn s .waitGood) = false
          rw [hw]
          rfl)]
      exact congrArg _ (runChain_of_rest (rest_of_sampled h))
  · refine ⟨fun hst hl => ?_, fun hl => ?_⟩
    · have he := takeRail_draining h (if_pos hl)
      have hoff : verdictOf (applyCount slot ({ readStat s slot r b with
          lowCount := lowCountOf b (codeAt s r) (readStat s slot r b) }, some .off) (converted s slot r)) slot = .off := by
        rw [applyCount_off hsense]
        simp [verdictOf]
        rfl
      rw [exec_waitOff h.1 hw, exec_scanPass_one h.1 h.2.1, he,
        awaitRail_event (by rw [verdictOf, verdict_of_sampled h]; rfl) ((railEvent_sampled h).trans he)
          (decide_eq_true hoff)]
    · have he := takeRail_draining h (if_neg (not_le.2 hl))
      have hstays : verdictOf (applyCount slot ({ readStat s slot r b with
          lowCount := lowCountOf b (codeAt s r) (readStat s slot r b) }, none) (converted s slot r)) slot = .draining := by
        show (peek (withStat _ slot _).rails.stat slot).verdict = _
        rw [withStat_stat]
        exact verdict_of_sampled h
      rw [exec_waitOff h.1 hw, awaitRail_stays (by rw [verdictOf, verdict_of_sampled h]; rfl)
        ((railEvent_sampled h).trans he) (decide_eq_false fun ho => by cases hstays.symm.trans ho)]
      exact congrArg _ (runChain_of_rest (rest_of_sampled h))

theorem created_wire (p : Port) (f : Internal) (fr : Frame) (s : State) : (created p f fr s).wire = s.wire := by
  unfold created
  split_ifs <;> simp

/-- The off-notice moves of the classifier the level of its wire alone. -/
theorem sendOffNotice_wire (l : Bool) (h : SlotsOffered s) :
    (sendOffNotice l s).wire = { s.wire with level := (sendOffNotice l s).wire.level } := by
  unfold sendOffNotice
  dsimp only
  split
  · have hf : sentAs (.wires [{ wire := s.psc.policy0.offNotice.value, level := l }]) =
        some (wireFrame 0 [{ wire := s.psc.policy0.offNotice.value, level := l }]) := rfl
    rw [createInternal_eq (s := setLevel _ l s) hf (slotsOffered_of_same h rfl rfl rfl rfl)]
    rw [created_wire]
    rfl
  · rfl

/-! ## A critical rail's loss under a WAIT_GOOD where the FAULT list is absent -/

/-- The Hold Queue of an urgent start over a step that is cut plainly, with hold lifted before it. -/
theorem urgentReady_queue (k : UrgKind) (hh : s.wire.hold = false) (hoff : SlotsOffered s)
    (hcut : s.eng.wait = .none ∨ s.eng.cur.kind ≠ .pulse ∧ s.eng.cur.kind ≠ .sendWire) :
    (urgentReady k s).wire.queue = s.wire.queue := by
  have hstop : (stopNorm s).wire = s.wire ∧ SlotsOffered (stopNorm s) := by
    have hports : (stopNorm s).hub = s.hub ∧ (stopNorm s).board = s.board := by
      unfold stopNorm
      dsimp only
      split
      · exact ⟨rfl, rfl⟩
      · rw [cutStep_plain hcut]
        exact ⟨rfl, rfl⟩
    exact ⟨by simp, slotsOffered_of_same hoff hports.1 hports.2 (by simp) (by simp)⟩
  obtain ⟨hwire, hslots⟩ := hstop
  have henter : (enterUrgent (stopNorm s)).wire.queue = s.wire.queue ∧ (enterUrgent (stopNorm s)).wire.hold = false := by
    unfold enterUrgent
    dsimp only
    split
    · exact ⟨by rw [State.setPsc_wire, hwire], by rw [State.setPsc_wire, hwire, hh]⟩
    · generalize hx : (stopNorm s).setPsc _ = x
      have hxw : x.wire = s.wire := by rw [← hx, State.setPsc_wire, hwire]
      have hxs : SlotsOffered x := by
        rw [← hx]
        exact slotsOffered_of_same hslots rfl rfl rfl rfl
      rw [sendOffNotice_wire true hxs, hxw]
      exact ⟨rfl, hh⟩
  have hlift : liftHold (enterUrgent (stopNorm s)) = enterUrgent (stopNorm s) := by simp [liftHold, henter.2]
  simp [urgentReady, hlift, henter.1]

theorem criticalWaitCut : Claims.CriticalWaitCut := by
  intro s r b slot h hc hw hu hp hf hen code st f hup hov hq hhold hoff
  have hsense := sensed_of_monitored h
  have htable := table_of_sampled h
  have hcritical : (peek (converted s slot r).rails.table slot).critical = true := by rw [table_of_sampled h, hc]
  have he := takeRail_rising h (by rw [if_neg (by exact not_le.2 hup), if_pos (by exact hov)])
  rw [applyCount_shutsDown hsense hcritical hu] at he
  generalize hx : ({ readStat s slot r b with
    inCount := upCount b (codeAt s r) (readStat s slot r b),
    overCount := overCountOf b (codeAt s r) (readStat s slot r b) } : RailStat) = x at he
  obtain ⟨hwait, hkind, hrun⟩ := waitsIn_iff.1 hw
  have hnoted := lossNoted_eq slot x (converted s slot r)
  generalize hy : lossNoted slot x (converted s slot r) = y at he hnoted
  have heng : y.eng = s.eng := by rw [hnoted]; rfl
  have hpsc : y.psc = { s.psc with latch := true } := by rw [hnoted]; rfl
  have hclock : y.clock = s.clock := by rw [hnoted]; rfl
  have hwire : y.wire = s.wire := by rw [hnoted]; rfl
  have hfirst : y.fault.first = some (firstFault .rail (Fin.ofNat 256 slot.val) s) := by
    rw [← hy]
    exact congrArg FaultRecord.first 
      ((writeFault_fault _ _ (withStat (converted s slot r) slot (lostStat x))).1 hf)
  have hslots : SlotsOffered y := slotsOffered_of_same hoff (by rw [hnoted]; rfl) (by rw [hnoted]; rfl)
    (by rw [hwire]) (by rw [hnoted]; rfl)
  have hlist : (urgentStartOf y.psc.policy1 .fault).present = false := by rw [hpsc]; exact hp
  have hqueue : (urgentReady .fault y).wire.queue = s.wire.queue := by
    rw [urgentReady_queue .fault (by rw [hwire, hhold]) hslots (.inr (by rw [heng, hkind]; simp)), hwire]
  have hz : (urgentStart .fault y).eng = { shutdownEng .fault (urgentReady .fault y) with wait := .builtin } := by
    rw [urgentStart_eq, startUrgentList_builtin (by rw [urgentReady_start, hlist]), State.setEng_eng,
      if_neg (by rw [hqueue]; exact hq)]
  obtain ⟨-, -, hstat⟩ := urgentStart_builtin hlist
  obtain ⟨hst, hlast⟩ := urgentStart_norm .fault y
  obtain ⟨-, -, -, -, -, hclosed⟩ := stopNorm_eng y
  have hnorm : y.eng.norm.st ≠ .idle := by
    rw [heng]
    simp only [channelRuns, hu, Bool.false_or, decide_eq_true_eq] at hrun
    simp [hrun]
  have hrest : (urgentStart .fault y).eng.due = .nothing := by rw [hz]; rfl
  have hdown : peek (urgentStart .fault y).rails.stat slot = { moved (lostStat x) .draining with en := .deasserted } := by
    have hrail : peek y.rails.stat slot = lostStat x ∧ peek y.rails.table slot = r := by
      rw [hnoted]
      exact ⟨peek_poke_self .., htable⟩
    obtain ⟨-, -, -, -, -, hmon, -⟩ := h
    rw [hstat, hrail.1, hrail.2]
    exact shutStat_monitored hmon (by rw [← hx]; exact hen) (.inr (.inr rfl))
  refine ⟨urgentStart .fault y, ?_, ?_, ?_, by rw [hz]; rfl, by rw [hz]; rfl, by rw [hz], hst, ?_, ?_, ?_, ?_, ?_, ?_⟩
  · rw [exec_waitGood h.1 hw, awaitRail_event (by rw [verdictOf, verdict_of_sampled h]; rfl) ((railEvent_sampled h).trans he)
      (by simp [waitsIn, hz]), runChain_of_rest hrest]
  · rw [urgentStart_psc]
  · rw [urgentStart_psc, hpsc]
  · rw [hlast, hclosed hnorm]
  · rw [hlast, hclosed hnorm, heng]
  · rw [hdown]; rfl
  · rw [hdown]
  · rw [hdown, ← hx]; rfl
  · rw [(urgentStart_frame .fault y).1, hfirst]

/-- Settles O31: the rows on NONE rails, on MONITORED rails, and the cut by a critical rail's loss. -/
theorem railWaitsEnd : Obligations.RailWaitsEnd := ⟨waitGoodEnds, waitOffEnds, waitRowsSample, criticalWaitCut⟩

end Sys2Proof.Machine

/-! PROOFS. The drain of the Hold Queue: its frame, the rows by which it takes its slot, and RELEASE. -/

namespace Sys2Proof.Machine

variable {s t u : State} {d : Direction} {es back : List WireLevel} {k : StepKind} {p : Port}

theorem link_setWire (s : State) (w : Classifier) (p : Port) : link (s.setWire w) p = link s p := by cases p <;> rfl

theorem handOnDrained_link (s : State) (p : Port) : link (handOnDrained s) p = link s p := by
  unfold handOnDrained
  (repeat' split) <;> rfl

/-! ## The frame that is formed (R124) -/

theorem wireDir_of_map {w : Fin 64} (h : t.wire.map = s.wire.map) : wireDir t w = wireDir s w := by simp [wireDir, h]

/-- The drain frame carries the entries of the head's direction at the head of the queue, at most 8 of them. -/
theorem drainEntries_eq (hq : s.wire.queue = es ++ back) (hne : es ≠ []) (hlen : es.length ≤ 8)
    (hdir : ∀ e ∈ es, wireDir s e.wire = d) (hend : es.length = 8 ∨ ∀ x ∈ back.head?, wireDir s x.wire ≠ d) :
    drainEntries s = es := by
  obtain ⟨e, es', rfl⟩ := List.exists_cons_of_ne_nil hne
  have he : wireDir s e.wire = d := hdir e (by simp)
  have hall : ∀ x ∈ e :: es', decide (wireDir s x.wire = wireDir s e.wire) = true := fun x hx => by simp [hdir x hx, he]
  unfold drainEntries
  rw [hq]
  show List.take Config.entriesPerFrame (List.takeWhile _ (e :: es' ++ back)) = _
  rw [List.takeWhile_append_of_pos hall]
  obtain h8 | hhead := hend
  · exact List.take_left' h8
  · have hnone : List.takeWhile (fun x => decide (wireDir s x.wire = wireDir s e.wire)) back = [] := by
      cases back with
      | nil => rfl
      | cons x back => simpa [he] using hhead x (by simp)
    rw [hnone, List.append_nil]
    exact List.take_of_length_le hlen

/-- What is left of the queue waits for a drain frame of its own, behind the other frames of its port (R124). -/
def withBack (t : State) (back : List WireLevel) : State :=
  match back with
  | [] => t
  | x :: _ =>
    let q := portOf (wireDir t x.wire)
    setLink t q { link t q with waiting := (link t q).waiting ++ [.drain] }

theorem ensureDrain_eq (hh : s.wire.hold = false) (hl : s.lrst = false) (hq : s.wire.queue = back)
    (hw : drainWaits s = false) : ensureDrain s = withBack s back := by
  unfold ensureDrain withBack
  rw [hq]
  cases back with
  | nil => rfl
  | cons x back =>
    dsimp only
    rw [if_neg (by simp [hh, hw]), joinWaiting, if_neg (by simp [hl])]

/-- The state as the drain frame has left the queue, before a further one is created (R124). -/
def frameLeft (s : State) (d : Direction) (es back : List WireLevel) : State :=
  (setLink s (portOf d)
    { link s (portOf d) with
      waiting := (link s (portOf d)).waiting.tail, tx := (link s (portOf d)).tx ++ [wireFrame 0 es] }).setWire
    { s.wire with queue := back }

theorem frameLeft_link (p : Port) : link (frameLeft s d es back) p =
    if p = portOf d then
      { link s (portOf d) with
        waiting := (link s (portOf d)).waiting.tail, tx := (link s (portOf d)).tx ++ [wireFrame 0 es] }
    else link s p := by
  unfold frameLeft
  split
  next h => subst h; simp [link_setWire]
  next h => rw [link_setWire, link_setLink_ne _ _ h]

theorem wireFrame_zero (es : List WireLevel) : wireFrame 0 es =
    { kind := .wire, route := false, bit6 := false, tag := 0, payload := es.map entryByte } := rfl

theorem drainedPart_eq : drainedPart s d es back = withBack (frameLeft s d es back) back := by
  unfold drainedPart frameLeft withBack
  rw [wireFrame_zero]
  split <;> rfl

theorem drainWaits_iff : drainWaits s = true ↔ ∃ p, Internal.drain ∈ (link s p).waiting := by
  simp only [drainWaits, Bool.or_eq_true, decide_eq_true_eq]
  constructor
  · rintro (h | h)
    · exact ⟨.hub, h⟩
    · exact ⟨.board, h⟩
  · rintro ⟨p, h⟩
    cases p
    · exact .inl h
    · exact .inr h

/-- The drain frame takes its slot, and an empty queue is handed on (R124). -/
theorem takeOldest_drain (h : DrainReady s d es back) :
    takeOldest (portOf d) s = handOnDrained (drainedPart s d es back) := by
  obtain ⟨hhold, hq, hne, hlen, hdir, hend, hhead, htail, hother, -, hlrst, -⟩ := h
  obtain ⟨rest, hwait⟩ : ∃ rest, (link s (portOf d)).waiting = .drain :: rest := by
    cases hw : (link s (portOf d)).waiting with
    | nil => simp [hw] at hhead
    | cons f rest =>
      rw [hw] at hhead
      exact ⟨rest, by rw [Option.some.inj hhead]⟩
  have hes : drainEntries (dropWaiting (portOf d) s) = es := drainEntries_eq (by simpa using hq) hne hlen
    (fun e he => (wireDir_of_map (by simp)).trans (hdir e he))
    (hend.imp_right fun hx x hm => by rw [wireDir_of_map (s := s) (by simp)]; exact hx x hm)
  have hdrop : s.wire.queue.drop es.length = back := by rw [hq, List.drop_left]
  have htake : takeOldest (portOf d) s = takeDrain (portOf d) (dropWaiting (portOf d) s) := by
    unfold takeOldest
    rw [hwait]
  have hform : (let t := queueTx (portOf d) (wireFrame 0 es) (dropWaiting (portOf d) s)
      t.setWire { t.wire with queue := t.wire.queue.drop es.length }) = frameLeft s d es back := by
    simp [queueTx, dropWaiting, frameLeft, hdrop]
  have hnone : drainWaits (frameLeft s d es back) = false := by
    rw [← Bool.not_eq_true, drainWaits_iff]
    rintro ⟨q, hm⟩
    rw [frameLeft_link] at hm
    split at hm
    · exact htail hm
    next hne => exact hother ((eq_or_other (portOf d) q).resolve_left hne ▸ hm)
  rw [htake, drainedPart_eq, ← ensureDrain_eq (by simp [frameLeft, hhold]) (by simp [frameLeft, hlrst])
    (by simp [frameLeft]) hnone, ← hform]
  unfold takeDrain
  dsimp only
  rw [hes, if_neg hne]

/-! ## The rows by which it takes its slot -/

theorem drainCanTake_ready (h : DrainReady s d es back) : drainCanTake s (portOf d) = true := by
  obtain ⟨-, -, -, -, -, -, hhead, -, -, ht, hlrst, hk⟩ := h
  simp [drainCanTake, hhead, slotFree, hlrst, hk, ht, Config.txSlots]

theorem drainCanTake_of_not_mem (h : Internal.drain ∉ (link s p).waiting) : drainCanTake s p = false := by
  have hhead : (link s p).waiting.head? ≠ some .drain := fun hh => h (List.mem_of_mem_head? hh)
  simp [drainCanTake, hhead]

theorem drainTakes_of_ready (h : DrainReady s d es back) : drainTakes s = handOnDrained (drainedPart s d es back) := by
  have hcan := drainCanTake_ready h
  rw [← takeOldest_drain h]
  obtain ⟨-, -, -, -, -, -, -, -, hother, -, -, -⟩ := h
  unfold drainTakes
  generalize portOf d = q at hcan hother
  cases q with
  | hub => rw [if_pos hcan]
  | board => rw [if_neg (by rw [drainCanTake_of_not_mem (p := .hub) hother]; simp), if_pos hcan]

theorem ready_of_lastDrain (h : LastDrain s d) : DrainReady s d s.wire.queue [] := by
  obtain ⟨hhold, hne, hlen, hdir, hwait, ht, hother, hlrst, hk⟩ := h
  exact ⟨hhold, by simp, hne, hlen, hdir, .inr (by simp), by simp [hwait], by simp [hwait], by simp [hother], ht, hlrst, hk⟩

theorem drainedPart_of_lastDrain (h : LastDrain s d) : drainedPart s d s.wire.queue [] = drained s d := by
  obtain ⟨-, -, -, -, hwait, -⟩ := h
  unfold drainedPart drained
  simp [hwait]

theorem drainedPart_fields : (drainedPart s d es back).eng = s.eng ∧ (drainedPart s d es back).wire.queue = back ∧
    (drainedPart s d es back).psc = s.psc := by
  rw [drainedPart_eq]
  unfold withBack
  split <;> simp [frameLeft]

/-! ## An empty queue handed on (R28, R38, R25, R86) -/

theorem handOnDrained_of_queue (h : s.wire.queue ≠ []) : handOnDrained s = s := if_pos h

theorem handOnDrained_of_none (h : s.eng.wait = .none) : handOnDrained s = s := by
  unfold handOnDrained
  rw [h]
  split <;> rfl

theorem handOnDrained_of_step (hq : s.wire.queue = []) (hw : s.eng.wait = .step) :
    handOnDrained s = if waitsIn s .endList || waitsIn s .release then endRunWith .ok s else s := by
  unfold handOnDrained
  rw [if_neg (by simp [hq]), hw]

theorem handOnDrained_of_runaway (hq : s.wire.queue = []) (hw : s.eng.wait = .runaway) :
    handOnDrained s = endRunWith .runawayDrained s := by
  unfold handOnDrained
  rw [if_neg (by simp [hq]), hw]

theorem handOnDrained_of_builtin (hq : s.wire.queue = []) (hw : s.eng.wait = .builtin) :
    handOnDrained s = endRunWith .builtinDrained s := by
  unfold handOnDrained
  rw [if_neg (by simp [hq]), hw]

/-- A step of another kind waits on through the drain. -/
theorem handOnDrained_of_other (hk : s.eng.cur.kind ≠ .endList ∧ s.eng.cur.kind ≠ .release) (hw : s.eng.wait = .step) :
    handOnDrained s = s := by
  by_cases hq : s.wire.queue = []
  · rw [handOnDrained_of_step hq hw]
    simp [waitsIn, hk]
  · exact handOnDrained_of_queue hq

/-- Whatever waits for the drain, the rows that name it are the drain frame's taking of its slot. -/
theorem awaitDrain_of_ready (h : DrainReady s d es []) : awaitDrain s = drainTakes s := by
  have hqueue : (drainTakes s).wire.queue = [] := by
    rw [drainTakes_of_ready h]
    simp [drainedPart_fields]
  obtain ⟨-, hq, hne, -⟩ := h
  unfold awaitDrain
  rw [if_neg (by simp [hq, hne]), if_pos hqueue]

theorem exec_drain (hs : AtRest s) : exec .drainFrameTakesSlot s = .next (runChain (drainTakes s)) := whilePowered_on _ hs.1

theorem exec_release (hs : AtRest s) (hw : waitsIn s .release = true) :
    exec .releaseCompletes s = .next (runChain (awaitDrain s)) := by
  show execReleaseCompletes s = _
  unfold execReleaseCompletes
  rw [whilePowered_on _ hs.1, if_pos hw]

theorem exec_end (hs : AtRest s) (hw : waitsAtEnd s = true) : exec .endCompletes s = .next (runChain (awaitDrain s)) := by
  show execEndCompletes s = _
  unfold execEndCompletes
  rw [whilePowered_on _ hs.1, if_pos hw]

theorem drainProceeds : Claims.DrainProceeds := by
  intro d es back s hs h
  obtain ⟨heng, hqueue, -⟩ := drainedPart_fields (s := s) (d := d) (es := es) (back := back)
  have htakes := drainTakes_of_ready h
  have hrest : runChain (drainedPart s d es back) = drainedPart s d es back := runChain_of_rest (by rw [heng]; exact hs.2)
  refine ⟨fun hb => ?_, fun hb hw => ?_, fun hb hw => ?_, fun hb hw => ?_⟩
  · rw [exec_drain hs, htakes, handOnDrained_of_queue (by rwa [hqueue]), hrest]
  · have hself : handOnDrained (drainedPart s d es back) = drainedPart s d es back := by
      obtain hw | ⟨hw, hk⟩ := hw
      · exact handOnDrained_of_none (by rw [heng]; exact hw)
      · exact handOnDrained_of_other (by rw [heng]; exact hk) (by rw [heng]; exact hw)
    rw [exec_drain hs, htakes, hself, hrest]
  · subst hb
    rw [exec_drain hs, exec_release hs hw, awaitDrain_of_ready h]
  · subst hb
    have hend : waitsAtEnd s = true := by simpa [waitsAtEnd, or_assoc] using hw
    rw [exec_drain hs, exec_end hs hend, awaitDrain_of_ready h]

/-! ## RELEASE (R38) -/

theorem drained_fields (s : State) (d : Direction) : (drained s d).eng = s.eng ∧ (drained s d).wire.queue = [] ∧
    (drained s d).psc = s.psc ∧ (drained s d).clock = s.clock ∧ (drained s d).wake = s.wake ∧
    (drained s d).lrst = s.lrst ∧ (drained s d).wire.kept = s.wire.kept ∧ (drained s d).wire.map = s.wire.map := by
  unfold drained
  simp

/-- The last drain frame takes its slot and the empty queue is handed on. -/
theorem awaitDrain_of_lastDrain (h : LastDrain s d) : awaitDrain s = handOnDrained (drained s d) := by
  rw [awaitDrain_of_ready (ready_of_lastDrain h), drainTakes_of_ready (ready_of_lastDrain h), drainedPart_of_lastDrain h]

theorem waitsIn_of_eng (h : t.eng = s.eng) : waitsIn t k = waitsIn s k := by
  unfold waitsIn channelRuns
  rw [h]

theorem releaseDrains : Claims.ReleaseDrains := by
  intro s d h hlast
  have hw := h.waits
  obtain ⟨heng, hq, -⟩ := drained_fields s d
  have hstep : (drained s d).eng.wait = .step := by
    rw [heng]
    exact (waitsIn_iff.1 hw).1
  rw [exec_release h.rest hw, awaitDrain_of_lastDrain hlast, handOnDrained_of_step hq hstep, waitsIn_of_eng heng,
    waitsIn_of_eng heng, hw, Bool.or_true, if_pos rfl]
  exact congrArg _ (h.succeeds (by decide) heng)

/-- Hold lifted over entries of one direction, no frame waiting: their drain frame joins the waiting frames of its
port (R121, R124). -/
def releasing (s : State) (d : Direction) : State :=
  setLink (s.setWire { s.wire with hold := false }) (portOf d) { link s (portOf d) with waiting := [.drain] }

section
variable (hh : s.hub.waiting = []) (hb : s.board.waiting = []) (hl : s.lrst = false) (hk : s.wire.kept = none)
  (hq : s.wire.queue ≠ []) (hdir : ∀ e ∈ s.wire.queue, wireDir s e.wire = d)
include hh hb hl hq hdir

theorem ensureDrain_releasing : ensureDrain (s.setWire { s.wire with hold := false }) = releasing s d := by
  have hwait (p : Port) : (link s p).waiting = [] := by cases p <;> assumption
  obtain ⟨e, es, hqueue⟩ := List.exists_cons_of_ne_nil hq
  have he : wireDir s e.wire = d := hdir e (by simp [hqueue])
  rw [ensureDrain_eq (back := e :: es) rfl (by exact hl) (by exact hqueue)
    (by rw [← Bool.not_eq_true, drainWaits_iff]; rintro ⟨p, hm⟩; simp [link_setWire, hwait] at hm)]
  unfold withBack releasing
  have hdir' : wireDir (s.setWire { s.wire with hold := false }) e.wire = d := he
  dsimp only
  rw [hdir', link_setWire, hwait]
  rfl

variable (hhold : s.wire.hold = true)
include hhold hk

/-- The drain frame takes a free slot as hold is lifted, and the empty queue is handed on (R124, R146). -/
theorem liftHold_drains (hlen : s.wire.queue.length ≤ 8) (ht : (link s (portOf d)).tx.length < 8) :
    liftHold s = handOnDrained (drained (s.setWire { s.wire with hold := false }) d) := by
  have hwait (p : Port) : (link s p).waiting = [] := by cases p <;> assumption
  have hready : LastDrain (releasing s d) d := by
    refine ⟨by simp [releasing], by simpa [releasing] using hq, by simpa [releasing] using hlen, fun e he => ?_,
      by simp [releasing], by simpa [releasing] using ht, ?_, by simpa [releasing] using hl,
      by simpa [releasing] using hk⟩
    · rw [wireDir_of_map (s := s) (by simp [releasing])]
      exact hdir e (by simpa [releasing] using he)
    · unfold releasing
      rw [link_setLink_ne _ _ (other_ne _)]
      exact hwait _
  have hlast := ready_of_lastDrain hready
  have htake := takeOldest_drain hlast
  rw [drainedPart_of_lastDrain hready] at htake
  have hdrained : drained (releasing s d) d = drained (s.setWire { s.wire with hold := false }) d := by
    unfold drained releasing
    cases portOf d <;> simp
  rw [hdrained] at htake
  obtain ⟨-, -, -, -, hw, htx, hother, hlrst, hkept⟩ := hready
  unfold liftHold
  rw [if_pos hhold, ensureDrain_releasing hh hb hl hq hdir,
    pump_of_take (canTakeOldest_of_open hlrst hkept (by simp [hw]) htx) ?_ ?_, htake]
  · generalize portOf d = p at hother
    cases p with
    | hub => exact .inl rfl
    | board => exact .inr (canTakeOldest_of_empty (p := .hub) hother)
  · rw [htake]
    intro p
    refine canTakeOldest_of_empty ?_
    rw [handOnDrained_link]
    unfold drained
    obtain rfl | rfl := eq_or_other (portOf d) p
    · simp [link_setWire]
    · rw [link_setWire, link_setLink_ne _ _ (other_ne _)]
      exact hwait _

omit hk in
/-- The drain frame waits where its port has no free slot. -/
theorem liftHold_waits (ht : 8 ≤ (link s (portOf d)).tx.length) : liftHold s = releasing s d := by
  have hwait (p : Port) : (link s p).waiting = [] := by cases p <;> assumption
  unfold liftHold
  rw [if_pos hhold, ensureDrain_releasing hh hb hl hq hdir]
  refine pump_of_offered fun p => canTakeOldest_of_idle ?_
  unfold releasing
  obtain rfl | rfl := eq_or_other (portOf d) p
  · exact .inr (by simpa using ht)
  · rw [link_setLink_ne _ _ (other_ne _)]
    exact .inl (hwait _)

end

theorem runKind_of_release {r : StepRec} (s : State) (h : r.kind = .release) : runKind r s = beginRelease r s := by
  unfold runKind
  rw [h]

theorem releaseBegins : Claims.ReleaseBegins := by
  intro r s d hr hwait hh hb hl hk
  dsimp only
  rw [runKind_of_release s hr]
  have hoff : SlotsOffered s := .inr ⟨hk, .inl hh, .inl hb⟩
  refine ⟨fun hq => ?_, fun hq hhold => ?_, fun hq hhold hdir hlen => ?_⟩
  · unfold beginRelease
    rw [if_pos hq, liftHold_empty hoff hq]
  · have hself : liftHold s = s := if_neg (by simp [hhold])
    unfold beginRelease
    rw [if_neg hq, hself]
    exact ⟨fun h => if_pos h, fun h => by rw [if_neg h, if_neg hq]⟩
  · have hdrains (ht : (link s (portOf d)).tx.length < 8) :
        liftHold s = drained (s.setWire { s.wire with hold := false }) d := by
      rw [liftHold_drains hh hb hl hk hq hdir hhold hlen ht]
      exact handOnDrained_of_none (by rw [(drained_fields _ d).1]; exact hwait)
    unfold beginRelease
    rw [if_neg hq]
    refine ⟨fun ht hd => ?_, fun ht hd => ?_, fun ht hd => ?_, fun ht hd => ?_⟩
    · rw [if_pos hd, hdrains ht]
    · rw [if_neg hd, hdrains ht, if_pos (drained_fields _ d).2.1]
    · rw [if_pos hd, liftHold_waits hh hb hl hq hdir hhold ht]
      rfl
    · rw [if_neg hd, liftHold_waits hh hb hl hq hdir hhold ht, if_neg (by simpa [releasing] using hq)]
      rfl

/-- Settles O34: the drain frame that empties the queue, and the beginning of a RELEASE by queue, hold and duration. -/
theorem releaseEnds : Obligations.ReleaseEnds := ⟨releaseDrains, releaseBegins⟩

end Sys2Proof.Machine

/-! PROOFS. The settle of a list in either channel: END_COMPLETES, the slot served last, and the urgent runaway. -/

namespace Sys2Proof.Machine

variable {s t u : State} {d : Direction} {k : StepKind} {q : Level} {o : ReportOutcome}

/-! ## The slot at a settle (R16) -/

/-- A settle once the current level has moved, before the slot is served (R15). -/
def armedAndClosed (x : Level) (o : ReportOutcome) (s : State) : State :=
  closeReport o (reportWakes x (setArmed x s))

theorem pscBlind_armedAndClosed (x : Level) (o : ReportOutcome) : PscBlind (armedAndClosed x o) := by
  have hwakes : PscBlind (reportWakes x) := by
    intro p s
    unfold reportWakes
    split <;> rfl
  have hclose : PscBlind (closeReport o) := fun _ _ => rfl
  exact hclose.comp (hwakes.comp (pscBlind_setArmed x))

/-- The PSC as a settle in a level leaves it, but for the slot (R15). -/
def settledPsc (x : Level) (p : Psc) : Psc :=
  { p with state := levelState x, current := x, target := x, commit := false, haltedFrom := none }

theorem settle_eq (x : Level) (o : ReportOutcome) (s : State) :
    settle x o s = serveSlot x ((armedAndClosed x o s).setPsc (settledPsc x s.psc)) := by
  have hmoved := pscBlind_armedAndClosed x o
    { s.psc with current := x, target := x, commit := false, haltedFrom := none } s
  unfold settle
  dsimp only
  show serveSlot x ((armedAndClosed x o _).setPsc { (armedAndClosed x o _).psc with state := _ }) = _
  rw [hmoved]
  rfl

theorem serveSlot_some (x : Level) (h : s.psc.slot = some q) : serveSlot x s =
    if s.psc.gateClosed = false ∧ q ≠ x then requestEvent q (s.setPsc { s.psc with slot := none })
    else s.setPsc { s.psc with slot := none } := by
  unfold serveSlot
  simp only [h]
  rfl

theorem slotServedLast : Claims.SlotServedLast := by
  intro x q o s hq
  dsimp only
  have hnone : settle x o (s.setPsc { s.psc with slot := none }) =
      (armedAndClosed x o s).setPsc { settledPsc x s.psc with slot := none } := by
    rw [settle_eq, pscBlind_armedAndClosed, serveSlot_none x rfl]
    rfl
  rw [hnone, settle_eq, serveSlot_some (s := (armedAndClosed x o s).setPsc (settledPsc x s.psc)) x (q := q) hq]
  refine ⟨fun h => if_neg ?_, fun hne hg => if_pos ⟨hg, hne⟩⟩
  rintro ⟨hg, hne⟩
  obtain h | h := h
  · exact hne h
  · exact Bool.false_ne_true (hg.symm.trans h)

/-! ## A list of the Normal channel settles (R15, R28, R49) -/

/-- The outcome of a list of the Normal channel that has run to its end. -/
def normOutcome (s : State) : ReportOutcome := if s.psc.state = .backout then .backedOut else .completed

/-- The channel as a list has ended and the settle begins. -/
def idled (s : State) : State :=
  (ended s).setEng
    { (ended s).eng with norm := { s.eng.norm with st := .idle, origin := none, idx := s.eng.norm.ran, haltPending := false } }

theorem endNorm_settles (hk : s.eng.cur.kind = .endList) :
    endNorm .ok (ended s) = settle s.psc.target (normOutcome s) (idled s) := if_pos hk

/-- A settle outside WORKING that serves no slot and fires nothing (R15). -/
theorem settle_idled (hslot : s.psc.slot = none) (ht : s.psc.target ≠ .working)
    (hdet : ∀ n : Fin 9, (peek s.wake.det n).active = false) :
    settle s.psc.target (normOutcome s) (idled s) = settledNorm s := by
  rw [settle_eq, serveSlot_none _ (by exact hslot), armedAndClosed, setArmed_quiet (s := idled s) _ hdet, reportWakes, if_neg ht]
  unfold settledNorm
  rw [← hslot]
  rfl

/-- The drain frame that empties the queue ends the list of the Normal channel (R28). -/
theorem exec_endNormal (hs : AtRest s) (hn : s.eng.norm.st = .running) (hu : s.eng.urg.running = false)
    (hw : s.eng.wait = .step) (hk : s.eng.cur.kind = .endList) (hl : LastDrain s d) :
    exec .endCompletes s = .next (runChain
      (settle s.psc.target (normOutcome (drained s d)) (idled (drained s d)))) := by
  obtain ⟨heng, hq, hpsc, -⟩ := drained_fields s d
  have hwaits : waitsIn s .endList = true := waitsIn_iff.2 ⟨hw, hk, by simp [channelRuns, hn]⟩
  rw [exec_end hs (by simp [waitsAtEnd, hwaits]), awaitDrain_of_lastDrain hl, handOnDrained_of_step hq (by rw [heng]; exact hw),
    waitsIn_of_eng heng, hwaits, Bool.true_or, if_pos rfl,
    runChain_ended_normal (by rw [heng]; exact hn) (by rw [heng]; exact hu), endNorm_settles (by rw [heng]; exact hk), hpsc]

theorem normalEndSettles : Claims.NormalEndSettles := by
  intro s d hs hn hu hw hk _ hl hslot ht hdet
  obtain ⟨-, -, hpsc, -, hwake, -⟩ := drained_fields s d
  have hsettle := settle_idled (s := drained s d) (by rw [hpsc]; exact hslot) (by rw [hpsc]; exact ht)
    (by rw [hwake]; exact hdet)
  rw [hpsc] at hsettle
  rw [exec_endNormal hs hn hu hw hk hl, hsettle]
  exact congrArg _ (runChain_of_rest rfl)

theorem settleServesSlot : Claims.SettleServesSlot := by
  intro q s d hs hn hu hw hk _ hl hslot ht hdet
  obtain ⟨-, -, hpsc, -, hwake, -⟩ := drained_fields s d
  obtain ⟨hclears, htakes⟩ := slotServedLast s.psc.target q (normOutcome (drained s d)) (idled (drained s d))
    (by show (drained s d).psc.slot = _; rw [hpsc]; exact hslot)
  have hsettle := settle_idled (s := (drained s d).setPsc { (drained s d).psc with slot := none }) rfl
    (by show (drained s d).psc.target ≠ _; rw [hpsc]; exact ht) (by show ∀ n, (peek (drained s d).wake.det n).active = _; rw [hwake]; exact hdet)
  have htarget : ((drained s d).setPsc { (drained s d).psc with slot := none }).psc.target = s.psc.target := by
    show (drained s d).psc.target = _
    rw [hpsc]
  rw [htarget] at hsettle
  have hbase : settle s.psc.target (normOutcome (drained s d))
      ((idled (drained s d)).setPsc { (idled (drained s d)).psc with slot := none }) = settledNorm (drained s d) := hsettle
  have hgate : (idled (drained s d)).psc.gateClosed = s.psc.gateClosed := by
    show (drained s d).psc.gateClosed = _
    rw [hpsc]
  rw [hbase, hgate] at hclears htakes
  dsimp only
  rw [exec_endNormal hs hn hu hw hk hl]
  refine ⟨fun h => ?_, fun hne hg => ?_⟩
  · rw [hclears h]
    exact congrArg _ (runChain_of_rest rfl)
  · rw [htakes hne hg]
    have htaken := requestTaken q (s := settledNorm (drained s d)) rfl
    simpa only [Host.Outcome.next.injEq] using htaken

/-! ## The urgent end (R89) -/

theorem pscBlind_noticed (n : Fin 14) : PscBlind (noticed n) :=
  .ite (fun _ _ => Iff.rfl) .id (.ite (fun _ _ => Iff.rfl) (fun _ _ => rfl)
    (.ite (fun _ _ => Iff.rfl) (fun _ _ => rfl) fun _ _ => rfl))

/-- A pending restore action with an empty Pending Wake Queue below WORKING (R22). -/
theorem restoreAction_eq (h : SlotsOffered s) (ha : s.wake.armed ≠ .working) (hq : s.wake.queue = []) :
    restoreAction s = restored s := by
  have hfire : takeFire 13 s = noticed 13 (s.setWake
      { s.wake with queue := [{ source := 13, first := s.clock.tick, count := 1 }] }) := by
    have hnone : ¬(s.wake.queue.any fun e => decide (e.source = 13)) = true := by simp [hq]
    unfold takeFire
    rw [if_neg ha, if_neg hnone, if_pos (by simp [hq, Config.wakeSlots]), hq, List.nil_append]
    exact createNotice_eq 13 (slotsOffered_of_same h rfl rfl rfl rfl)
  unfold restored
  dsimp only
  by_cases hr : PowersOn s
  · rw [if_pos (by exact hr), restoreAction_of_powersOn hr, hfire]
    generalize hw : s.setWake { s.wake with queue := [{ source := 13, first := s.clock.tick, count := 1 }] } = w
    have hpsc : (noticed 13 w).psc = s.psc := by
      rw [noticed_frame, ← hw]
      rfl
    rw [hpsc, ← pscBlind_noticed, ← hw]
    rfl
  · have hstays : StaysOff s := by
      unfold StaysOff
      unfold PowersOn at hr
      cases hp : s.psc.policy0.restore <;> simp_all
    rw [if_neg (by exact hr), restoreAction_of_staysOff hstays]

/-- The state as the settle of an urgent list leaves it, before the gate test (R15, R89). -/
def urgentSettled (o : ReportOutcome) (s : State) : State :=
  (closeReport o ((s.setEng
      { s.eng with
        wait := .none, due := .nothing,
        urg := { s.eng.urg with running := false, kind := none, idx := s.eng.urg.ran } }).setWake
    { s.wake with armed := .softOff })).setPsc { settledPsc .softOff s.psc with slot := none }

/-- The gate test that follows (R20, R89). -/
def gateTested (o : ReportOutcome) (s : State) : State :=
  if requested s = .softOff then
    offNoticed false ((urgentSettled o s).setPsc { (urgentSettled o s).psc with gateClosed := false })
  else urgentSettled o s

theorem offNoticed_leaves (b : Bool) (s : State) : (offNoticed b s).psc = s.psc ∧ (offNoticed b s).wake = s.wake ∧
    (offNoticed b s).eng = s.eng := by
  unfold offNoticed
  dsimp only
  split_ifs <;> simp

theorem gateTested_fields (o : ReportOutcome) (h : SlotsOffered s) (hh : s.hub.waiting = []) :
    SlotsOffered (gateTested o s) ∧ (gateTested o s).psc.pendingRestore = s.psc.pendingRestore ∧
      (gateTested o s).wake = { s.wake with armed := .softOff } := by
  unfold gateTested
  split
  · have hoff := offNoticed_frame (s := (urgentSettled o s).setPsc { (urgentSettled o s).psc with gateClosed := false })
      false h hh
    obtain ⟨hpsc, hwake, -⟩ := offNoticed_leaves false
      ((urgentSettled o s).setPsc { (urgentSettled o s).psc with gateClosed := false })
    exact ⟨hoff.1, by rw [hpsc]; rfl, hwake⟩
  · exact ⟨h, rfl, rfl⟩

theorem urgentEnd_eq (o : ReportOutcome) (h : SlotsOffered s) (hh : s.hub.waiting = []) (hg : s.psc.gateClosed = true)
    (hdet : ∀ n : Fin 9, (peek s.wake.det n).active = false) (hq : s.wake.queue = []) :
    urgentEnd o (ended s) = settledUrgent o s := by
  have hsettle : settle .softOff o ((ended s).setEng
      { (ended s).eng with urg := { s.eng.urg with running := false, kind := none, idx := s.eng.urg.ran } }) =
      urgentSettled o s := by
    rw [settle_closed _ (by exact hg), setArmed_quiet _ (by exact hdet), reportWakes, if_neg (by decide)]
    rfl
  have hgate : (if (urgentSettled o s).psc.gateClosed ∧ requested (urgentSettled o s) = .softOff
      then openGate (urgentSettled o s) else urgentSettled o s) = gateTested o s := by
    unfold gateTested
    by_cases hreq : requested s = .softOff
    · rw [if_pos ⟨hg, hreq⟩, if_pos hreq]
      exact openGate_eq h hh
    · rw [if_neg (fun hc => hreq hc.2), if_neg hreq]
  obtain ⟨hoff, hpsc, hwake⟩ := gateTested_fields o h hh
  have hrestore : restoreAction (gateTested o s) = restored (gateTested o s) :=
    restoreAction_eq hoff (by simp [hwake]) (by simp [hwake, hq])
  unfold urgentEnd
  dsimp only
  rw [show (ended s).eng.urg = s.eng.urg from rfl, hsettle, hgate, hpsc, hrestore]
  rfl

theorem drained_ports (h : LastDrain s d) : SlotsOffered (drained s d) ∧ (drained s d).hub.waiting = [] := by
  obtain ⟨-, -, -, -, -, -, hother, -, hk⟩ := h
  have hwait (p : Port) : (link (drained s d) p).waiting = [] := by
    unfold drained
    rw [link_setWire]
    obtain rfl | rfl := eq_or_other (portOf d) p
    · simp
    · rw [link_setLink_ne _ _ (other_ne _), hother]
  exact ⟨.inr ⟨by simpa [drained] using hk, .inl (hwait .hub), .inl (hwait .board)⟩, hwait .hub⟩

/-- The end of the wait for the drain leads, with the empty queue handed on, to the urgent end (R25, R28, R86). -/
theorem runChain_urgentDrained (hu : s.eng.urg.running = true) (hw : UrgentDrains s) (hq : s.wire.queue = []) :
    runChain (handOnDrained s) = runChain (urgentEnd (urgentOutcome s) (ended s)) := by
  unfold urgentOutcome
  obtain ⟨hw, hk⟩ | hw | hw := hw
  · have hwaits : waitsIn s .endList = true := waitsIn_iff.2 ⟨hw, hk, by simp [channelRuns, hu]⟩
    rw [handOnDrained_of_step hq hw, hwaits, Bool.true_or, if_pos rfl, runChain_ended_urgent hu, if_neg (by simp [hw])]
    exact congrArg runChain (if_pos hk)
  · rw [handOnDrained_of_builtin hq hw, runChain_ended_urgent hu, if_neg (by simp [hw])]
    rfl
  · rw [handOnDrained_of_runaway hq hw, runChain_ended_urgent hu, if_pos hw]
    rfl

theorem runChain_urgentEnd (o : ReportOutcome) (hg : s.psc.gateClosed = true) :
    runChain (urgentEnd o (ended s)) = urgentEnd o (ended s) :=
  runChain_of_rest (urgentEnd_rest (s := ended s) hg rfl rfl).2.1

theorem urgentEndSettles : Claims.UrgentEndSettles := by
  intro s d hs hu hw hl hg hdet hwakes _
  obtain ⟨heng, hq, hpsc, -, hwake, -⟩ := drained_fields s d
  obtain ⟨hoff, hhub⟩ := drained_ports hl
  have hgate : (drained s d).psc.gateClosed = true := by rw [hpsc]; exact hg
  have hwaits : waitsAtEnd s = true := by
    have hstep : s.eng.wait = .step ∧ s.eng.cur.kind = .endList → waitsIn s .endList = true :=
      fun h => waitsIn_iff.2 ⟨h.1, h.2, by simp [channelRuns, hu]⟩
    have hcases : (waitsIn s .endList = true ∨ s.eng.wait = .runaway) ∨ s.eng.wait = .builtin := by
      obtain h | h | h := hw
      · exact .inl (.inl (hstep h))
      · exact .inr h
      · exact .inl (.inr h)
    simpa [waitsAtEnd] using hcases
  have hdrained := runChain_urgentDrained (s := drained s d) (by rw [heng]; exact hu)
    (by simpa only [UrgentDrains, heng] using hw) hq
  have hout : urgentOutcome (drained s d) = urgentOutcome s := by rw [urgentOutcome, heng]; rfl
  rw [exec_end hs hwaits, awaitDrain_of_lastDrain hl, hdrained, hout, runChain_urgentEnd _ hgate,
    urgentEnd_eq _ hoff hhub hgate (by rw [hwake]; exact hdet) (by rw [hwake]; exact hwakes)]

/-! ## An urgent list past index 255 (R25) -/

/-- A list that leads on past index 255 with hold lifted waits for the drain, or ends (R25). -/
theorem leadOnUrg_runsAway (hi : s.eng.urg.idx = 255) (hh : s.wire.hold = false) : leadOnUrg (ended s) =
    if s.wire.queue = [] then urgentEnd .runaway (ended s) else s.setEng { (ended s).eng with wait := .runaway } := by
  have hlift : liftHold (ended s) = ended s := if_neg (by simp [ended, hh])
  unfold leadOnUrg
  rw [dif_pos (by show s.eng.urg.idx.val = 255; rw [hi]; rfl), runawayUrg]
  dsimp only
  rw [hlift]
  rfl

/-- The expiry of a step at index 255, by kind: recorded and counted where it fails (R26, R46). -/
theorem runChain_expiresUrgent (hu : s.eng.urg.running = true) (hk : s.eng.cur.kind = k)
    (hmem : k ∈ [StepKind.delay, .waitGood, .waitOff, .waitLine, .release, .clockUp]) :
    runChain (stepExpires s) =
      runChain (leadOnUrg (ended (if k = .delay then s else urgentWarned .timeout s))) := by
  by_cases hd : k = .delay
  · rw [if_pos hd, stepExpires_delay (hk.trans hd), succeed, runChain_ended_urgent hu]
    exact congrArg runChain (if_neg (by show s.eng.cur.kind ≠ _; simp [hk, hd]))
  · have hout : onlyTimesOut k := (List.mem_cons.1 hmem).resolve_left hd
    rw [if_neg hd, stepExpires_timeout (hk ▸ hout), runChain_ended_urgent hu, endUrg, failUrg_eq]

theorem urgentRunsAway : Claims.UrgentRunsAway := by
  intro k s hs hu hw hk hi hmem he hh
  dsimp only
  have htimed : isTimed k = true := by
    obtain rfl | hout := List.mem_cons.1 hmem
    · rfl
    · exact (onlyTimesOut.ne hout).2.2
  have hwarned : urgentWarned .timeout s =
      (s.setEng { s.eng with inflight := warned 255 .timeout s.eng.inflight }).setFault
        { s.fault with urgentFails := min 255 (s.fault.urgentFails + 1) } := by
    unfold urgentWarned
    rw [hi]
  rw [exec_stepTimerExpiry hs (stepTimerDue_urgent hw hu (hk ▸ htimed) he), runChain_expiresUrgent hu hk hmem, hwarned]
  generalize ht : (if k = .delay then s else _) = t
  have hsame : t.eng.urg = s.eng.urg ∧ t.wire = s.wire ∧ t.eng.due = .nothing ∧ t.psc = s.psc ∧ t.wake = s.wake ∧
      t.hub = s.hub ∧ t.board = s.board ∧ t.lrst = s.lrst := by
    rw [← ht]
    split <;> exact ⟨rfl, rfl, hs.2, rfl, rfl, rfl, rfl, rfl⟩
  obtain ⟨hurg, hwire, hdue, hpsc, hwake, hhub, hboard, hlrst⟩ := hsame
  rw [leadOnUrg_runsAway (by rw [hurg]; exact hi) (by rw [hwire]; exact hh), hwire]
  refine ⟨fun hq => ?_, fun hq hg hdet hwakes hopen _ => ?_⟩
  · rw [if_neg hq, runChain_of_rest rfl]
    unfold ended
    rw [← hdue]
    rfl
  · have hgate : t.psc.gateClosed = true := by rw [hpsc]; exact hg
    obtain ⟨-, -, hkept, hhw, hbw⟩ := hopen
    rw [if_pos hq, runChain_urgentEnd _ hgate,
      urgentEnd_eq _ (.inr ⟨by rw [hwire]; exact hkept, .inl (by rw [hhub]; exact hhw), .inl (by rw [hboard]; exact hbw)⟩)
        (by rw [hhub]; exact hhw) hgate (by rw [hwake]; exact hdet) (by rw [hwake]; exact hwakes)]

/-- Settles O35: the settles of both channels, the slot served last, and the urgent list that runs past its end. -/
theorem endSettles : Obligations.EndSettles :=
  ⟨normalEndSettles, settleServesSlot, slotServedLast, urgentEndSettles, urgentRunsAway⟩

end Sys2Proof.Machine

/-! PROOFS. How the runs of the remaining step kinds begin, and the fires of an arming change. -/

namespace Sys2Proof.Machine

variable {s t u : State} {r : StepRec} {p : Port} {e : WireLevel} {new : Level} {n : Fin 14}

theorem runKind_of_lineSet (s : State) (h : r.kind = .lineSet) : runKind r s = beginLineSet r s := by
  unfold runKind; rw [h]
theorem runKind_of_pulse (s : State) (h : r.kind = .pulse) : runKind r s = beginPulse r s := by unfold runKind; rw [h]
theorem runKind_of_clockDown (s : State) (h : r.kind = .clockDown) : runKind r s = beginClockDown s := by
  unfold runKind; rw [h]
theorem runKind_of_armWake (s : State) (h : r.kind = .armWake) : runKind r s = beginArmWake r s := by
  unfold runKind; rw [h]
theorem runKind_of_waitGood (s : State) (h : r.kind = .waitGood) : runKind r s = beginWaitGood r s := by
  unfold runKind; rw [h]
theorem runKind_of_waitOff (s : State) (h : r.kind = .waitOff) : runKind r s = beginWaitOff r s := by
  unfold runKind; rw [h]
theorem runKind_of_waitLine (s : State) (h : r.kind = .waitLine) : runKind r s = beginWaitLine r s := by
  unfold runKind; rw [h]
theorem runKind_of_clockUp (s : State) (h : r.kind = .clockUp) : runKind r s = beginClockUp r s := by
  unfold runKind; rw [h]
theorem runKind_of_sendWire (s : State) (h : r.kind = .sendWire) : runKind r s = beginSendWire r s := by
  unfold runKind; rw [h]
theorem runKind_of_endList (s : State) (h : r.kind = .endList) : runKind r s = beginEnd s := by unfold runKind; rw [h]

/-! ## Instant steps (R34, R35, R39, R40) -/

/-- CLOCK_DOWN out of SLOW (R134). -/
theorem clockDown_eq (h : s.clock.mode ≠ .slow) :
    clockDown s = s.setClock (clearLocked { s.clock with mode := .slow, loop := .off, good := 0, window := none }) := if_neg h

/-- The level an ARM_WAKE record names. -/
theorem levelOf_of_code {w : Fin 64} {l : Level} (h : w.val = (levelCode l).val) : levelOf (Fin.ofNat 4 w.val) = l := by
  rw [h]
  cases l <;> rfl

theorem stepsAct : Claims.StepsAct := by
  intro r s
  refine ⟨fun h => ?_, fun h hd => ?_, fun h hd => ?_, fun h hm => ?_, fun h hm => ?_, fun h l hl => ?_⟩
  · rw [runKind_of_lineSet s h]
    rfl
  · rw [runKind_of_pulse s h, beginPulse, if_pos hd]
    exact congrArg succeed (by simp [driveLine, poke_poke])
  · rw [runKind_of_pulse s h, beginPulse, if_neg hd]
    rfl
  · rw [runKind_of_clockDown s h, beginClockDown, clockDown, if_pos hm]
  · rw [runKind_of_clockDown s h, beginClockDown, clockDown_eq hm]
    refine ⟨_, rfl, ?_⟩
    unfold clearLocked
    by_cases hl : s.clock.locked = true
    · simp [hl, satInc_max8]
    · simp [hl]
  · rw [runKind_of_armWake s h, beginArmWake, levelOf_of_code hl]

/-! ## The fires of an arming change (R40, R102, R103) -/

theorem slotsOffered_noticed (h : SlotsOffered s) : SlotsOffered (noticed n s) := by
  unfold noticed
  dsimp only
  split
  · exact h
  next hl =>
    obtain hl' | ⟨hk, hh, hb⟩ := h
    · exact absurd hl' hl
    · split
      · exact .inr ⟨hk, hh, hb⟩
      · split
        next ht => exact .inr ⟨hk, .inl (hh.resolve_right (by omega)), hb⟩
        next ht => exact .inr ⟨hk, .inr (Nat.not_lt.1 ht), hb⟩

/-- What stays the same through the fires of an arming change. -/
def ArmingSame (s t : State) : Prop :=
  SlotsOffered t ∧ t.wake.table = s.wake.table ∧ t.wake.det = s.wake.det ∧ t.wake.armed = s.wake.armed

theorem ArmingSame.setQueue {f : Wake → Wake} (h : ArmingSame s t)
    (hf : (f t.wake).table = t.wake.table ∧ (f t.wake).det = t.wake.det ∧ (f t.wake).armed = t.wake.armed) :
    ArmingSame s (t.setWake (f t.wake)) := by
  obtain ⟨ho, ht, hd, ha⟩ := h
  exact ⟨slotsOffered_of_same ho rfl rfl rfl rfl, hf.1.trans ht, hf.2.1.trans hd, hf.2.2.trans ha⟩

theorem armingSame_noticed (h : ArmingSame s t) : ArmingSame s (noticed n t) := by
  obtain ⟨ho, ht, hd, ha⟩ := h
  refine ⟨slotsOffered_noticed ho, ?_⟩
  rw [noticed_frame]
  exact ⟨ht, hd, ha⟩

theorem armingSame_fired (h : ArmingSame s t) : ArmingSame s (fired n t) := by
  unfold fired
  dsimp only
  split
  · exact h
  · split
    · exact armingSame_noticed h
    · split
      · exact h.setQueue (f := fun w => { w with queue := _ }) ⟨rfl, rfl, rfl⟩
      · split
        · exact armingSame_noticed (h.setQueue (f := fun w => { w with queue := _ }) ⟨rfl, rfl, rfl⟩)
        · exact h.setQueue (f := fun w => { w with missed := _, overflow := true }) ⟨rfl, rfl, rfl⟩

/-- The line sources that an arming change fires, as a test of one (R103). -/
def firesAt (new : Level) (s : State) (n : Fin 9) : Bool :=
  let m := peek s.wake.table (lineSource n)
  decide (m.mask.getLsbD (levelCode s.wake.armed).val = false ∧ m.mask.getLsbD (levelCode new).val = true ∧
    (m.mode = .high ∨ m.mode = .low) ∧ (peek s.wake.det n).active = true)

theorem armedBy_eq (new : Level) (s : State) :
    armedBy new s = ((List.finRange 9).filter (firesAt new s)).map lineSource := rfl

theorem firesAt_iff {n : Fin 9} : firesAt new s n = true ↔
    inMask (peek s.wake.table (lineSource n)).mask s.wake.armed = false ∧
      inMask (peek s.wake.table (lineSource n)).mask new = true ∧
      levelMode (peek s.wake.table (lineSource n)).mode = true ∧ (peek s.wake.det n).active = true := by
  simp [firesAt, inMask, levelMode_iff]

/-- The fires of an arming change are those of the sources that its test names, one after another. -/
theorem armingFire_fold (l : List (Fin 9)) (h : ArmingSame (s.setWake { s.wake with armed := new }) t) :
    l.foldl (armingFire s.wake.armed new) t = ((l.filter (firesAt new s)).map lineSource).foldl (fun t n => fired n t) t := by
  induction l generalizing t with
  | nil => rfl
  | cons n l ih =>
    obtain ⟨hoff, htable, hdet, harmed⟩ := h
    rw [List.foldl_cons]
    by_cases hf : firesAt new s n = true
    · obtain ⟨hold, hnew, hmode, hactive⟩ := firesAt_iff.1 hf
      have hmask : inMask (peek t.wake.table (lineSource n)).mask t.wake.armed = true := by rw [htable, harmed]; exact hnew
      have hfire : armingFire s.wake.armed new t n = fired (lineSource n) t := by
        rw [← takeFire_eq _ hoff hmask]
        refine if_pos ?_
        rw [htable, hdet]
        simp [hold, hnew, hmode, hactive]
      rw [hfire, List.filter_cons_of_pos hf]
      exact ih (armingSame_fired ⟨hoff, htable, hdet, harmed⟩)
    · have hfire : armingFire s.wake.armed new t n = t := by
        refine if_neg ?_
        rw [htable, hdet]
        rw [firesAt_iff] at hf
        simpa [and_assoc] using hf
      rw [hfire, List.filter_cons_of_neg hf]
      exact ih ⟨hoff, htable, hdet, harmed⟩

theorem setArmed_eq (new : Level) (h : SlotsOffered s) :
    setArmed new s = (armedBy new s).foldl (fun t n => fired n t) (s.setWake { s.wake with armed := new }) :=
  armingFire_fold _ ⟨slotsOffered_of_same h rfl rfl rfl rfl, rfl, rfl, rfl⟩

theorem lineSource_injective : Function.Injective lineSource := Fin.castLE_injective (by decide)

theorem armedBy_nodup (new : Level) (s : State) : (armedBy new s).Nodup :=
  List.Nodup.map lineSource_injective ((List.nodup_finRange 9).filter _)

theorem armedBy_mask (hn : n ∈ armedBy new s) : (peek s.wake.table n).mask.getLsbD (levelCode new).val = true := by
  rw [armedBy_eq, List.mem_map] at hn
  obtain ⟨m, hm, rfl⟩ := hn
  exact (firesAt_iff.1 (List.of_mem_filter hm)).2.1

theorem noticed_open (h : HubOpen s) (n : Fin 14) : noticed n s = s.setHub { s.hub with tx := s.hub.tx ++ [noticeFrame n] } := by
  obtain ⟨hl, ht, -, hw, -⟩ := h
  have h16 : ¬16 ≤ noticesWaiting s.hub := by simp [noticesWaiting, hw]
  unfold noticed
  dsimp only
  rw [if_neg (by simp [hl]), if_neg h16, if_pos ht]

/-- No internal frame waits at either port, nothing is kept, and LRST is released: a slot that is free is given at once. -/
abbrev HubQuiet (s : State) : Prop :=
  s.lrst = false ∧ s.wire.kept = none ∧ s.hub.waiting = [] ∧ s.board.waiting = []

/-- Fires in WORKING are announced alone, in their order (R105). -/
theorem fires_working (l : List (Fin 14)) (h : HubQuiet s) (hroom : s.hub.tx.length + l.length ≤ 8)
    (ha : s.wake.armed = .working)
    (hmask : ∀ n ∈ l, (peek s.wake.table n).mask.getLsbD (levelCode .working).val = true) :
    l.foldl (fun t n => fired n t) s = s.setHub { s.hub with tx := s.hub.tx ++ l.map noticeFrame } := by
  induction l generalizing s with
  | nil =>
    rw [List.map_nil, List.append_nil]
    rfl
  | cons n l ih =>
    obtain ⟨hl, hk, hw, hb⟩ := h
    rw [List.length_cons] at hroom
    have hbit : ¬(peek s.wake.table n).mask.getLsbD (levelCode .working).val = false := by
      rw [hmask n (by simp)]
      exact Bool.noConfusion
    have hfire : fired n s = s.setHub { s.hub with tx := s.hub.tx ++ [noticeFrame n] } := by
      unfold fired
      dsimp only
      rw [ha, if_neg hbit, if_pos rfl, noticed_open ⟨hl, by omega, hk, hw, hb⟩]
    rw [List.foldl_cons, hfire]
    refine (ih (by exact ⟨hl, hk, hw, hb⟩) (by simp; omega) (by exact ha)
      fun x hx => by exact hmask x (List.mem_cons_of_mem _ hx)).trans ?_
    simp

/-- Fires below WORKING are queued and announced, in their order (R106). -/
theorem fires_below (l : List (Fin 14)) (h : HubQuiet s) (hroom : s.hub.tx.length + l.length ≤ 8)
    (hqueue : s.wake.queue.length + l.length ≤ 8) (ha : s.wake.armed ≠ .working) (hnodup : l.Nodup)
    (hnew : ∀ n ∈ l, n ∉ s.wake.queue.map WakeEntry.source)
    (hmask : ∀ n ∈ l, (peek s.wake.table n).mask.getLsbD (levelCode s.wake.armed).val = true) :
    l.foldl (fun t n => fired n t) s = (s.setHub { s.hub with tx := s.hub.tx ++ l.map noticeFrame }).setWake
      { s.wake with
        queue := s.wake.queue ++ l.map fun n => { source := n, first := s.clock.tick, count := 1 } } := by
  induction l generalizing s with
  | nil =>
    rw [List.map_nil, List.append_nil, List.map_nil, List.append_nil]
    rfl
  | cons n l ih =>
    obtain ⟨hl, hk, hw, hb⟩ := h
    rw [List.length_cons] at hroom hqueue
    obtain ⟨hnot, hnodup⟩ := List.nodup_cons.1 hnodup
    have hbit : ¬(peek s.wake.table n).mask.getLsbD (levelCode s.wake.armed).val = false := by
      rw [hmask n (by simp)]
      exact Bool.noConfusion
    have hfire : fired n s = (s.setHub { s.hub with tx := s.hub.tx ++ [noticeFrame n] }).setWake
        { s.wake with queue := s.wake.queue ++ [{ source := n, first := s.clock.tick, count := 1 }] } := by
      unfold fired
      dsimp only
      rw [if_neg hbit, if_neg ha, if_neg (hnew n (by simp)), if_pos (by omega),
        noticed_open (by exact ⟨hl, by show s.hub.tx.length < 8; omega, hk, hw, hb⟩)]
      rfl
    rw [List.foldl_cons, hfire]
    refine (ih (by exact ⟨hl, hk, hw, hb⟩) (by simp; omega) (by simp; omega) (by exact ha) hnodup ?_
      fun x hx => by exact hmask x (List.mem_cons_of_mem _ hx)).trans ?_
    · intro x hx hmem
      have hne : x ≠ n := fun he => hnot (he ▸ hx)
      exact hnew x (List.mem_cons_of_mem _ hx) (by simpa [hne] using hmem)
    · conv_rhs => rw [List.map_cons, List.map_cons, List.append_cons s.hub.tx, List.append_cons s.wake.queue]
      rfl

theorem armingFires : Claims.ArmingFires := by
  refine ⟨fun new s h => setArmed_eq new h, fun new s h hroom => ?_⟩
  obtain ⟨hl, ht, hk, hw, hb⟩ := h
  dsimp only
  rw [setArmed_eq new (.inr ⟨hk, .inl hw, .inl hb⟩)]
  refine ⟨fun hnew => ?_, fun hnew hqueue hnot => ?_⟩
  · subst hnew
    exact fires_working _ (by exact ⟨hl, hk, hw, hb⟩) (by exact hroom) rfl fun n hn => by
      exact armedBy_mask (s := s) hn
  · exact fires_below _ (by exact ⟨hl, hk, hw, hb⟩) (by exact hroom) (by exact hqueue) (by exact hnew)
      (armedBy_nodup new s) (by exact hnot) fun n hn => by exact armedBy_mask (s := s) hn

/-! ## Waits as they begin (R31, R32, R36, R39) -/

theorem waitsBegin : Claims.WaitsBegin := by
  intro r s _
  dsimp only
  refine ⟨fun h => ?_, fun h => ?_, fun h => ?_, fun h => ?_⟩
  · rw [runKind_of_waitGood s h]
    unfold beginWaitGood
    refine ⟨fun hp => ?_, fun hp hv => ?_, fun hp hv => ?_, fun hp hg hl => ?_⟩
    · rw [if_pos (by simp [hp])]
    · rw [if_neg (by simp [hp]), hv]
    · rw [if_neg (by simp [hp]), hv]
    · rw [if_neg (by simp [hp])]
      cases hv : (peek s.rails.stat (slotOf r)).verdict with
      | good => exact absurd hv hg
      | lost => exact absurd hv hl
      | off => rfl
      | rising => rfl
      | draining => rfl
  · rw [runKind_of_waitOff s h]
    unfold beginWaitOff
    refine ⟨fun hp => ?_, fun hp hv => ?_, fun hp hv => ?_⟩
    · rw [if_pos (by simp [hp])]
    · rw [if_neg (by simp [hp]), if_pos hv]
    · rw [if_neg (by simp [hp]), if_neg hv]
      rfl
  · rw [runKind_of_waitLine s h]
    exact ⟨fun hl => if_pos (decide_eq_true hl), fun hl => if_neg (by rw [lineSampled, decide_eq_true_eq]; exact hl)⟩
  · rw [runKind_of_clockUp s h]
    unfold beginClockUp
    refine ⟨fun hm => if_pos hm, fun hm => ?_, fun hm => ?_⟩
    · rw [if_neg (by simp [hm]), forceFast, if_neg (by simp [hm])]
      rfl
    · rw [if_neg (by simp [hm]), forceFast, if_pos hm]
      rfl

/-! ## SEND_WIRE (R37) -/

/-- The frame of a SEND_WIRE step has taken a slot, and its level is recorded (R37). -/
def wireSent (p : Port) (e : WireLevel) (s : State) : State :=
  setLevel e.wire e.level (setLink s p { link s p with tx := (link s p).tx ++ [wireFrame 0 [e]] })

/-- The frame of a SEND_WIRE step takes a free slot as it is created, and ends the step (R37, R146). -/
theorem createSendWire_open (h : SlotsOffered s) (hl : s.lrst = false) (ht : (link s p).tx.length < 8) :
    createInternal p (.sendWire e) s = handOn .sendWire .ok (wireSent p e s) := by
  obtain h | ⟨hk, h⟩ := slotsOffered_iff.1 h
  · simp [hl] at h
  have hwait : (link s p).waiting = [] := (h p).resolve_right (by omega)
  have hjoin : joinWaiting p (.sendWire e) s = setLink s p { link s p with waiting := [.sendWire e] } := by
    simp [joinWaiting, hl, hwait]
  have htake : takeOldest p (joinWaiting p (.sendWire e) s) = handOn .sendWire .ok (wireSent p e s) := by
    unfold takeOldest
    rw [hjoin, link_setLink_self]
    simp [queueTx, dropWaiting, wireSent, ← hwait]
  have hlink (q : Port) : link (handOn .sendWire .ok (wireSent p e s)) q = link (wireSent p e s) q := by
    unfold handOn
    split <;> rfl
  have hother : canTakeOldest (joinWaiting p (.sendWire e) s) p.other = false := by
    refine canTakeOldest_of_idle ?_
    rw [hjoin, link_setLink_ne _ _ (other_ne p)]
    exact h _
  have hcan : canTakeOldest (joinWaiting p (.sendWire e) s) p = true :=
    canTakeOldest_of_open (by simp [hjoin, hl]) (by simp [hjoin, hk]) (by simp [hjoin]) (by simpa [hjoin] using ht)
  rw [createInternal, pump_of_take hcan, htake]
  · cases p
    · exact .inl rfl
    · exact .inr hother
  · rw [htake]
    intro q
    refine canTakeOldest_of_idle ?_
    rw [hlink, wireSent, setLevel, link_setWire]
    obtain rfl | rfl := eq_or_other p q
    · exact .inl (by simp [hwait])
    · rw [link_setLink_ne _ _ (other_ne p)]
      exact h _

theorem notSendWire_filter {l : List Internal} (h : ∀ x ∈ l, isSendWire x = false) :
    l.filter (fun f => !isSendWire f) = l := List.filter_eq_self.2 fun x hx => by simp [h x hx]

/-- Where no SEND_WIRE frame waits, a withdrawal changes nothing, and it takes back one that has just joined (R37). -/
theorem withdrawSendWire_joined (h : ∀ x ∈ s.hub.waiting ++ s.board.waiting, isSendWire x = false) (p : Port)
    (e : WireLevel) : withdrawSendWire s = s ∧
      withdrawSendWire (setLink s p { link s p with waiting := (link s p).waiting ++ [.sendWire e] }) = s := by
  have hhub := notSendWire_filter fun x hx => h x (List.mem_append_left _ hx)
  have hboard := notSendWire_filter fun x hx => h x (List.mem_append_right _ hx)
  have hsend : [Internal.sendWire e].filter (fun f => !isSendWire f) = [] := rfl
  refine ⟨?_, ?_⟩
  · simp only [withdrawSendWire, State.setHub_board, hhub, hboard]
    rfl
  · cases p
    · simp only [withdrawSendWire, setLink_hub, link_hub, State.setHub_hub, State.setHub_board, hboard, List.filter_append,
        hhub, hsend, List.append_nil]
      rfl
    · simp only [withdrawSendWire, setLink_board, link_board, State.setBoard_hub, State.setBoard_board, State.setHub_board,
        hboard, List.filter_append, hhub, hsend, List.append_nil]
      rfl

theorem sendWireBegins : Claims.SendWireBegins := by
  intro r s hr hw hcur hruns
  dsimp only
  rw [runKind_of_sendWire s hr]
  unfold beginSendWire
  refine ⟨fun hm => if_pos hm, fun hm hoff hnone => ?_⟩
  rw [if_neg (by simp [hm])]
  have hoff' : SlotsOffered (awaitStep s) := hoff
  have hdir : wireDir s r.opA = (peek s.wire.map r.opA).dir := rfl
  dsimp only
  rw [hdir]
  generalize portOf (peek s.wire.map r.opA).dir = p
  obtain ⟨hback, hback'⟩ := withdrawSendWire_joined (s := awaitStep s) hnone p { wire := r.opA, level := r.opB }
  have hlink (q : Port) : link (awaitStep s) q = link s q := by cases q <;> rfl
  refine ⟨fun hl ht => ?_, fun hcase hd => ?_, fun hl ht hd => ?_, fun hl hd => ?_⟩
  · have hwaits : waitsIn (wireSent p { wire := r.opA, level := r.opB } (awaitStep s)) .sendWire = true := by
      rw [waitsIn_of_eng (s := awaitStep s) (by simp [wireSent, setLevel])]
      exact waitsIn_iff.2 ⟨rfl, hcur ▸ hr, hruns⟩
    rw [createSendWire_open hoff' hl (by rw [hlink]; exact ht), handOn, if_pos hwaits, if_neg (fun hc => by cases hc.1)]
    cases p <;> rfl
  · have hcreate : createInternal p (.sendWire { wire := r.opA, level := r.opB }) (awaitStep s) = awaitStep s ∨
        createInternal p (.sendWire { wire := r.opA, level := r.opB }) (awaitStep s) =
          setLink (awaitStep s) p { link (awaitStep s) p with
            waiting := (link (awaitStep s) p).waiting ++ [.sendWire { wire := r.opA, level := r.opB }] } := by
      by_cases hl : s.lrst = true
      · exact .inl (createInternal_of_lrst _ hl)
      · exact .inr (createInternal_of_full _ hoff' (Bool.not_eq_true _ ▸ hl) (by rw [hlink]; exact hcase.resolve_left hl))
    have hfails (t : State) (hstep : t.eng.wait = .step) (hwith : withdrawSendWire t = awaitStep s) :
        (if t.eng.wait = .step ∧ duration r.time = 0 then failWith .timeout (withdrawSendWire t) else t) =
          failWith .timeout s := by
      rw [if_pos ⟨hstep, hd⟩, hwith]
      rfl
    obtain hc | hc := hcreate
    · rw [hc]
      exact hfails _ rfl hback
    · rw [hc]
      exact hfails _ (by simp [awaitStep]) hback'
  · rw [createInternal_of_full _ hoff' hl (by rw [hlink]; exact ht), if_neg (fun hc => hd hc.2)]
    cases p <;> rfl
  · rw [createInternal_of_lrst _ (by exact hl), if_neg (fun hc => hd hc.2)]

/-! ## END (R28) -/

theorem endBegins : Claims.EndBegins := by
  intro r s d hr hwait hh hb hl hk
  dsimp only
  rw [runKind_of_endList s hr]
  unfold beginEnd
  refine ⟨fun hq => ?_, fun hq hhold => ?_, fun hq hhold hdir hlen => ?_⟩
  · rw [liftHold_empty (.inr ⟨hk, .inl hh, .inl hb⟩) hq]
    exact if_pos hq
  · have hself : liftHold s = s := if_neg (by simp [hhold])
    rw [hself]
    exact if_neg hq
  · refine ⟨fun ht => ?_, fun ht => ?_⟩
    · have hdrains : liftHold s = drained (s.setWire { s.wire with hold := false }) d := by
        rw [liftHold_drains hh hb hl hk hq hdir hhold hlen ht]
        exact handOnDrained_of_none (by rw [(drained_fields _ d).1]; exact hwait)
      rw [hdrains]
      exact if_pos (drained_fields _ d).2.1
    · rw [liftHold_waits hh hb hl hq hdir hhold ht]
      exact if_neg (by simpa [releasing] using hq)

/-- Settles O28: the instant steps, the fires of an arming change, and the steps that wait, send or drain. -/
theorem instantSteps : Obligations.InstantSteps := ⟨stepsAct, armingFires, waitsBegin, sendWireBegins, endBegins⟩

end Sys2Proof.Machine

/-! PROOFS. The rows by which frames leave and take transmit slots. -/

namespace Sys2Proof.Machine

variable {s t u : State} {p : Port} {e : WireLevel} {rest : List Internal} {a : Service}

theorem slotFree_open (hl : s.lrst = false) (hk : s.wire.kept = none) (ht : (link s p).tx.length < 8) :
    slotFree s p = true := by simp [slotFree, hl, hk, ht, Config.txSlots]

theorem setLink_due (hs : AtRest s) (p : Port) (l : Link) : (setLink s p l).eng.due = .nothing := by simpa using hs.2

theorem sendCompletionFrees (hs : AtRest s) (p : Port) :
    exec (.sendCompletion p) s = .next (setLink s p { link s p with tx := (link s p).tx.tail }) := by
  show execSendCompletion p s = _
  exact whilePowered_next hs.1 rfl (setLink_due hs p _)

/-- The oldest waiting notice or wire frame takes a free slot (R146). -/
theorem internalTakesSlot {f : Internal} {fr : Frame} (hs : AtRest s) (hl : s.lrst = false) (hk : s.wire.kept = none)
    (ht : (link s p).tx.length < 8) (hf : sentAs f = some fr) (hw : (link s p).waiting = f :: rest) :
    exec (.internalFrameTakesSlot p) s =
      .next (setLink s p { link s p with waiting := rest, tx := (link s p).tx ++ [fr] }) := by
  have hkind : isNoticeOrWires f = true := by
    cases f with
    | notice src => rfl
    | wires es => rfl
    | drain => simp [sentAs] at hf
    | sendWire e => simp [sentAs] at hf
  show execInternalFrameTakesSlot p s = _
  refine whilePowered_next hs.1 ?_ (setLink_due hs p _)
  rw [slotFree_open hl hk ht, hw, ← takeOldest_of_sentAs hf hw]
  simp [hkind]

/-- The frame of a waiting SEND_WIRE step takes a free slot and ends the step (R37). -/
theorem sendWireTakesSlot (h : SteppingIn s .sendWire) (hl : s.lrst = false) (hk : s.wire.kept = none)
    (ht : (link s p).tx.length < 8) (hw : (link s p).waiting = .sendWire e :: rest) (ho : (link s p.other).waiting = []) :
    exec .sendWireFrameTakesSlot s = .next (haltedAfter ((setLink s p
      { link s p with waiting := rest, tx := (link s p).tx ++ [wireFrame 0 [e]] }).setWire
      { s.wire with level := poke s.wire.level e.wire e.level })) := by
  generalize hu : (setLink s p { link s p with waiting := rest, tx := (link s p).tx ++ [wireFrame 0 [e]] }).setWire
      { s.wire with level := poke s.wire.level e.wire e.level } = u
  have heng : u.eng = s.eng := by simp [← hu]
  have htake : takeOldest p s = endRunWith .ok u := by
    unfold takeOldest
    rw [hw]
    have hsent : setLevel e.wire e.level (queueTx p (wireFrame 0 [e]) (dropWaiting p s)) = u := by
      rw [← hu]
      simp [setLevel, queueTx, dropWaiting, hw]
    dsimp only
    rw [hsent, handOn, if_pos ((waitsIn_of_eng heng).trans h.waits)]
  have hcan : sendWireCanTake s p = true := by simp [sendWireCanTake, slotFree_open hl hk ht, hw, isSendWire]
  have hnot : sendWireCanTake s p.other = false := by simp [sendWireCanTake, ho]
  have hrow : (if sendWireCanTake s .hub then takeOldest .hub s
      else if sendWireCanTake s .board then takeOldest .board s else s) = takeOldest p s := by
    cases p with
    | hub => exact if_pos hcan
    | board => exact (if_neg (by rw [show sendWireCanTake s .hub = false from hnot]; simp)).trans (if_pos hcan)
  show execSendWireFrameTakesSlot s = _
  unfold execSendWireFrameTakesSlot
  rw [whilePowered_on _ h.rest.1, hrow, htake, h.succeeds (by decide) heng]

theorem headNeedsSlot_iff {l : Link} :
    headNeedsSlot l = true ↔ ∃ f ∈ l.rx.head?, f.kind = .wire ∨ f.kind = .data ∧ f.route = false := by
  unfold headNeedsSlot
  cases l.rx <;> simp

/-- A slot that is offered to the management response (R146, R150). -/
theorem exec_mgmtResponse (hs : AtRest s) (ha : s.agent = some a) (hl : s.lrst = false) (hk : s.wire.kept = none)
    (ht : (link s a.port).tx.length < 8) (hw : (link s a.port).waiting = []) :
    exec .mgmtResponseTakesSlot s =
      .next (if headNeedsSlot (link s a.port.other) then s else (queueTx a.port a.response s).setAgent none) := by
  have hcan : responseCanTake s a.port = !headNeedsSlot (link s a.port.other) := by
    simp [responseCanTake, slotFree_open hl hk ht, hw]
  show execMgmtResponseTakesSlot s = _
  refine whilePowered_next hs.1 ?_ ?_
  · rw [ha]
    dsimp only
    rw [hcan]
    cases headNeedsSlot (link s a.port.other) <;> rfl
  · split
    · exact hs.2
    · simpa [queueTx] using hs.2

/-- Settles O41: each row by the state that `takeOldest` or the agent leaves. -/
theorem slotsTaken : Obligations.SlotsTaken := by
  refine ⟨fun p s hs => sendCompletionFrees hs p,
    fun p rest s hs hl hk ht => ⟨fun src hw => internalTakesSlot hs hl hk ht rfl hw,
      fun es hw => internalTakesSlot hs hl hk ht rfl hw⟩,
    fun p e rest s h hl hk ht hw ho => sendWireTakesSlot h hl hk ht hw ho, drainProceeds,
    fun a s hs ha hl hk ht hw => ?_⟩
  have hrow := exec_mgmtResponse hs ha hl hk ht hw
  refine ⟨fun hnot => ?_, fun f hf hkind => ?_⟩
  · have hhead : ¬headNeedsSlot (link s a.port.other) = true := by
      rw [headNeedsSlot_iff]
      rintro ⟨f, hf, h | ⟨hd, hr⟩⟩
      · exact (hnot f hf).1 h
      · exact Bool.false_ne_true (hr.symm.trans ((hnot f hf).2 hd))
    rw [hrow, if_neg hhead]
    rfl
  · rw [hrow, if_pos (headNeedsSlot_iff.2 ⟨f, hf, hkind⟩)]

end Sys2Proof.Machine

/-! PROOFS. The management requests: the checks every row shares, and the CONTROL commands. -/

namespace Sys2Proof.Machine

variable {s t u : State} {p : Port} {f : Frame} {a : Answer} {row : List Byte → Bool} {act : List Byte → State → Answer}
  {req : List Byte} {st : Status} {l : Level} {h : HaltedFrom}

/-! ## A request carried out and answered (R150, R151, R152) -/

theorem opOf_cons (b : Byte) (rest : List Byte) : opOf (b :: rest) = b.toNat := rfl

theorem opKnown_iff : opKnown req = true ↔ 1 ≤ opOf req ∧ opOf req ≤ 4 := by simp [opKnown]

theorem respond_eq (p : Port) (f : Frame) (a : Answer) :
    respond p f a = answered p f (byteOf (statusCode a.status)) a.data a.state := rfl

/-- A request of its row leads to the state its act gives, with the chain that follows, and the agent holds the answer. -/
theorem serve_eq (hr : Requests s p f) (hop : opKnown f.payload = true) (hrow : row f.payload = true)
    (ha : guarded p f.payload act (taken p s) = a) (hu : runChain a.state = u) (hd : u.eng.due = .nothing) :
    serve row act s = .next (answered p f (byteOf (statusCode a.status)) a.data u) := by
  obtain ⟨⟨hs, hp, -⟩, hk, hroute⟩ := hr
  refine whilePowered_next hs.1 ((takeNext_of_picked _ hp (by simp [hk, hroute, hop, hrow])).trans ?_) hd
  dsimp only
  rw [ha, hu, respond_eq]

/-- A request that is denied changes nothing but the agent (R151). -/
theorem serve_denied (hr : Requests s p f) (hop : opKnown f.payload = true) (hrow : row f.payload = true)
    (ha : guarded p f.payload act (taken p s) = deny st (taken p s)) :
    serve row act s = .next (answered p f (byteOf (statusCode st)) [] (taken p s)) := by
  have hrest : (taken p s).eng.due = .nothing := taken_rest hr.1.1
  exact serve_eq hr hop hrow ha (runChain_of_rest hrest) hrest

theorem guarded_loading (hs : s.psc.state = .loading) : guarded p req act s = deny .busy s := if_pos hs

theorem guarded_board (hs : s.psc.state ≠ .loading) (hop : 3 ≤ opOf req) : guarded .board req act s = deny .refused s := by
  unfold guarded
  rw [if_neg hs, if_pos ⟨rfl, hop⟩]

theorem guarded_act (hs : s.psc.state ≠ .loading) (hop : p = .hub ∨ opOf req < 3) : guarded p req act s = act req s := by
  unfold guarded
  rw [if_neg hs, if_neg]
  rintro ⟨hp, h3⟩
  obtain h | h := hop
  · rw [h] at hp
    cases hp
  · omega

theorem taken_fields (p : Port) (s : State) : (taken p s).psc = s.psc ∧ (taken p s).eng = s.eng ∧
    (taken p s).clock = s.clock ∧ (taken p s).wire.level = s.wire.level := by simp [taken]

/-! ## The rows of WRITE_TABLE and CONTROL (R152) -/

theorem writesTo_cons {t : Table} (id : Byte) (rest : List Byte) :
    writesTo t (3 :: id :: rest) = (tableOf id.toNat).elim true (fun x => decide (x = t)) := by
  have hop : opOf (3 :: id :: rest) = 3 := rfl
  unfold writesTo
  simp only [hop, List.getElem?_cons_succ, List.getElem?_cons_zero, decide_true, Bool.true_and]
  cases tableOf id.toNat <;> rfl

theorem controls_cons {code : Nat} (k : Byte) (rest : List Byte) : controls code (4 :: k :: rest) =
    (decide (k.toNat = code) || decide (k.toNat = 0) || decide (8 < k.toNat)) := rfl

/-- Each row of WRITE_TABLE and CONTROL serves its table or its command. -/
theorem exec_requestCodes {c : Instr} {op code : Byte} (h : (c, op, code) ∈ requestCodes) :
    (op = 3 ∧ ∃ t, tableOf code.toNat = some t ∧ ∀ s, exec c s = serve (writesTo t) (writeAct t) s) ∨
      (op = 4 ∧ code.toNat ≤ 8 ∧ 1 ≤ code.toNat ∧
        ∃ act, ∀ s, exec c s = serve (controls code.toNat) (controlAct code.toNat act) s) := by
  simp only [requestCodes, List.mem_cons, Prod.mk.injEq, List.not_mem_nil, or_false] at h
  rcases h with ⟨rfl, rfl, rfl⟩ | ⟨rfl, rfl, rfl⟩ | ⟨rfl, rfl, rfl⟩ | ⟨rfl, rfl, rfl⟩ | ⟨rfl, rfl, rfl⟩ | ⟨rfl, rfl, rfl⟩ |
    ⟨rfl, rfl, rfl⟩ | ⟨rfl, rfl, rfl⟩ | ⟨rfl, rfl, rfl⟩ | ⟨rfl, rfl, rfl⟩ | ⟨rfl, rfl, rfl⟩ | ⟨rfl, rfl, rfl⟩ |
    ⟨rfl, rfl, rfl⟩ | ⟨rfl, rfl, rfl⟩
  · exact .inl ⟨rfl, .rail, rfl, fun _ => rfl⟩
  · exact .inl ⟨rfl, .step, rfl, fun _ => rfl⟩
  · exact .inl ⟨rfl, .transition, rfl, fun _ => rfl⟩
  · exact .inl ⟨rfl, .wiremap, rfl, fun _ => rfl⟩
  · exact .inl ⟨rfl, .wakesrc, rfl, fun _ => rfl⟩
  · exact .inl ⟨rfl, .policy, rfl, fun _ => rfl⟩
  · exact .inr ⟨rfl, by decide, by decide, haltAct, fun _ => rfl⟩
  · exact .inr ⟨rfl, by decide, by decide, continueAct, fun _ => rfl⟩
  · exact .inr ⟨rfl, by decide, by decide, stepModeAct true, fun _ => rfl⟩
  · exact .inr ⟨rfl, by decide, by decide, stepModeAct false, fun _ => rfl⟩
  · exact .inr ⟨rfl, by decide, by decide, clearFaultAct, fun _ => rfl⟩
  · exact .inr ⟨rfl, by decide, by decide, clearWakesAct, fun _ => rfl⟩
  · exact .inr ⟨rfl, by decide, by decide, clearFlagsAct, fun _ => rfl⟩
  · exact .inr ⟨rfl, by decide, by decide, clearCountersAct, fun _ => rfl⟩

/-- The row of a request that names its table or command. -/
theorem exec_named {c : Instr} {op code : Byte} (h : (c, op, code) ∈ requestCodes) :
    ∃ row act, (∀ s, exec c s = serve row act s) ∧ ∀ rest, row (op :: code :: rest) = true ∧
      3 ≤ opOf (op :: code :: rest) ∧ opOf (op :: code :: rest) ≤ 4 := by
  obtain ⟨rfl, t, ht, hexec⟩ | ⟨rfl, -, -, act, hexec⟩ := exec_requestCodes h
  · exact ⟨_, _, hexec, fun rest => ⟨by rw [writesTo_cons, ht]; simp, by rw [opOf_cons]; decide, by rw [opOf_cons]; decide⟩⟩
  · exact ⟨_, _, hexec, fun rest => ⟨by rw [controls_cons]; simp, by rw [opOf_cons]; decide, by rw [opOf_cons]; decide⟩⟩

theorem firstChecks : Claims.FirstChecks := by
  intro c op code rest p f s hc hr hp
  obtain ⟨row, act, hexec, hrow⟩ := exec_named hc
  obtain ⟨hrow, h3, h4⟩ := hrow rest
  rw [← hp] at hrow h3 h4
  have hop : opKnown f.payload = true := opKnown_iff.2 ⟨by omega, h4⟩
  have hpsc : (taken p s).psc = s.psc := (taken_fields p s).1
  refine ⟨fun hl => ?_, fun hl hb => ?_⟩
  · rw [hexec]
    exact serve_denied hr hop hrow (guarded_loading (by rw [hpsc]; exact hl))
  · subst hb
    rw [hexec]
    exact serve_denied hr hop hrow (guarded_board (by rw [hpsc]; exact hl) h3)

/-! ## RANGE of WRITE_TABLE and CONTROL (R152, R154, R156, R157) -/

theorem tableOf_bounds {n : Nat} {t : Table} (h : tableOf n = some t) : 1 ≤ n ∧ n ≤ 6 := by
  unfold tableOf at h
  split at h
  · cases h
  · obtain ⟨hlt, -⟩ := List.getElem?_eq_some_iff.1 h
    simp at hlt
    omega

/-- A writable table's record length, and the indexes out of its range (R154, R161). -/
theorem tableOf_ranges {n : Nat} {t : Table} (h : tableOf n = some t) : tableBytes n = recLen t ∧
    ∀ i, (tableUnits n ≤ i ∨ n = 3 ∧ i ∈ [0, 5, 10, 15]) → indexOk t i = false := by
  obtain ⟨h1, h6⟩ := tableOf_bounds h
  interval_cases n <;> cases h <;> refine ⟨rfl, fun i hi => ?_⟩ <;> simp [tableUnits] at hi <;> simp [indexOk] <;> omega

theorem writeAct_range {t : Table}
    (h : tableOf (byteAt req 1).toNat ≠ some t ∨ req.length ≠ 3 + recLen t ∨ indexOk t (byteAt req 2).toNat = false) :
    writeAct t req s = deny .range s := by
  unfold writeAct
  refine if_pos ?_
  obtain h | h | h := h <;> simp [h]

theorem controlAct_range {code : Nat} {act : State → Answer} (h : req.length ≠ 2 ∨ (byteAt req 1).toNat ≠ code) :
    controlAct code act req s = deny .range s := by
  unfold controlAct
  refine if_pos ?_
  obtain h | h := h <;> simp [h]

/-- A request from the Hub Port outside LOADING, denied by its own act. -/
theorem serve_range (hr : Requests s .hub f) (hl : s.psc.state ≠ .loading) (hop : opKnown f.payload = true)
    (hrow : row f.payload = true) (ha : act f.payload (taken .hub s) = deny .range (taken .hub s)) :
    serve row act s = .next (answered .hub f 3 [] (taken .hub s)) :=
  serve_denied hr hop hrow ((guarded_act (by rw [(taken_fields .hub s).1]; exact hl) (.inl rfl)).trans ha)

theorem writeRanges : Claims.WriteRanges := by
  intro c tid f s hc hr hl hhead
  obtain ⟨-, t, ht, hexec⟩ | ⟨h, -⟩ := exec_requestCodes hc
  swap
  · cases h
  obtain ⟨hbytes, hunits⟩ := tableOf_ranges ht
  have hlen : 1 ≤ recLen t := by cases t <;> decide
  obtain ⟨rest, hp⟩ : ∃ rest, f.payload = 3 :: rest := by
    cases hf : f.payload with
    | nil => simp [hf] at hhead
    | cons b rest =>
      rw [hf] at hhead
      exact ⟨rest, by rw [Option.some.inj hhead]⟩
  have hop : opKnown f.payload = true := by
    rw [hp]
    rfl
  dsimp only
  have hrange (hrow : writesTo t f.payload = true)
      (h : tableOf (byteAt f.payload 1).toNat ≠ some t ∨ f.payload.length ≠ 3 + recLen t ∨
        indexOk t (byteAt f.payload 2).toNat = false) :
      exec c s = .next (answered .hub f 3 [] (taken .hub s)) := by
    rw [hexec]
    exact serve_range hr hl hop hrow (writeAct_range h)
  have hnamed (h2 : 2 ≤ f.payload.length)
      (h : tableOf (byteAt f.payload 1).toNat = none ∨ tableOf (byteAt f.payload 1).toNat = some t) :
      writesTo t f.payload = true := by
    rw [hp] at h h2 ⊢
    obtain ⟨id, rest, rfl⟩ := List.exists_cons_of_ne_nil (l := rest) (by rintro rfl; simp at h2)
    rw [writesTo_cons]
    obtain h | h := h
    · rw [show tableOf id.toNat = none from h]
      rfl
    · rw [show tableOf id.toNat = some t from h]
      exact decide_eq_true rfl
  refine ⟨fun h1 => ?_, fun h2 hid => ?_, fun h2 hid hn => ?_, fun hn hid hi => ?_⟩
  · have hrow : writesTo t f.payload = true := by
      rw [hp] at h1 ⊢
      obtain rfl := List.length_eq_zero_iff.1 (Nat.succ.inj h1)
      rfl
    exact hrange hrow (.inr (.inl (by omega)))
  · have hnone := tableOf_eq_none hid
    exact hrange (hnamed h2 (.inl hnone)) (.inl (by simp [hnone]))
  · rw [hid, hbytes] at hn
    exact hrange (hnamed h2 (.inr (by rw [hid]; exact ht))) (.inr (.inl hn))
  · exact hrange (hnamed (by omega) (.inr (by rw [hid]; exact ht))) (.inr (.inr (hunits _ (by rwa [← hid]))))

theorem controlRanges : Claims.ControlRanges := by
  intro c code f s hc hr hl hhead
  obtain ⟨h, -⟩ | ⟨-, hle, h1, act, hexec⟩ := exec_requestCodes hc
  · cases h
  obtain ⟨rest, hp⟩ : ∃ rest, f.payload = 4 :: rest := by
    cases hf : f.payload with
    | nil => simp [hf] at hhead
    | cons b rest =>
      rw [hf] at hhead
      exact ⟨rest, by rw [Option.some.inj hhead]⟩
  have hop : opKnown f.payload = true := by
    rw [hp]
    rfl
  dsimp only
  have hrange (hrow : controls code.toNat f.payload = true)
      (h : f.payload.length ≠ 2 ∨ (byteAt f.payload 1).toNat ≠ code.toNat) :
      exec c s = .next (answered .hub f 3 [] (taken .hub s)) := by
    rw [hexec]
    exact serve_range hr hl hop hrow (controlAct_range h)
  have hnamed (h2 : 2 ≤ f.payload.length) (h : (byteAt f.payload 1).toNat = code.toNat ∨
      (byteAt f.payload 1).toNat = 0 ∨ 8 < (byteAt f.payload 1).toNat) : controls code.toNat f.payload = true := by
    rw [hp] at h h2 ⊢
    obtain ⟨k, rest, rfl⟩ := List.exists_cons_of_ne_nil (l := rest) (by rintro rfl; simp at h2)
    rw [controls_cons]
    simpa [or_assoc, byteAt] using h
  refine ⟨fun hn => ?_, fun h2 hk => ?_, fun h2 hk => ?_⟩
  · have hrow : controls code.toNat f.payload = true := by
      rw [hp] at hn ⊢
      obtain rfl := List.length_eq_zero_iff.1 (Nat.succ.inj hn)
      rfl
    exact hrange hrow (.inl (by omega))
  · exact hrange (hnamed h2 (.inr hk)) (.inr (by omega))
  · exact hrange (hnamed (by omega) (.inl hk)) (.inl (by omega))

/-- Settles O49: the checks before the act, and the RANGE answers of the two ops. -/
theorem requestsGuarded : Obligations.RequestsGuarded := ⟨firstChecks, writeRanges, controlRanges⟩

end Sys2Proof.Machine

/-! PROOFS. The CONTROL commands: what each sets or clears, the request a cleared latch takes again, and CONTINUE. -/

namespace Sys2Proof.Machine

variable {s t u : State} {p : Port} {f : Frame} {a : Answer} {l q : Level} {h : HaltedFrom} {code : Nat}
  {act : State → Answer}

theorem controlAct_two {k : Byte} (hk : k.toNat = code) (s : State) : controlAct code act [4, k] s = act s := by
  unfold controlAct
  refine if_neg ?_
  simp [byteAt, hk]

/-- A command of two bytes from the Hub Port, outside LOADING. -/
theorem serve_control {k : Byte} (hr : Requests s .hub f) (hl : s.psc.state ≠ .loading) (hp : f.payload = [4, k])
    (hk : k.toNat = code) (ha : act (taken .hub s) = a) (hu : runChain a.state = u) (hd : u.eng.due = .nothing) :
    serve (controls code) (controlAct code act) s = .next (answered .hub f (byteOf (statusCode a.status)) a.data u) := by
  refine serve_eq hr ?_ ?_ ?_ hu hd
  · rw [hp]
    rfl
  · rw [hp, controls_cons]
    simp [hk]
  · rw [guarded_act (by rw [(taken_fields .hub s).1]; exact hl) (.inl rfl), hp, controlAct_two hk, ha]

/-- A command that starts nothing. -/
theorem serve_done {k : Byte} (hr : Requests s .hub f) (hl : s.psc.state ≠ .loading) (hp : f.payload = [4, k])
    (hk : k.toNat = code) (ha : act (taken .hub s) = done u) (hd : u.eng.due = .nothing) :
    serve (controls code) (controlAct code act) s = .next (answered .hub f 0 [] u) :=
  serve_control hr hl hp hk ha (runChain_of_rest hd) hd

/-! ## The fault latch (R18) -/

theorem clearLatch_of_clear (hl : s.psc.latch = false) : clearLatch s = s := if_neg (by simp [hl])

/-- A set latch that is cleared takes a request for WORKING again in a level state below it, behind an open gate. -/
theorem clearLatch_of_set (hl : s.psc.latch = true) : clearLatch s =
    if inLevelState s ∧ s.psc.state ≠ .working ∧ s.psc.gateClosed = false ∧ requested s = .working then
      requestEvent .working (s.setPsc { s.psc with latch := false })
    else s.setPsc { s.psc with latch := false } := by
  have hin : inLevelState (s.setPsc { s.psc with latch := false }) = inLevelState s := rfl
  have hreq : requested (s.setPsc { s.psc with latch := false }) = requested s := rfl
  unfold clearLatch
  rw [if_pos hl]
  dsimp only
  rw [hin, hreq]
  refine if_congr ?_ rfl rfl
  simp only [Bool.and_eq_true, decide_eq_true_eq, Bool.not_eq_true', and_assoc]
  exact Iff.rfl

theorem inLevelState_iff : inLevelState s = true ↔
    s.psc.state = .working ∨ s.psc.state = .suspend ∨ s.psc.state = .hibernate ∨ s.psc.state = .softOff := by
  unfold inLevelState
  cases s.psc.state <;> simp [stateLevel]

/-- The latch is cleared and nothing else follows: it was clear, or no request for WORKING is taken again. -/
theorem clearLatch_only (hl : s.psc.latch = false ∨ requested s ≠ .working ∨ s.psc.gateClosed = true ∨
    s.psc.state ≠ .suspend ∧ s.psc.state ≠ .hibernate ∧ s.psc.state ≠ .softOff) :
    clearLatch s = s.setPsc { s.psc with latch := false } := by
  by_cases hset : s.psc.latch = true
  · rw [clearLatch_of_set hset]
    refine if_neg ?_
    rintro ⟨hin, hnot, hg, hreq⟩
    rcases hl with hl | hl | hl | ⟨h1, h2, h3⟩
    · exact Bool.false_ne_true (hl.symm.trans hset)
    · exact hl hreq
    · exact Bool.false_ne_true (hg.symm.trans hl)
    · rcases inLevelState_iff.1 hin with h | h | h | h
      · exact hnot h
      · exact h1 h
      · exact h2 h
      · exact h3 h
  · have hclear : s.psc.latch = false := by simpa using hset
    rw [clearLatch_of_clear hclear]
    conv_rhs => rw [← hclear]
    exact (State.setPsc_self s).symm

/-- In a level below WORKING the latch, cleared behind an open gate, takes a request for WORKING again. -/
theorem clearLatch_retries (hs : s.psc.state = levelState l) (hl : l ≠ .working) (hset : s.psc.latch = true)
    (hg : s.psc.gateClosed = false) (hreq : requested s = .working) :
    clearLatch s = requestEvent .working (s.setPsc { s.psc with latch := false }) := by
  rw [clearLatch_of_set hset]
  refine if_pos ⟨inLevelState_iff.2 ?_, ?_, hg, hreq⟩
  · rw [hs]
    cases l <;> simp [levelState]
  · rw [hs]
    cases l <;> simp [levelState] at hl ⊢

/-- The request taken again starts the transition, or is refused UNSUPPORTED (R8, R9, R18). -/
theorem runChain_clearLatch (hst : s.psc.state = levelState l) (hne : l ≠ .working) (hset : s.psc.latch = true)
    (hg : s.psc.gateClosed = false) (hreq : requested s = .working) (hdue : s.eng.due = .nothing) :
    (EntryDelays s l .working → s.eng.urg.running = false →
      runChain (clearLatch s) = begun l .working (s.setPsc { s.psc with latch := false })) ∧
    ((peek s.psc.trans (entryIndex l .working)).present = false →
      runChain (clearLatch s) = (refusedBy l .working .unsupported (s.setPsc { s.psc with latch := false })).setPsc
        { s.psc with latch := false, unsupported := true }) := by
  obtain ⟨-, -, -, hlevel⟩ := requestTaken .working (s := s.setPsc { s.psc with latch := false }) hdue
  obtain ⟨-, -, -, habsent, hpresent⟩ := hlevel l hst
  have hclear : ¬(Level.working = .working ∧ false = true) := by simp
  rw [clearLatch_retries hst hne hset hg hreq]
  exact ⟨fun hd hu => hpresent hg (Ne.symm hne) hclear hd hu, fun hp => habsent hg (Ne.symm hne) hclear hp⟩

/-! ## The commands that set or clear (R49, R50, R90, R108, R158) -/

theorem haltAct_eq (s : State) : haltAct s =
    if s.psc.state = .transit ∨ s.psc.state = .backout then
      done (s.setEng { s.eng with norm := { s.eng.norm with haltPending := true } })
    else if s.psc.state = .halted then done s
    else deny .badState s := by
  unfold haltAct
  cases s.psc.state <;> rfl

theorem soLost_kept (c : Clock) : (c.soLost && decide (c.source = .rc)) = if c.source = .so then false else c.soLost := by
  cases h : c.source <;> simp

theorem commandsAct : Claims.CommandsAct := by
  intro f s hr hl
  have hs : AtRest s := hr.1.1
  obtain ⟨hpsc, heng, hclock, hlevel⟩ := taken_fields .hub s
  have hdue : (taken .hub s).eng.due = .nothing := taken_rest hs
  dsimp only
  refine ⟨fun hp => ⟨fun hst => ?_, fun hst => ?_, fun ht hb hh => ?_⟩, fun hp => ?_, fun hp => ?_, fun hp hlatch => ?_,
    fun hp => ?_, fun hp => ?_, fun hp => ?_⟩
  · refine serve_done hr hl hp rfl ?_ hs.2
    rw [haltAct_eq, if_pos (by rw [hpsc]; exact hst), heng]
  · refine serve_done hr hl hp rfl ?_ hdue
    rw [haltAct_eq, hpsc, if_neg (by simp [hst]), if_pos hst]
  · refine serve_control (a := deny .badState (taken .hub s)) hr hl hp rfl ?_ (runChain_of_rest hdue) hdue
    rw [haltAct_eq, hpsc, if_neg (by simp [ht, hb]), if_neg hh]
  · refine serve_done hr hl hp rfl ?_ hs.2
    rw [stepModeAct, heng]
  · refine serve_done hr hl hp rfl ?_ hs.2
    rw [stepModeAct, heng]
  · refine serve_done hr hl hp rfl ?_ hdue
    unfold clearFaultAct
    rw [clearLatch_only]
    · simp [hpsc]
    · have hreq : requested ((taken .hub s).setFault { first := none, further := 0, urgentFails := 0 }) = requested s := by
        simp [requested, hpsc, hlevel]
      rw [hreq]
      simpa [hpsc] using hlatch
  · refine serve_done hr hl hp rfl ?_ hdue
    simp [clearWakesAct, taken]
  · refine serve_done hr hl hp rfl ?_ hdue
    rw [← soLost_kept]
    rfl
  · refine serve_done hr hl hp rfl ?_ hdue
    simp [clearCountersAct, taken]

theorem clearFaultRetries : Claims.ClearFaultRetries := by
  intro f l s hr hp hst hne hset hu
  have hs : AtRest s := hr.1.1
  obtain ⟨hpsc, heng, hclock, hlevel⟩ := taken_fields .hub s
  have hl : s.psc.state ≠ .loading := by
    rw [hst]
    cases l <;> simp [levelState]
  dsimp only
  generalize hs1 : (taken .hub s).setFault { first := none, further := 0, urgentFails := 0 } = s1
  have hpsc1 : s1.psc = s.psc := by rw [← hs1]; exact hpsc
  have hreq : requested s1 = requested s := by simp [← hs1, requested, hpsc, hlevel]
  rw [← hpsc1]
  have hdue : (s1.setPsc { s1.psc with latch := false }).eng.due = .nothing := by
    rw [← hs1]
    exact taken_rest hs
  have hact (v : State) (hv : runChain (clearLatch s1) = v) (hd : v.eng.due = .nothing) :
      exec .clearFault s = .next (answered .hub f 0 [] v) := by
    rw [← hs1] at hv
    exact serve_control (act := clearFaultAct) hr hl hp rfl rfl hv hd
  have hretry (hg : s1.psc.gateClosed = false) (hq : requested s = .working) := runChain_clearLatch (s := s1) (l := l)
    (by rw [hpsc1]; exact hst) hne (by rw [hpsc1]; exact hset) hg (hreq.trans hq) hdue
  have heng1 : s1.eng = s.eng := by rw [← hs1]; exact heng
  refine ⟨fun hg => ?_, fun hg hq => ⟨fun hd => ?_, fun hp => ?_⟩⟩
  · refine hact _ ?_ hdue
    rw [clearLatch_only (.inr (.inr (.inl hg)))]
    exact runChain_of_rest hdue
  · refine hact _ ((hretry hg hq).1 ?_ (by rw [heng1]; exact hu)) rfl
    unfold EntryDelays
    rw [hpsc1, heng1]
    exact hd
  · exact hact _ ((hretry hg hq).2 hp) hdue

/-- Settles O51: each command by the state its act leaves, and the request taken again. -/
theorem controlsAct : Obligations.ControlsAct := ⟨commandsAct, clearFaultRetries⟩

/-! ## CONTINUE (R17, R51) -/

/-- The state CONTINUE returns the PSC to (R17). -/
def resumed (h : HaltedFrom) (s : State) : State :=
  s.setPsc { s.psc with
    state := (match h with | .transit => PscState.transit | .backout => .backout), haltedFrom := none }

theorem continueAct_of_not (hs : s.psc.state ≠ .halted) : continueAct s = deny .badState s := if_neg hs

theorem continueAct_halted (hs : s.psc.state = .halted) (hh : s.psc.haltedFrom = some h) :
    continueAct s = done (resumeRun (continueSlot (resumed h s))) := by
  unfold continueAct
  rw [if_pos hs]
  dsimp only
  rw [hh]
  cases h <;> rfl

theorem continueSlot_none (hs : s.psc.slot = none) : continueSlot s = s := by
  unfold continueSlot
  rw [hs]

theorem continueSlot_some (hs : s.psc.slot = some q) :
    continueSlot s = requestEvent q (s.setPsc { s.psc with slot := none }) := by
  unfold continueSlot
  rw [hs]

/-- The Normal channel runs the step that was due as it halted, which waits (R17, R44, R51). -/
def stepResumed (s : State) : State :=
  s.setEng
    { s.eng with
      cur := peek s.eng.steps s.eng.norm.idx, wait := .step, due := .nothing,
      norm := { s.eng.norm with
        st := .running, ran := s.eng.norm.idx, start := s.clock.tick, rerunDue := false,
        retries := if s.eng.norm.rerunDue then s.eng.norm.retries else 0 },
      inflight := oneMore s.eng.inflight }

theorem runChain_resumeRun (hn : s.eng.norm.st = .halted) (hu : s.eng.urg.running = false)
    (hl : LongDelay (peek s.eng.steps s.eng.norm.idx)) : runChain (resumeRun s) = stepResumed s := by
  unfold resumeRun
  rw [if_pos hn]
  exact runChain_normal (b := s.eng.norm.rerunDue) rfl rfl hu hl

section
variable (hr : Requests s .hub f) (hp : f.payload = [4, 2])
include hr hp

/-- CONTINUE in HALTED, by the state its slot leaves. -/
theorem exec_continue (hs : s.psc.state = .halted) (hh : s.psc.haltedFrom = some h)
    (hu : runChain (resumeRun (continueSlot (resumed h (taken .hub s)))) = u) (hd : u.eng.due = .nothing) :
    exec .continueRun s = .next (answered .hub f 0 [] u) := by
  have hpsc : (taken .hub s).psc = s.psc := (taken_fields .hub s).1
  exact serve_control (act := continueAct) hr (by simp [hs]) hp rfl
    (continueAct_halted (by rw [hpsc]; exact hs) (by rw [hpsc]; exact hh)) hu hd

end

theorem continueRuns : Claims.ContinueRuns := by
  intro f s hr hl hp
  have hdue : (taken .hub s).eng.due = .nothing := taken_rest hr.1.1
  obtain ⟨hpsc, heng, hclock, -⟩ := taken_fields .hub s
  dsimp only
  refine ⟨fun hs => ?_, fun h hs hh hslot hn hu hd => ?_⟩
  · exact serve_control (a := deny .badState (taken .hub s)) hr hl hp rfl
      (continueAct_of_not (by rw [hpsc]; exact hs)) (runChain_of_rest hdue) hdue
  · refine exec_continue hr hp hs hh ?_ rfl
    rw [continueSlot_none (by show (taken .hub s).psc.slot = _; rw [hpsc]; exact hslot),
      runChain_resumeRun (s := resumed h (taken .hub s)) (by show (taken .hub s).eng.norm.st = _; rw [heng]; exact hn)
        (by show (taken .hub s).eng.urg.running = _; rw [heng]; exact hu)
        (by show LongDelay (peek (taken .hub s).eng.steps (taken .hub s).eng.norm.idx); rw [heng]; exact hd)]
    unfold stepResumed resumed
    simp only [State.setPsc_eng, heng, hpsc, State.setPsc_clock, hclock]
    rfl

/-- What the slot's level does in the halted-from state where no back-out begins (R10, R12, R17). -/
theorem continueSlot_stays (hs : s.psc.slot = some q)
    (hb : ¬(h = .transit ∧ q ≠ s.psc.target ∧ MayBackOut s q)) :
    continueSlot (resumed h s) = (resumed h s).setPsc
      { (resumed h s).psc with slot := if h = .transit ∧ q = s.psc.target then none else some q } := by
  rw [continueSlot_some (s := resumed h s) hs]
  cases h with
  | backout => exact requestEvent_slot q (.inl rfl)
  | transit =>
    rw [requestEvent_transit q rfl]
    by_cases hq : q = s.psc.target
    · rw [if_pos ⟨rfl, hq⟩]
      exact if_pos hq
    · rw [if_neg (fun hc => hq hc.2)]
      exact requestInTransit_slot hq fun hm => hb ⟨rfl, hq, hm⟩

/-- The slot's level begins back-out where it may (R10, R11, R17). -/
theorem runChain_continueBack (hs : s.psc.slot = some q) (hq : q ≠ s.psc.target) (hm : MayBackOut s q)
    (hw : s.eng.wait = .none) (hu : s.eng.urg.running = false)
    (hl : LongDelay (peek s.eng.steps (peek s.psc.trans (entryIndex s.psc.current s.psc.target)).backout.value)) :
    runChain (resumeRun (continueSlot (resumed .transit s))) = backedOut (resumed .transit s) := by
  rw [continueSlot_some (s := resumed .transit s) hs, requestEvent_transit q rfl,
    requestInTransit_back (by exact hq) (by exact hm)]
  have hrun : resumeRun (backOut ((resumed .transit s).setPsc { (resumed .transit s).psc with slot := none })) =
      backOut ((resumed .transit s).setPsc { (resumed .transit s).psc with slot := none }) := if_neg (by simp [backOut, startNorm])
  rw [hrun]
  exact runChain_backOut (s := (resumed .transit s).setPsc { (resumed .transit s).psc with slot := none }) hu (.inl hw) hl

theorem continueServesSlot : Claims.ContinueServesSlot := by
  intro f h q s hr hp hs hh hslot hn hw hu
  obtain ⟨hpsc, heng, hclock, -⟩ := taken_fields .hub s
  dsimp only
  refine ⟨fun ⟨ht, hq, hm⟩ hl => ?_, fun hb hl => ?_⟩
  · subst ht
    refine exec_continue hr hp hs hh ?_ rfl
    rw [runChain_continueBack (by rw [hpsc]; exact hslot) (by rw [hpsc]; exact hq) (by simpa only [MayBackOut, hpsc] using hm)
      (by rw [heng]; exact hw) (by rw [heng]; exact hu) (by rw [heng, hpsc]; exact hl)]
    unfold resumed
    rw [hpsc]
  · refine exec_continue hr hp hs hh ?_ rfl
    rw [continueSlot_stays (by rw [hpsc]; exact hslot) (by simpa only [MayBackOut, hpsc] using hb), runChain_resumeRun]
    · unfold stepResumed resumed
      simp only [State.setPsc_eng, heng, hpsc, State.setPsc_clock, hclock, State.setPsc_psc, State.setPsc_twice]
      rfl
    · simpa [resumed, heng] using hn
    · simpa [resumed, heng] using hu
    · simpa [resumed, heng] using hl

/-- Settles O52: CONTINUE by PSC state, and by what the level in its slot does. -/
theorem continueResumes : Obligations.ContinueResumes := ⟨continueRuns, continueServesSlot⟩

end Sys2Proof.Machine

/-! PROOFS. A press of the power button: the cleared latch and the override hold timer, whatever the order of the effects. -/

namespace Sys2Proof.Machine

variable {s t u : State} {l : Level} {order : EffectOrder}

/-- The override hold timer as a press starts it (R93). -/
def overrideStarted (s : State) : Option OverrideTimer :=
  some { start := s.clock.tick, duration := duration s.psc.policy0.overrideFor }

theorem startOverride_eq (hi : s.wake.overrideT = none) (hd : s.psc.policy0.overrideFor.value ≠ 0) :
    startOverride s = s.setWake { s.wake with overrideT := overrideStarted s } := by
  unfold startOverride
  rw [if_neg (by simp [hi])]
  exact if_neg (mt duration_eq_zero.1 hd)

/-- The Wake Unit with the button's detector ACTIVE. -/
def withPress (w : Wake) : Wake := { w with det := poke w.det 8 { active := true, count := 0 } }

/-- The Wake Unit with the override hold timer in a state. -/
def withTimer (o : Option OverrideTimer) (w : Wake) : Wake := { w with overrideT := o }

/-- The Wake Unit as a press leaves it: the detector ACTIVE and the timer started. -/
def pressedWake (s : State) : Wake := withTimer (overrideStarted s) (withPress s.wake)

/-- The latch's part of a press, which leads to `g` whatever the Wake Unit holds, and the two others give one state in every
order (R101). -/
theorem activeEffects_press {g : State} (hs : s.eng.due = .nothing) (hg : g.eng.due = .nothing)
    (hguard : ∀ w, runChain (clearLatch (s.setWake w)) = g.setWake w)
    (hpolicy : g.psc.policy0 = s.psc.policy0) (htick : g.clock.tick = s.clock.tick)
    (hmask : (peek s.wake.table 8).mask = 0) (hi : s.wake.overrideT = none) (hd : s.psc.policy0.overrideFor.value ≠ 0) :
    activeEffects 8 order s = g.setWake (pressedWake s) := by
  have hfire (x : State) (w : Wake) (hx : x.eng.due = .nothing) (hw : w.table = s.wake.table) :
      runChain (fireEffect 8 (x.setWake w)) =
        x.setWake (withPress w) := by
    have hmask' : inMask (peek w.table (lineSource 8)).mask w.armed = false := by
      rw [hw]
      exact (congrArg (inMask · w.armed) hmask).trans (inMask_zero _)
    rw [fireEffect_unarmed (s := x.setWake w) hmask']
    exact runChain_of_rest hx
  have htimer (x : State) (w : Wake) (hx : x.eng.due = .nothing) (hw : w.overrideT = none)
      (hp : x.psc.policy0 = s.psc.policy0) (hc : x.clock.tick = s.clock.tick) :
      runChain (timerEffect 8 (x.setWake w)) = x.setWake (withTimer (overrideStarted s) w) := by
    have hstart : timerEffect 8 (x.setWake w) = x.setWake { w with overrideT := overrideStarted (x.setWake w) } :=
      (if_pos rfl).trans (startOverride_eq (s := x.setWake w) hw (by rw [State.setWake_psc, hp]; exact hd))
    have hsame : overrideStarted (x.setWake w) = overrideStarted s := by simp [overrideStarted, hp, hc]
    rw [hstart, hsame]
    exact runChain_of_rest hx
  have hlatch (w : Wake) : runChain (guardEffect 8 (s.setWake w)) = g.setWake w := hguard w
  have hself : activeEffects 8 order s = activeEffects 8 order (s.setWake s.wake) := rfl
  rw [hself]
  unfold activeEffects pressedWake
  have hcomm : withTimer (overrideStarted s) (withPress s.wake) = withPress (withTimer (overrideStarted s) s.wake) := rfl
  cases order with
  | wakeGuardTimer =>
    dsimp only
    rw [hfire s _ hs rfl, hlatch, htimer g (withPress s.wake) hg hi hpolicy htick]
  | wakeTimerGuard =>
    dsimp only
    rw [hfire s _ hs rfl, htimer s (withPress s.wake) hs hi rfl rfl, hlatch]
  | guardWakeTimer =>
    dsimp only
    rw [hlatch, hfire g _ hg rfl, htimer g (withPress s.wake) hg hi hpolicy htick]
  | guardTimerWake =>
    dsimp only
    rw [hlatch, htimer g _ hg hi hpolicy htick, hfire g (withTimer (overrideStarted s) s.wake) hg rfl, hcomm]
  | timerWakeGuard =>
    dsimp only
    rw [htimer s _ hs hi rfl rfl, hfire s (withTimer (overrideStarted s) s.wake) hs rfl, hlatch, hcomm]
  | timerGuardWake =>
    dsimp only
    rw [htimer s _ hs hi rfl rfl, hlatch, hfire g (withTimer (overrideStarted s) s.wake) hg rfl, hcomm]

/-- A press that leads the latch's part to `g`. -/
theorem exec_press {g : State} (hs : AtRest s) (hload : s.psc.state ≠ .loading) (hdue : peek s.boundary.det 8 = true)
    (hmask : (peek s.wake.table 8).mask = 0) (hi : s.wake.overrideT = none) (hd : s.psc.policy0.overrideFor.value ≠ 0)
    (hdet : (peek s.wake.det 8).active = false) (hlevel : s.pins.now.pwrbtn = activeHigh (peek s.wake.table 8).mode)
    (hw : max 1 (peek s.wake.table 8).width.val ≤ (peek s.wake.det 8).count + 1) (hg : g.eng.due = .nothing)
    (hguard : ∀ w, runChain (clearLatch ((lineTaken 8 s).setWake w)) = g.setWake w)
    (hpolicy : g.psc.policy0 = s.psc.policy0) (htick : g.clock.tick = s.clock.tick) :
    exec (.detectorSample 8 order) s = .next (g.setWake (pressedWake (lineTaken 8 s))) := by
  refine exec_detectorSample hs hload hdue ((detectorSample_active order hdet ?_ hw).trans ?_) hg
  · exact decide_eq_true hlevel
  · exact activeEffects_press (s := lineTaken 8 s) hs.2 hg hguard hpolicy htick hmask hi hd

theorem pressInWorking : Claims.PressInWorking := by
  intro order s hs hst hdue _ _ hmask hi hd hdet hlevel hw
  refine (exec_press (g := (lineTaken 8 s).setPsc { s.psc with latch := false }) hs (by simp [hst]) hdue hmask hi hd hdet
    hlevel hw hs.2 (fun w => ?_) rfl rfl).trans rfl
  have hnot : s.psc.state ≠ .suspend ∧ s.psc.state ≠ .hibernate ∧ s.psc.state ≠ .softOff := by simp [hst]
  rw [clearLatch_only (s := (lineTaken 8 s).setWake w) (.inr (.inr (.inr hnot)))]
  exact runChain_of_rest hs.2

theorem pressRetries : Claims.PressRetries := by
  intro order l s hs hst hne hdue hu _ _ hmask hi hd hdet hlevel hw hset
  have hload : s.psc.state ≠ .loading := by
    rw [hst]
    cases l <;> simp [levelState]
  have hpress {g : State} (hg : g.eng.due = .nothing)
      (hguard : ∀ w, runChain (clearLatch ((lineTaken 8 s).setWake w)) = g.setWake w)
      (hpolicy : g.psc.policy0 = s.psc.policy0) (htick : g.clock.tick = s.clock.tick) :=
    exec_press (order := order) hs hload hdue hmask hi hd hdet hlevel hw hg hguard hpolicy htick
  dsimp only
  refine ⟨fun h => ?_, fun hg hq => ⟨fun he => ?_, fun hp => ?_⟩⟩
  · refine (hpress (g := (lineTaken 8 s).setPsc { s.psc with latch := false }) hs.2 (fun w => ?_) rfl rfl).trans rfl
    rw [clearLatch_only (s := (lineTaken 8 s).setWake w) (.inr (h.elim (fun h => .inr (.inl h)) .inl))]
    exact runChain_of_rest hs.2
  · refine (hpress (g := begun l .working ((lineTaken 8 s).setPsc { s.psc with latch := false })) rfl (fun w => ?_) rfl
      rfl).trans rfl
    exact (runChain_clearLatch (s := (lineTaken 8 s).setWake w) hst hne hset hg hq hs.2).1 he hu
  · refine (hpress (g := (refusedBy l .working .unsupported ((lineTaken 8 s).setPsc { s.psc with latch := false })).setPsc
      { s.psc with latch := false, unsupported := true }) hs.2 (fun w => ?_) rfl rfl).trans rfl
    exact (runChain_clearLatch (s := (lineTaken 8 s).setWake w) hst hne hset hg hq hs.2).2 hp

/-- Settles O24: the latch's part does not read the Wake Unit, so the order of the three effects does not matter. -/
theorem buttonPress : Obligations.ButtonPress := ⟨pressInWorking, pressRetries⟩

end Sys2Proof.Machine

/-! PROOFS. WRITE_TABLE: the checks of a record, its storing and what it sets going. -/

namespace Sys2Proof.Machine

variable {s t u : State} {tab : Table} {f : Frame} {tid index : Byte} {bs : List Byte} {c : Checked} {q : Level}
  {src : Fin 9} {x : WakeSource}

/-! ## The checks of a write (R152, R155) -/

theorem writeAct_eq (ht : tableOf tid.toNat = some tab) (hlen : bs.length = recLen tab)
    (hi : indexOk tab index.toNat = true) : writeAct tab (3 :: tid :: index :: bs) s =
      if windowOpen tab s = false then deny .busy s
      else (checkRecord s tab index.toNat bs).elim (deny .range s) fun c =>
        if railBusy c s then deny .busy s
        else { status := if c.clamped then .adjusted else .ok, data := [], state := applyWrite c s } := by
  have htab : tableOf (byteAt (3 :: tid :: index :: bs) 1).toNat = some tab := ht
  have hidx : indexOk tab (byteAt (3 :: tid :: index :: bs) 2).toNat = true := hi
  have hn : (3 :: tid :: index :: bs).length = 3 + recLen tab := by
    rw [List.length_cons, List.length_cons, List.length_cons, hlen]
    omega
  unfold writeAct
  dsimp only
  have hpass : ¬(decide (tableOf (byteAt (3 :: tid :: index :: bs) 1).toNat ≠ some tab) ||
      decide ((3 :: tid :: index :: bs).length ≠ 3 + recLen tab) ||
      !indexOk tab (byteAt (3 :: tid :: index :: bs) 2).toNat) = true := by
    rw [htab, hidx, hn]
    simp
  rw [if_neg hpass]
  simp only [Bool.not_eq_true']
  split
  · rfl
  · show _ = Option.elim (checkRecord s tab (byteAt (3 :: tid :: index :: bs) 2).toNat ((3 :: tid :: index :: bs).drop 3)) _ _
    cases checkRecord s tab (byteAt (3 :: tid :: index :: bs) 2).toNat ((3 :: tid :: index :: bs).drop 3) <;> rfl

/-- What a record's checks read stays as the classifier takes the request (R117, R156). -/
theorem checkRecord_taken (p : Port) (i : Nat) : checkRecord (taken p s) tab i bs = checkRecord s tab i bs := by
  have hmap : (taken p s).wire.map = s.wire.map := by simp [taken]
  have hpsc : (taken p s).psc = s.psc := (taken_fields p s).1
  cases tab <;> simp only [checkRecord, checkWire, checkPolicy, hmap, hpsc]

/-- The access window, by table (R155). -/
theorem windowOpen_iff : windowOpen tab s = true ↔ tab = .wakesrc ∨ s.psc.state = .working ∨ s.psc.state = .suspend ∨
    s.psc.state = .hibernate ∨ s.psc.state = .softOff := by
  simp only [windowOpen, Bool.or_eq_true, decide_eq_true_eq, inLevelState_iff]

theorem writeAct_open (ht : tableOf tid.toNat = some tab) (hlen : bs.length = recLen tab)
    (hi : indexOk tab index.toNat = true) (hw : windowOpen tab s = true) : writeAct tab (3 :: tid :: index :: bs) (taken .hub s) =
    (checkRecord s tab index.toNat bs).elim (deny .range (taken .hub s)) fun c =>
      if railBusy c (taken .hub s) then deny .busy (taken .hub s)
      else { status := if c.clamped then .adjusted else .ok, data := [], state := applyWrite c (taken .hub s) } := by
  have hopen : windowOpen tab (taken .hub s) = true := by
    simpa [windowOpen, inLevelState, (taken_fields .hub s).1] using hw
  rw [writeAct_eq ht hlen hi, if_neg (by simp [hopen]), checkRecord_taken]

section
variable (hr : Requests s .hub f) (hp : f.payload = 3 :: tid :: index :: bs) (ht : tableOf tid.toNat = some tab)
  (hlen : bs.length = recLen tab) (hi : indexOk tab index.toNat = true) (hl : s.psc.state ≠ .loading)
include hr hp ht hlen hi hl

omit hlen hi in
/-- A write that is answered by `a` and leads to `u`. -/
theorem serve_write {a : Answer} (ha : writeAct tab (3 :: tid :: index :: bs) (taken .hub s) = a)
    (hu : runChain a.state = u) (hd : u.eng.due = .nothing) :
    serve (writesTo tab) (writeAct tab) s = .next (answered .hub f (byteOf (statusCode a.status)) a.data u) := by
  refine serve_eq hr ?_ ?_ ?_ hu hd
  · rw [hp]
    rfl
  · rw [hp, writesTo_cons, ht]
    exact decide_eq_true rfl
  · rw [guarded_act (by rw [(taken_fields .hub s).1]; exact hl) (.inl rfl), hp, ha]

omit hlen hi in
theorem serve_writeDenied {st : Status} (ha : writeAct tab (3 :: tid :: index :: bs) (taken .hub s) = deny st (taken .hub s)) :
    serve (writesTo tab) (writeAct tab) s = .next (answered .hub f (byteOf (statusCode st)) [] (taken .hub s)) :=
  have hrest : (taken .hub s).eng.due = .nothing := taken_rest hr.1.1
  serve_write hr hp ht hl ha (runChain_of_rest hrest) hrest

theorem serve_writeClosed (hw : windowOpen tab s = false) :
    serve (writesTo tab) (writeAct tab) s = .next (answered .hub f 2 [] (taken .hub s)) := by
  refine serve_writeDenied (st := .busy) hr hp ht hl ?_
  rw [writeAct_eq ht hlen hi]
  refine if_pos ?_
  simpa [windowOpen, inLevelState, (taken_fields .hub s).1] using hw

variable (hw : windowOpen tab s = true)
include hw

theorem serve_writeRange (hc : checkRecord s tab index.toNat bs = none) :
    serve (writesTo tab) (writeAct tab) s = .next (answered .hub f 3 [] (taken .hub s)) := by
  refine serve_writeDenied (st := .range) hr hp ht hl ?_
  rw [writeAct_open ht hlen hi hw, hc]
  rfl

variable (hc : checkRecord s tab index.toNat bs = some c)
include hc

theorem serve_writeBusy (hb : railBusy c (taken .hub s) = true) :
    serve (writesTo tab) (writeAct tab) s = .next (answered .hub f 2 [] (taken .hub s)) := by
  refine serve_writeDenied (st := .busy) hr hp ht hl ?_
  rw [writeAct_open ht hlen hi hw, hc]
  exact if_pos hb

/-- An accepted record is stored with its effects, and answered OK, or ADJUSTED where it was clamped (R155). -/
theorem serve_writeDone (hb : railBusy c (taken .hub s) = false) (hu : runChain (applyWrite c (taken .hub s)) = u)
    (hd : u.eng.due = .nothing) : serve (writesTo tab) (writeAct tab) s =
      .next (answered .hub f (if c.clamped then 1 else 0) [] u) := by
  have hact : writeAct tab (3 :: tid :: index :: bs) (taken .hub s) =
      { status := if c.clamped then .adjusted else .ok, data := [], state := applyWrite c (taken .hub s) } := by
    rw [writeAct_open ht hlen hi hw, hc]
    exact if_neg (by simp [hb])
  rw [serve_write hr hp ht hl hact hu hd]
  cases c.clamped <;> rfl

end

/-! ## What a stored record sets going -/

/-- A source without a detector is only stored, as is one whose electrical sense and arming stay (R99). -/
theorem wakeWritten_stored {src : Fin 14} {old new : WakeSource} (h : 9 ≤ src.val ∨ activeHigh old.mode = activeHigh new.mode ∧
    (old.mask.getLsbD (levelCode s.wake.armed).val = true ∨ new.mask.getLsbD (levelCode s.wake.armed).val = false ∨
      new.mode = .rise ∨ new.mode = .fall)) : wakeWritten src old new s = s := by
  unfold wakeWritten
  split
  next hlt =>
    obtain h | ⟨hsense, harm⟩ := h
    · omega
    · have hresense : resense ⟨src.val, hlt⟩ old new s = s := if_pos hsense
      rw [hresense]
      refine if_neg ?_
      rcases harm with h | h | h | h
      · simp [show inMask old.mask s.wake.armed = true from h]
      · simp [show inMask new.mask s.wake.armed = false from h]
      · simp [h, levelMode]
      · simp [h, levelMode]
  · rfl

/-- A RAIL record as it is stored: the counts at 0 and the millivolts kept only for MONITORED (R56). -/
theorem applyWrite_rail (slot : Fin 16) (r : RailRec) (b : Bool) (s : State) :
    applyWrite (.rail slot r b) s = s.setRails
      { s.rails with
        table := poke s.rails.table slot r,
        stat := poke s.rails.stat slot (rewrittenStat r (peek s.rails.stat slot)) } := rfl

/-- A Policy record 0 as it is stored: a change of the Requested Level is taken as a request event (R3, R4). -/
theorem applyWrite_policy0 (x : Policy0) (b : Bool) (s : State) : applyWrite (.policy0 x b) s =
    if requestedOf x s.wire.level = requested s then s.setPsc { s.psc with policy0 := x }
    else requestEvent (requestedOf x s.wire.level) (s.setPsc { s.psc with policy0 := x }) := rfl

theorem requested_taken (s : State) : requested (taken .hub s) = requested s := by
  obtain ⟨hpsc, -, -, hlevel⟩ := taken_fields .hub s
  rw [requested, hpsc, hlevel]
  rfl

theorem requestedOf_taken (x : Policy0) : requestedOf x (taken .hub s).wire.level = requestedOf x s.wire.level := by
  rw [(taken_fields .hub s).2.2.2]

theorem recordWrites : Claims.RecordWrites := by
  intro c t tid index bs f s hc ht hr hp hlen hi hl
  obtain ⟨-, t', ht', hexec⟩ | ⟨h, -⟩ := exec_requestCodes hc
  swap
  · cases h
  obtain rfl := Option.some.inj (ht.symm.trans ht')
  have hwindow := windowOpen_iff (tab := t) (s := s)
  dsimp only
  rw [hexec]
  refine ⟨fun hnot hne => ?_, fun hw hbad => ?_, fun r hw hok => ?_⟩
  · refine serve_writeClosed hr hp ht hlen hi hl ?_
    rw [← Bool.not_eq_true, hwindow]
    exact fun h => h.elim hne hnot
  · exact serve_writeRange hr hp ht hlen hi hl (hwindow.2 hw.symm) hbad
  · have hstores {u : State} (hb : railBusy r (taken .hub s) = false) (hu : applyWrite r (taken .hub s) = u)
        (hd : u.eng.due = .nothing) :
        serve (writesTo t) (writeAct t) s = .next (answered .hub f (if r.clamped then 1 else 0) [] u) :=
      serve_writeDone hr hp ht hlen hi hl (hwindow.2 hw.symm) hok hb (hu ▸ runChain_of_rest (hu ▸ hd)) hd
    have hrest : (taken .hub s).eng.due = .nothing := taken_rest hr.1.1
    obtain ⟨hpsc, heng, -, hlevel⟩ := taken_fields .hub s
    cases r with
    | rail slot x b =>
      refine ⟨fun hv => serve_writeBusy hr hp ht hlen hi hl (hwindow.2 hw.symm) hok ?_, fun hv => hstores ?_ rfl hrest⟩
      · exact decide_eq_true (by simpa [taken] using hv)
      · exact decide_eq_false (by simpa [taken] using hv)
    | step i x => exact hstores rfl (by simp [applyWrite, putRecord, heng]) hr.1.1.2
    | trans i x => exact hstores rfl (by simp [applyWrite, putRecord, hpsc]) hrest
    | wire w x => exact hstores rfl (by simp [applyWrite, putRecord, taken]) hrest
    | wake src x =>
      intro hquiet
      have hwake : (taken .hub s).wake = s.wake := by simp [taken]
      refine hstores rfl ?_ hrest
      show wakeWritten src (peek (taken .hub s).wake.table src) x (putRecord (.wake src x) (taken .hub s)) = _
      rw [wakeWritten_stored]
      · simp [putRecord, hwake]
      · simpa [putRecord, hwake] using hquiet
    | policy0 x b =>
      intro hsame
      refine hstores rfl ?_ hrest
      rw [applyWrite_policy0, if_pos ((requestedOf_taken x).trans (hsame.trans (requested_taken s).symm)), hpsc]
    | policy1 x => exact hstores rfl (by simp [applyWrite, putRecord, hpsc]) hrest

/-! ## What a WAKESRC write sets going (R99, R103) -/

/-- A detector of a line source set afresh, or left, by the electrical sense of a write (R99). -/
def resensed (n : Fin 9) (old new : WakeSource) (s : State) : Detector :=
  if activeHigh old.mode ≠ activeHigh new.mode then
    { active := decide (peek s.wake.sample n = activeHigh new.mode), count := 0 }
  else peek s.wake.det n

theorem resense_eq (n : Fin 9) (old new : WakeSource) (s : State) : resense n old new s = s.setWake
    { s.wake with
      det := poke s.wake.det n (resensed n old new s),
      overrideT := if activeHigh old.mode ≠ activeHigh new.mode ∧ n.val = 8 ∧ (resensed n old new s).active = false then none
        else s.wake.overrideT } := by
  unfold resense resensed
  by_cases h : activeHigh old.mode = activeHigh new.mode
  · rw [if_pos h, if_neg (by simp [h]), if_neg (by simp [h]), poke_of_peek rfl]
    rfl
  · rw [if_neg h, if_pos h]
    dsimp only
    by_cases hoff : n.val = 8 ∧ decide (peek s.wake.sample n = activeHigh new.mode) = false
    · rw [if_pos (by exact hoff), if_pos ⟨h, hoff⟩]
      rfl
    · rw [if_neg (by exact hoff), if_neg (fun hc => hoff hc.2)]
      rfl

/-- A write that arms a level-mode source whose detector is ACTIVE fires it (R99, R103). -/
theorem rearm_eq {old new : WakeSource} (hoff : SlotsOffered s) (hnew : peek s.wake.table (lineSource src) = new) :
    rearm src old new s =
      if old.mask.getLsbD (levelCode s.wake.armed).val = false ∧ new.mask.getLsbD (levelCode s.wake.armed).val = true ∧
        (new.mode = .high ∨ new.mode = .low) ∧ (peek s.wake.det src).active = true then fired (lineSource src) s
      else s := by
  unfold rearm
  split
  next h =>
    simp only [Bool.and_eq_true, Bool.not_eq_true', levelMode_iff, and_assoc] at h
    obtain ⟨hold, hmask, hmode, hactive⟩ := h
    rw [if_pos ⟨hold, hmask, hmode, hactive⟩, takeFire_eq _ hoff (by rw [hnew]; exact hmask)]
  next h =>
    simp only [Bool.and_eq_true, Bool.not_eq_true', levelMode_iff, and_assoc] at h
    exact (if_neg h).symm

/-- A WAKESRC record of a line source as it is stored. -/
theorem applyWrite_wake (src : Fin 9) (x : WakeSource) (s : State) : applyWrite (.wake (lineSource src) x) s =
    rearm src (peek s.wake.table (lineSource src)) x (resense src (peek s.wake.table (lineSource src)) x
      (s.setWake { s.wake with table := poke s.wake.table (lineSource src) x })) :=
  dif_pos (show src.val < 9 from src.isLt)

theorem slotsOffered_taken (hr : Requests s .hub f) : SlotsOffered (taken .hub s) := by
  obtain ⟨⟨-, -, hk, hh, hb⟩, -⟩ := hr
  exact .inr ⟨by simpa [taken] using hk, .inl (by simpa [taken] using hh), .inl (by simpa [taken] using hb)⟩

theorem wakeSourceWrites : Claims.WakeSourceWrites := by
  intro src index bs x f s hr hp hlen hi hl hc
  dsimp only
  have hwake : (taken .hub s).wake = s.wake := by simp [taken]
  generalize ht : (taken .hub s).setWake _ = t
  have hidx : indexOk .wakesrc index.toNat = true := decide_eq_true (by have := src.isLt; omega)
  have hresense : resense src (peek s.wake.table (lineSource src)) x
      ((taken .hub s).setWake { s.wake with table := poke s.wake.table (lineSource src) x }) = t := by
    rw [resense_eq, ← ht]
    rfl
  have htable : peek t.wake.table (lineSource src) = x := by
    rw [← ht]
    exact peek_poke_self ..
  have hdet : peek t.wake.det src = resensed src (peek s.wake.table (lineSource src)) x s := by
    rw [← ht]
    exact peek_poke_self ..
  have harmed : t.wake.armed = s.wake.armed := by rw [← ht]; rfl
  have hoff : SlotsOffered t := by
    rw [← ht]
    exact slotsOffered_of_same (slotsOffered_taken hr) rfl rfl rfl rfl
  have hrest : t.eng.due = .nothing := by
    rw [← ht]
    exact taken_rest hr.1.1
  have hrearm := rearm_eq (old := peek s.wake.table (lineSource src)) hoff htable
  rw [hdet, harmed] at hrearm
  have hdone : (rearm src (peek s.wake.table (lineSource src)) x t).eng.due = .nothing := by
    rw [hrearm]
    split
    · rw [(fired_frame _ _).2]
      exact hrest
    · exact hrest
  have happly : applyWrite (.wake (lineSource src) x) (taken .hub s) = rearm src (peek s.wake.table (lineSource src)) x t := by
    rw [applyWrite_wake, hwake, hresense]
  refine (serve_writeDone (tab := .wakesrc) hr hp rfl hlen hidx hl (windowOpen_iff.2 (.inl rfl)) hc rfl
    (by rw [happly]; exact runChain_of_rest hdone) hdone).trans ?_
  rw [hrearm]
  rfl

/-! ## What a Policy write sets going (R3, R4) -/

theorem requestTaken_mono {a b : State → Prop} (h : RequestTaken q s a) (hab : ∀ u, a u → b u) : RequestTaken q s b := by
  obtain ⟨hslot, htarget, hback, hlevel⟩ := h
  refine ⟨fun h => hab _ (hslot h), fun h h' => hab _ (htarget h h'),
    fun h1 h2 h3 h4 h5 h6 => hab _ (hback h1 h2 h3 h4 h5 h6), fun l hs => ?_⟩
  obtain ⟨h1, h2, h3, h4, h5⟩ := hlevel l hs
  exact ⟨fun a b => hab _ (h1 a b), fun a b => hab _ (h2 a b), fun a b c d => hab _ (h3 a b c d),
    fun a b c d => hab _ (h4 a b c d), fun a b c d e => hab _ (h5 a b c d e)⟩

theorem runChain_requestEvent_rest (hd : s.eng.due = .nothing) : (runChain (requestEvent q s)).eng.due = .nothing :=
  runChain_rest ((keeps_requestEvent (.refl s)).calm fun e he => by rw [hd] at he; cases he)

theorem policyRequests : Claims.PolicyRequests := by
  intro bs x clamped f s hr hp hlen hc hin q hq
  have hl : s.psc.state ≠ .loading := by rcases hin with h | h | h | h <;> simp [h]
  have hpsc : (taken .hub s).psc = s.psc := (taken_fields .hub s).1
  have hrest : ((taken .hub s).setPsc { s.psc with policy0 := x }).eng.due = .nothing := taken_rest hr.1.1
  refine requestTaken_mono (requestTaken _ hrest) fun u hu => ?_
  refine serve_writeDone (tab := .policy) hr hp rfl hlen rfl hl (windowOpen_iff.2 (.inr hin)) hc rfl ?_
    (hu ▸ runChain_requestEvent_rest hrest)
  rw [applyWrite_policy0, if_neg, hpsc, requestedOf_taken, hu]
  rwa [requestedOf_taken, requested_taken]

end Sys2Proof.Machine

/-! PROOFS. When a record fails its checks, byte by byte, and the clamps of Policy record 0. -/

namespace Sys2Proof.Machine

variable {s : State} {bs : List Byte} {n i k : Nat}

theorem unitOf_none : unitOf n = none ↔ 3 ≤ n := List.getElem?_eq_none_iff
theorem kindOf_none : kindOf n = none ↔ 15 ≤ n := List.getElem?_eq_none_iff
theorem wireActionOf_none : wireActionOf n = none ↔ 5 ≤ n := List.getElem?_eq_none_iff
theorem detectOf_none : detectOf n = none ↔ 4 ≤ n := List.getElem?_eq_none_iff
theorem restoreOf_none : restoreOf n = none ↔ 3 ≤ n := List.getElem?_eq_none_iff

/-- A time field has an unknown unit where bits 5 and 4 of its upper byte are both set (R129). -/
theorem decodeTime_none : decodeTime (wordAt bs k) = none ↔ (byteAt bs (k + 1)).toNat / 16 % 4 = 3 := by
  have hword : wordAt bs k = (byteAt bs k).toNat + 256 * (byteAt bs (k + 1)).toNat := rfl
  have hlow := (byteAt bs k).isLt
  unfold decodeTime
  rw [Option.map_eq_none_iff, unitOf_none, hword]
  omega

/-- A sense group fails by its kind, its line or its times (R56). -/
theorem decodeSense_none : decodeSense bs = none ↔
    (byteAt bs 0).toNat / 8 % 4 = 3 ∨ ((byteAt bs 0).toNat / 8 % 4 = 0 ∧ 11 < (byteAt bs 2).toNat % 16) ∨
      ((byteAt bs 0).toNat / 8 % 4 = 1 ∧ 7 < (byteAt bs 2).toNat % 16) ∨
      ((byteAt bs 0).toNat / 8 % 4 = 2 ∧
        ((byteAt bs 4).toNat / 16 % 4 = 3 ∨ (byteAt bs 6).toNat / 16 % 4 = 3)) := by
  have hkind : field (byteAt bs 0) 3 2 = (byteAt bs 0).toNat / 8 % 4 := rfl
  have hline : field (byteAt bs 2) 0 4 = (byteAt bs 2).toNat % 16 := field_low _
  unfold decodeSense
  dsimp only
  rw [hkind, hline]
  have hlt : (byteAt bs 0).toNat / 8 % 4 < 4 := Nat.mod_lt _ (by decide)
  generalize (byteAt bs 0).toNat / 8 % 4 = kind at hlt ⊢
  interval_cases kind
  · by_cases h : 11 < (byteAt bs 2).toNat % 16 <;> simp [h]
  · by_cases h : 7 < (byteAt bs 2).toNat % 16 <;> simp [h]
  · rw [← decodeTime_none (k := 3), ← decodeTime_none (k := 5)]
    cases decodeTime (wordAt bs 3) <;> cases decodeTime (wordAt bs 5) <;> simp
  · simp

theorem checkRail_none (hi : i < 16) : checkRecord s .rail i bs = none ↔
    ((byteAt bs 1).getLsbD 7 = true ∧ i ≤ (byteAt bs 1).toNat % 16) ∨ decodeSense bs = none := by
  have hparent : Fin.ofNat 16 i ≤ Fin.ofNat 16 (byteAt bs 1).toNat ↔ i ≤ (byteAt bs 1).toNat % 16 := by
    rw [Fin.le_iff_val_le_val]
    simp [Nat.mod_eq_of_lt hi]
  have hcheck : checkRecord s .rail i bs =
      (decodeRail (Fin.ofNat 16 i) bs).map fun x => .rail (Fin.ofNat 16 i) x.1 x.2 := rfl
  rw [hcheck, Option.map_eq_none_iff, decodeRail, Option.map_eq_none_iff, ← hparent]
  unfold decodeRailRaw
  dsimp only
  by_cases h : (byteAt bs 1).getLsbD 7 = true ∧ Fin.ofNat 16 i ≤ Fin.ofNat 16 (byteAt bs 1).toNat
  · exact iff_of_true (if_pos (by simpa [optOf] using h)) (.inl h)
  · rw [if_neg (by simpa [optOf] using h), Option.map_eq_none_iff, or_iff_right h]

/-! ## Step records -/

theorem decodeStep_none : decodeStep bs = none ↔ kindOf (field (byteAt bs 0) 0 4) = none ∨
    (∃ k, kindOf (field (byteAt bs 0) 0 4) = some k ∧ opALimit k < (byteAt bs 1).toNat) ∨ 1 < (byteAt bs 2).toNat ∨
      3 < (byteAt bs 3).toNat ∨ decodeTime (wordAt bs 4) = none := by
  unfold decodeStep
  cases kindOf (field (byteAt bs 0) 0 4) with
  | none => simp
  | some k =>
    cases decodeTime (wordAt bs 4) with
    | none => simp
    | some t => simp [or_iff_not_imp_left]

/-- The kinds whose operand A is out of its range (R24). -/
theorem opA_outOfRange {a : Nat} (hn : n < 16) : (kindOf n = none ∨ ∃ k, kindOf n = some k ∧ opALimit k < a) ↔
    n = 15 ∨ (n ∈ [1, 2, 3, 4] ∧ 15 < a) ∨ (n ∈ [6, 7, 8] ∧ 7 < a) ∨ (n = 13 ∧ 3 < a) ∨ 63 < a ∧ n ≠ 15 := by
  interval_cases n <;> simp [kindOf, opALimit] <;> omega

theorem checkStep_none : checkRecord s .step i bs = none ↔
    (byteAt bs 0).toNat % 16 = 15 ∨ ((byteAt bs 0).toNat % 16 ∈ [1, 2, 3, 4] ∧ 15 < (byteAt bs 1).toNat) ∨
      ((byteAt bs 0).toNat % 16 ∈ [6, 7, 8] ∧ 7 < (byteAt bs 1).toNat) ∨
      ((byteAt bs 0).toNat % 16 = 13 ∧ 3 < (byteAt bs 1).toNat) ∨ 63 < (byteAt bs 1).toNat ∨ 1 < (byteAt bs 2).toNat ∨
      3 < (byteAt bs 3).toNat ∨ (byteAt bs 5).toNat / 16 % 4 = 3 := by
  have hcheck : checkRecord s .step i bs = (decodeStep bs).map (.step (Fin.ofNat 256 i)) := rfl
  have hlow : field (byteAt bs 0) 0 4 = (byteAt bs 0).toNat % 16 := field_low _
  rw [hcheck, Option.map_eq_none_iff, decodeStep_none, ← or_assoc, hlow, opA_outOfRange (Nat.mod_lt _ (by decide)),
    decodeTime_none]
  tauto

/-! ## Wire Map and Wake Source Table records -/

theorem requestWireOk_iff {e : WireEntry} : requestWireOk e = true ↔
    e.dir = .down ∧ (e.action = .track ∨ e.action = .hold ∨ e.action = .consume) := by
  simp [requestWireOk, or_assoc]

theorem offNoticeOk_iff {e : WireEntry} : offNoticeOk e = true ↔ e.action = .own ∧ e.dir = .up := by simp [offNoticeOk]

/-- What the Policy asks of an entry of the Wire Map (R5, R117). -/
theorem wireWriteOk_iff {p : Policy0} {w : Fin 64} {e : WireEntry} : wireWriteOk p w e = true ↔
    (w ∈ [p.reqSusp, p.reqHib, p.reqOff] → requestWireOk e = true) ∧
      (p.offNotice.present = true → w = p.offNotice.value → offNoticeOk e = true) := by
  have hreq : isRequestWire p w = true ↔ w ∈ [p.reqSusp, p.reqHib, p.reqOff] := by simp [isRequestWire, or_assoc]
  unfold wireWriteOk
  rw [← hreq]
  cases isRequestWire p w <;> cases p.offNotice.present <;> by_cases hw : w = p.offNotice.value <;> simp [hw]

theorem checkWire_none {w : Fin 64} : checkWire s w bs = none ↔
    decodeWire bs = none ∨ ∃ e, decodeWire bs = some e ∧ wireWriteOk s.psc.policy0 w e = false := by
  unfold checkWire
  cases decodeWire bs with
  | none => simp
  | some e => simp

theorem requestWireOk_code {e : WireEntry} : requestWireOk e = true ↔
    e.dir = .down ∧ wireActionCode e.action ≠ 0 ∧ wireActionCode e.action ≠ 4 := by
  rw [requestWireOk_iff]
  cases e.action <;> simp [wireActionCode]

theorem offNoticeOk_code {e : WireEntry} : offNoticeOk e = true ↔ wireActionCode e.action = 4 ∧ e.dir = .up := by
  rw [offNoticeOk_iff]
  cases e.action <;> simp [wireActionCode]

theorem decodeWire_none : decodeWire bs = none ↔ 4 < (byteAt bs 0).toNat % 8 := by
  unfold decodeWire
  rw [Option.map_eq_none_iff, wireActionOf_none, field_three]
  omega

/-- A WIREMAP record is refused for its action, or for what the Policy asks of the wire (R5, R117). -/
theorem checkWire_ranges {w : Fin 64} : checkWire s w bs = none ↔
    4 < (byteAt bs 0).toNat % 8 ∨
      (w ∈ [s.psc.policy0.reqSusp, s.psc.policy0.reqHib, s.psc.policy0.reqOff] ∧
        ((byteAt bs 0).getLsbD 3 = true ∨ (byteAt bs 0).toNat % 8 = 0 ∨ (byteAt bs 0).toNat % 8 = 4)) ∨
      (s.psc.policy0.offNotice.present = true ∧ w = s.psc.policy0.offNotice.value ∧
        ((byteAt bs 0).getLsbD 3 = false ∨ (byteAt bs 0).toNat % 8 ≠ 4)) := by
  rw [checkWire_none, decodeWire_none]
  by_cases hbad : 4 < (byteAt bs 0).toNat % 8
  · simp [hbad]
  · obtain ⟨e, he⟩ : ∃ e, decodeWire bs = some e := Option.ne_none_iff_exists'.1 (mt decodeWire_none.1 hbad)
    obtain ⟨hcode, hdir, -⟩ := wireAt_iff.1 (decodeWire_iff.1 he)
    have hdown : e.dir = .down ↔ (byteAt bs 0).getLsbD 3 = false := by
      rw [hdir]
      cases e.dir <;> simp
    have hup : e.dir = .up ↔ ¬(byteAt bs 0).getLsbD 3 = false := by
      rw [hdir]
      cases e.dir <;> simp
    have hread : (∃ x, decodeWire bs = some x ∧ wireWriteOk s.psc.policy0 w x = false) ↔
        wireWriteOk s.psc.policy0 w e = false := by simp [he]
    rw [hread, ← Bool.not_eq_true, wireWriteOk_iff, requestWireOk_code, offNoticeOk_code, ← hcode, hdown, hup,
      ← Bool.not_eq_false ((byteAt bs 0).getLsbD 3)]
    tauto

theorem checkWake_none : checkRecord s .wakesrc i bs = none ↔ 3 < (byteAt bs 1).toNat % 8 := by
  have hcheck : checkRecord s .wakesrc i bs = (decodeWake bs).map (.wake (Fin.ofNat 14 i)) := rfl
  rw [hcheck, Option.map_eq_none_iff, decodeWake, Option.map_eq_none_iff, detectOf_none, field_three]
  omega

/-! ## Policy records -/

theorem decodePolicy0_none : decodePolicy0 bs = none ↔
    63 < (byteAt bs 0).toNat ∨ 63 < (byteAt bs 1).toNat ∨ 63 < (byteAt bs 2).toNat ∨
      ((byteAt bs 4).getLsbD 7 = true ∧ 7 < (byteAt bs 4).toNat % 16) ∨ (byteAt bs 4).toNat / 16 % 4 = 3 ∨
      (byteAt bs 6).toNat / 16 % 4 = 3 := by
  have hfield : field (byteAt bs 4) 4 2 = (byteAt bs 4).toNat / 16 % 4 := rfl
  have hrestore : restoreOf ((byteAt bs 4).toNat / 16 % 4) = none ↔ (byteAt bs 4).toNat / 16 % 4 = 3 := by
    rw [restoreOf_none]
    omega
  rw [← hrestore, ← decodeTime_none (k := 5)]
  unfold decodePolicy0
  rw [hfield]
  cases restoreOf ((byteAt bs 4).toNat / 16 % 4) with
  | none => simp
  | some r =>
    cases decodeTime (wordAt bs 5) with
    | none => simp
    | some t => simp [optOf, or_iff_not_imp_left]

/-- What Policy record 0 asks of its wires, against the Wire Map (R3, R5). -/
theorem policyWiresOk_iff {map : Vector WireEntry 64} {p : Policy0} : policyWiresOk map p = true ↔
    p.reqSusp ≠ p.reqHib ∧ p.reqSusp ≠ p.reqOff ∧ p.reqHib ≠ p.reqOff ∧ requestWireOk (peek map p.reqSusp) = true ∧
      requestWireOk (peek map p.reqHib) = true ∧ requestWireOk (peek map p.reqOff) = true ∧
      (p.offNotice.present = true → offNoticeOk (peek map p.offNotice.value) = true) := by
  unfold policyWiresOk
  cases p.offNotice.present <;> simp [and_assoc]

theorem checkPolicy0_none : checkRecord s .policy 0 bs = none ↔
    decodePolicy0 bs = none ∨ ∃ p c, decodePolicy0 bs = some (p, c) ∧ ¬policyWiresOk s.wire.map p = true := by
  have hcheck : checkRecord s .policy 0 bs = checkPolicy s 0 bs := rfl
  rw [hcheck]
  unfold checkPolicy
  rw [if_pos rfl]
  cases decodePolicy0 bs with
  | none => simp
  | some x =>
    obtain ⟨p, c⟩ := x
    by_cases h : policyWiresOk s.wire.map p = true <;> simp [h]

/-- The disjuncts about single fields before those about wires. -/
theorem or_regroup {a b c d e f u v w x y z l : Prop} : (a ∨ b ∨ c ∨ u ∨ v ∨ w ∨ x ∨ y ∨ z ∨ l ∨ d ∨ e ∨ f) ↔
    (a ∨ b ∨ c ∨ d ∨ e ∨ f) ∨ (u ∨ v ∨ w ∨ x ∨ y ∨ z ∨ l) := by
  simp only [or_comm, or_left_comm]

/-- The wires of a Policy record 0 that is read, by the bytes that name them. -/
theorem policyWires_bad {p : Policy0} {c : Bool} {map : Vector WireEntry 64} (h : decodePolicy0 bs = some (p, c)) :
    let n (k : Nat) : Nat := (byteAt bs k).toNat
    let entry (k : Nat) : WireEntry := peek map (Fin.ofNat 64 (n k))
    ¬policyWiresOk map p = true ↔
      n 0 = n 1 ∨ n 0 = n 2 ∨ n 1 = n 2 ∨ ¬requestWireOk (entry 0) = true ∨ ¬requestWireOk (entry 1) = true ∨
        ¬requestWireOk (entry 2) = true ∨ ((byteAt bs 3).getLsbD 7 = true ∧ ¬offNoticeOk (entry 3) = true) := by
  obtain ⟨hat, -⟩ := decodePolicy0_iff.1 h
  obtain ⟨⟨hS, hH, hO⟩, ⟨hpresent, hvalue⟩, -⟩ := policyAt_iff.1 hat
  have hfin {k : Nat} {x : Fin 64} (hk : (byteAt bs k).toNat = x.val) : Fin.ofNat 64 (byteAt bs k).toNat = x := by
    rw [ofNat_eq_iff, hk]
    exact Nat.mod_eq_of_lt x.isLt
  have hnotice : Fin.ofNat 64 (byteAt bs 3).toNat = p.offNotice.value := ofNat_eq_iff.2 hvalue
  dsimp only
  rw [hfin hS, hfin hH, hfin hO, hnotice, hS, hH, hO, hpresent, policyWiresOk_iff, ← Fin.ext_iff, ← Fin.ext_iff,
    ← Fin.ext_iff]
  simp only [not_and_or, not_not, Classical.not_imp]

theorem checkPolicy0_ranges : checkRecord s .policy 0 bs = none ↔
    (63 < (byteAt bs 0).toNat ∨ 63 < (byteAt bs 1).toNat ∨ 63 < (byteAt bs 2).toNat ∨
      ((byteAt bs 4).getLsbD 7 = true ∧ 7 < (byteAt bs 4).toNat % 16) ∨ (byteAt bs 4).toNat / 16 % 4 = 3 ∨
      (byteAt bs 6).toNat / 16 % 4 = 3) ∨
    let n (k : Nat) : Nat := (byteAt bs k).toNat
    let entry (k : Nat) : WireEntry := peek s.wire.map (Fin.ofNat 64 (n k))
    n 0 = n 1 ∨ n 0 = n 2 ∨ n 1 = n 2 ∨ ¬requestWireOk (entry 0) = true ∨ ¬requestWireOk (entry 1) = true ∨
      ¬requestWireOk (entry 2) = true ∨ ((byteAt bs 3).getLsbD 7 = true ∧ ¬offNoticeOk (entry 3) = true) := by
  rw [checkPolicy0_none, ← decodePolicy0_none]
  refine or_congr_right' fun hsome => ?_
  obtain ⟨⟨p, c⟩, h⟩ := Option.ne_none_iff_exists'.1 hsome
  refine Iff.trans ?_ (policyWires_bad h)
  simp [h]

theorem recordRanges : Claims.RecordRanges := by
  intro s i bs
  dsimp only
  refine ⟨fun hi => ?_, checkStep_none, by simp [checkRecord], fun hi => checkWire_ranges, checkWake_none, ?_,
    by simp [checkRecord, checkPolicy]⟩
  · rw [checkRail_none hi, decodeSense_none]
  · rw [checkPolicy0_ranges]
    dsimp only
    rw [requestWireOk_iff, requestWireOk_iff, requestWireOk_iff, offNoticeOk_iff]
    exact or_regroup.symm

/-! ## The clamps of Policy record 0 (R156) -/

theorem clampOverride_eq (t : TimeField) : clampOverride t =
    if 1966080 < t.value.val * unitTicks t.unit then { value := 1920, unit := .t1k } else t := rfl

theorem clampOverride_changes {t : TimeField} : clampOverride t ≠ t ↔ 1966080 < t.value.val * unitTicks t.unit := by
  rw [clampOverride_eq]
  refine ⟨fun h => by_contra fun hle => h (if_neg hle), fun hlong => ?_⟩
  rw [if_pos hlong]
  rintro rfl
  exact absurd hlong (by decide)

theorem policyClamps : Claims.PolicyClamps := by
  intro s bs x clamped t hc ht
  have hdecode : decodePolicy0 bs = some (x, clamped) := by
    have hcheck : checkRecord s .policy 0 bs = checkPolicy s 0 bs := rfl
    rw [hcheck] at hc
    unfold checkPolicy at hc
    rw [if_pos rfl] at hc
    cases hp : decodePolicy0 bs with
    | none => simp [hp] at hc
    | some y =>
      obtain ⟨p, c⟩ := y
      by_cases hw : policyWiresOk s.wire.map p = true
      · simpa [hp, hw] using hc
      · simp [hp, hw] at hc
  obtain ⟨-, -, t', ht', hover, hwidth, hclamped⟩ := decodePolicy0_iff.1 hdecode
  obtain rfl : t' = t := Option.some.inj ((decodeTime_iff.2 ht').symm.trans ht)
  dsimp only
  refine ⟨?_, hover.trans (clampOverride_eq t'), ?_⟩
  · rw [hwidth]
    split <;> omega
  · rw [hclamped, Bool.or_eq_true, decide_eq_true_eq, decide_eq_true_eq, clampOverride_changes]
    exact or_comm

/-- Settles O50: the stored record by table, what it sets going, and when it is refused or clamped. -/
theorem tableWrites : Obligations.TableWrites :=
  ⟨recordWrites, wakeSourceWrites, policyRequests, recordRanges, policyClamps⟩

end Sys2Proof.Machine

/-! PROOFS. Link reset: the frames that its release creates. -/

namespace Sys2Proof.Machine

variable {s t u : State} {p : Port} {f : Internal} {fs gs : List Internal} {l : Link}

/-! ## Frames created one after another (R145, R146) -/

/-- A port once frames have been created at it: in its transmit queue up to its eight slots, and behind the frames that
wait. -/
def filled (fs : List Internal) (l : Link) : Link :=
  { l with
    tx := l.tx ++ (fs.take (8 - l.tx.length)).map frameOf, waiting := l.waiting ++ fs.drop (8 - l.tx.length) }

theorem filled_nil (l : Link) : filled [] l = l := by simp [filled]

theorem filled_room (h : l.tx.length + fs.length ≤ 8) : filled fs l = { l with tx := l.tx ++ fs.map frameOf } := by
  unfold filled
  rw [List.take_of_length_le (by omega), List.drop_of_length_le (by omega), List.append_nil]

theorem filled_full (h : 8 ≤ l.tx.length) : filled fs l = { l with waiting := l.waiting ++ fs } := by
  unfold filled
  rw [Nat.sub_eq_zero_of_le h]
  simp

/-- A port whose slots are offered stays so. -/
theorem portIdle_filled (h : PortIdle l) : PortIdle (filled fs l) := by
  by_cases hlen : l.tx.length + fs.length ≤ 8
  · rw [filled_room hlen]
    exact h.imp_right fun h => by simp; omega
  · right
    simp [filled]
    omega

theorem filled_append : filled (fs ++ gs) l = filled gs (filled fs l) := by
  by_cases hlen : l.tx.length + fs.length ≤ 8
  · rw [filled_room hlen]
    unfold filled
    have h8 : 8 - l.tx.length = fs.length + (8 - (l.tx.length + fs.length)) := by omega
    simp only [List.length_append, List.length_map]
    rw [h8, List.take_length_add_append, List.drop_length_add_append, List.map_append, List.append_assoc]
  · have hfull : 8 ≤ (filled fs l).tx.length := by
      simp [filled]
      omega
    rw [filled_full hfull]
    unfold filled
    rw [List.take_append_of_le_length (by omega), List.drop_append_of_le_length (by omega), List.append_assoc]

/-- A frame created at a port whose slots are offered. -/
theorem createInternal_filled (hf : sentAs f = some (frameOf f)) (h : SlotsOffered s) (hl : s.lrst = false) :
    createInternal p f s = setLink s p (filled [f] (link s p)) := by
  rw [createInternal_eq hf h]
  unfold created
  rw [if_neg (by simp [hl])]
  split
  next ht => rw [filled_room (by simpa using ht)]; rfl
  next ht => rw [filled_full (by omega)]

theorem slotsOffered_filled (h : SlotsOffered s) (hl : s.lrst = false) :
    SlotsOffered (setLink s p (filled fs (link s p))) := by
  obtain hlrst | ⟨hk, hidle⟩ := slotsOffered_iff.1 h
  · simp [hl] at hlrst
  · refine slotsOffered_iff.2 (.inr ⟨by simpa using hk, fun q => ?_⟩)
    obtain rfl | rfl := eq_or_other p q
    · rw [link_setLink_self]
      exact portIdle_filled (hidle _)
    · rw [link_setLink_ne _ _ (other_ne p)]
      exact hidle _

theorem createAll_eq (hf : ∀ f ∈ fs, sentAs f = some (frameOf f)) (h : SlotsOffered s) (hl : s.lrst = false) :
    fs.foldl (fun s f => createInternal p f s) s = setLink s p (filled fs (link s p)) := by
  induction fs generalizing s with
  | nil => rw [filled_nil, setLink_self]; rfl
  | cons f fs ih =>
    rw [List.foldl_cons, createInternal_filled (hf f (by simp)) h hl,
      ih (fun g hg => hf g (List.mem_cons_of_mem _ hg)) (slotsOffered_filled h hl) (by simpa using hl), setLink_setLink,
      link_setLink_self, ← filled_append]
    rfl

/-! ## The queued wakes (R113) -/

theorem noticesWaiting_filled (src : Fin 14) (l : Link) : noticesWaiting (filled [.notice src] l) ≤ noticesWaiting l + 1 := by
  have hone : ([Internal.notice src].drop (8 - l.tx.length)).length ≤ 1 := by simp
  unfold noticesWaiting filled
  rw [List.filter_append, List.length_append]
  exact Nat.add_le_add_left ((List.length_filter_le _ _).trans hone) _

/-- Notices that are few enough for the order to take them are all created. -/
theorem createNotices_eq (es : List WakeEntry) (h : SlotsOffered s) (hl : s.lrst = false)
    (hn : noticesWaiting s.hub + es.length ≤ 16) : es.foldl (fun s e => createNotice e.source s) s =
      (es.map fun e => Internal.notice e.source).foldl (fun s f => createInternal .hub f s) s := by
  induction es generalizing s with
  | nil => rfl
  | cons e es ih =>
    rw [List.length_cons] at hn
    have hfew : ¬Config.noticeLimit ≤ noticesWaiting s.hub := by
      show ¬16 ≤ _
      omega
    have hcreate : createNotice e.source s = createInternal .hub (.notice e.source) s := by
      unfold createNotice
      rw [if_neg (by simp [hl]), if_neg hfew]
    have hfilled := createInternal_filled (p := .hub) (f := .notice e.source) rfl h hl
    have hcount := noticesWaiting_filled e.source s.hub
    rw [List.foldl_cons, List.map_cons, List.foldl_cons, hcreate, ih]
    · rw [hfilled]
      exact slotsOffered_filled h hl
    · rw [hfilled]
      simpa using hl
    · rw [hfilled]
      show noticesWaiting (filled [.notice e.source] s.hub) + _ ≤ _
      omega

/-- The queued wakes that a release of LRST announces (R113). -/
def announced (s : State) : List WakeEntry :=
  if s.psc.state = .suspend ∨ s.psc.state = .hibernate ∨ s.psc.state = .softOff then s.wake.queue else []

theorem reannounce_eq (s : State) :
    reannounce s = (announced s).foldl (fun s e => createNotice e.source s) s := by
  unfold reannounce announced
  cases s.psc.state <;> rfl

/-! ## The OWN wires (R127) -/

/-- The frames in which the OWN wires of a direction are sent again. -/
def ownFrames (s : State) (d : Direction) : List Internal := (packFrames (ownLevels s d)).map .wires

theorem ownLevels_congr {d : Direction} (hm : t.wire.map = s.wire.map) (hl : t.wire.level = s.wire.level) :
    ownLevels t d = ownLevels s d := by
  unfold ownLevels
  rw [hm, hl]

theorem packFrames_length (es : List WireLevel) : (packFrames es).length ≤ 8 := by
  unfold packFrames
  refine (List.length_filter_le _ _).trans ?_
  simp

theorem ownFrames_sentAs {d : Direction} : ∀ f ∈ ownFrames s d, sentAs f = some (frameOf f) := by
  intro f hf
  obtain ⟨es, -, rfl⟩ := List.mem_map.1 hf
  rfl

theorem resendOwn_eq (h : SlotsOffered s) (hl : s.lrst = false) : resendOwn s =
    (s.setHub (filled (ownFrames s .up) s.hub)).setBoard (filled (ownFrames s .down) s.board) := by
  have hfold (p : Port) (es : List (List WireLevel)) (t : State) :
      es.foldl (fun s es => createInternal p (.wires es) s) t =
        (es.map Internal.wires).foldl (fun s f => createInternal p f s) t := by rw [List.foldl_map]
  unfold resendOwn
  dsimp only
  rw [hfold, hfold]
  show (ownFrames s .down).foldl _ ((ownFrames s .up).foldl _ s) = _
  rw [createAll_eq ownFrames_sentAs h hl,
    createAll_eq ownFrames_sentAs (slotsOffered_filled h hl) (by simpa using hl)]
  rfl

theorem reannounce_filled (h : SlotsOffered s) (hl : s.lrst = false)
    (hn : noticesWaiting s.hub + (announced s).length ≤ 16) :
    reannounce s = s.setHub (filled ((announced s).map fun e => .notice e.source) s.hub) := by
  rw [reannounce_eq, createNotices_eq _ h hl hn, createAll_eq _ h hl]
  · rfl
  · intro f hf
    obtain ⟨e, -, rfl⟩ := List.mem_map.1 hf
    rfl

/-! ## The two sets together (R113, R127, R148) -/

theorem releasedFrames_eq (wiresFirst : Bool) (s : State) : releasedFrames wiresFirst s =
    if wiresFirst then ownFrames s .up ++ (announced s).map fun e => .notice e.source
    else (announced s).map (fun e => .notice e.source) ++ ownFrames s .up := by
  unfold releasedFrames announced
  dsimp only
  split <;> split <;> rfl

/-- The OWN wires and the queued wakes, in either order, where no frame waits and the Hub Port sends nothing. -/
theorem resent_eq (wiresFirst : Bool) (h : SlotsOffered s) (hl : s.lrst = false) (ht : s.hub.tx = [])
    (hw : s.hub.waiting = []) (hq : (announced s).length ≤ 8) :
    (if wiresFirst then reannounce (resendOwn s) else resendOwn (reannounce s)) =
      (s.setHub (filled (releasedFrames wiresFirst s) s.hub)).setBoard (filled (ownFrames s .down) s.board) := by
  have hnone : noticesWaiting s.hub = 0 := by simp [noticesWaiting, hw]
  have hown : (ownFrames s .up).length ≤ 8 := by
    rw [ownFrames, List.length_map]
    exact packFrames_length _
  rw [releasedFrames_eq]
  cases wiresFirst with
  | true =>
    have hoff : SlotsOffered (resendOwn s) := by
      rw [resendOwn_eq h hl]
      exact slotsOffered_filled (p := .board) (slotsOffered_filled (p := .hub) h hl) hl
    have hroom : filled (ownFrames s .up) s.hub = { s.hub with tx := s.hub.tx ++ (ownFrames s .up).map frameOf } :=
      filled_room (by simpa [ht] using hown)
    have hcount : noticesWaiting (resendOwn s).hub = 0 := by
      rw [resendOwn_eq h hl, State.setBoard_hub, State.setHub_hub, hroom]
      exact hnone
    have hsame : announced (resendOwn s) = announced s := by rw [resendOwn_eq h hl]; rfl
    rw [if_pos rfl, if_pos rfl, reannounce_filled hoff (by rw [resendOwn_eq h hl]; exact hl) (by rw [hcount, hsame]; omega),
      hsame, resendOwn_eq h hl, filled_append]
    rfl
  | false =>
    have hrean := reannounce_filled h hl (by omega)
    have hoff : SlotsOffered (reannounce s) := by
      rw [hrean]
      exact slotsOffered_filled (p := .hub) h hl
    have hsame (d : Direction) : ownFrames (reannounce s) d = ownFrames s d := by rw [hrean]; rfl
    rw [if_neg (by simp), if_neg (by simp), resendOwn_eq hoff (by rw [hrean]; exact hl), hsame, hsame, hrean, filled_append]
    rfl

theorem offered8_eq (fs : List Internal) (ht : l.tx = []) (hw : l.waiting = []) :
    offered8 fs l = filled fs { l with needRest := true } := by
  unfold offered8 filled
  simp [ht, hw]

/-- The ports as the release of LRST leaves them after the load, before the frame of a SEND_WIRE joins. -/
def released (wiresFirst : Bool) (s : State) : State :=
  ((s.setLrst false).setHub (offered8 (releasedFrames wiresFirst s) s.hub)).setBoard (offered8 (ownFrames s .down) s.board)

section
variable (wiresFirst : Bool) (hs : AtRest s) (hl : s.lrst = true)
include hs hl

theorem exec_released_loading (hload : s.psc.state = .loading) : exec (.lrstReleased wiresFirst) s = .next
    (((s.setLrst false).setHub { s.hub with needRest := true }).setBoard { s.board with needRest := true }) := by
  show execLrstReleased wiresFirst s = _
  refine (if_neg (by simp [hl])).trans ?_
  refine whilePowered_next hs.1 (if_pos ?_) hs.2
  exact hload

variable (hload : s.psc.state ≠ .loading) (hk : s.wire.kept = none) (hht : s.hub.tx = []) (hbt : s.board.tx = [])
  (hhw : s.hub.waiting = []) (hbw : s.board.waiting = []) (hq : (announced s).length ≤ 8)
include hload hk hht hbt hhw hbw hq

/-- The release after the load: the frames of both sets, and then that of a waiting SEND_WIRE. -/
theorem exec_released : exec (.lrstReleased wiresFirst) s = .next (runChain (rejoinSendWire (released wiresFirst s))) := by
  generalize ht : ((s.setLrst false).setHub { s.hub with needRest := true }).setBoard { s.board with needRest := true } = t
  have hoff : SlotsOffered t := by
    rw [← ht]
    exact .inr ⟨hk, .inl hhw, .inl hbw⟩
  have hann : announced t = announced s := by rw [← ht]; rfl
  have hresent := resent_eq wiresFirst hoff (by rw [← ht]; rfl) (by rw [← ht]; exact hht) (by rw [← ht]; exact hhw)
    (by rw [hann]; exact hq)
  have hframes : (t.setHub (filled (releasedFrames wiresFirst t) t.hub)).setBoard (filled (ownFrames t .down) t.board) =
      released wiresFirst s := by
    rw [← ht, released, offered8_eq _ hht hhw, offered8_eq _ hbt hbw]
    rfl
  show execLrstReleased wiresFirst s = _
  refine (if_neg (by simp [hl])).trans ?_
  rw [whilePowered_on _ (by exact hs.1)]
  refine congrArg (fun x => Host.Outcome.next (runChain x)) ((if_neg ?_).trans ?_)
  · exact hload
  · rw [← hframes, ← hresent, ← ht]
    rfl

end

theorem rejoinSendWire_none (h : waitsIn s .sendWire = false) : rejoinSendWire s = s := if_neg (by simp [h])

theorem packed_offered (d : Direction) (l : Link) : offered8 (ownFrames s d) l =
    { l with needRest := true, tx := (packFrames (ownLevels s d)).map (wireFrame 0), waiting := [] } := by
  have hlen : (ownFrames s d).length ≤ 8 := by
    rw [ownFrames, List.length_map]
    exact packFrames_length _
  unfold offered8
  rw [List.take_of_length_le hlen, List.drop_of_length_le hlen, ownFrames, List.map_map]
  rfl

theorem ownLevels_of_none (h : ∀ w : Fin 64, (peek s.wire.map w).action ≠ .own) (d : Direction) : ownLevels s d = [] := by
  simp [ownLevels, h]

theorem linkResetReturns : Claims.LinkResetReturns := by
  intro wiresFirst s hs hl hk hht hbt hhw hbw hwaits
  have hdue : (released wiresFirst s).eng.due = .nothing := hs.2
  have hrun : runChain (rejoinSendWire (released wiresFirst s)) = released wiresFirst s := by
    rw [rejoinSendWire_none (by exact hwaits), runChain_of_rest hdue]
  have hlink (l : Link) (tx : List Frame) (hw : l.waiting = []) :
      { l with needRest := true, tx := tx, waiting := [] } = { l with needRest := true, tx := tx } := by rw [← hw]
  refine ⟨fun hload => exec_released_loading wiresFirst hs hl hload, fun hst => ?_, fun hst hown hq => ?_⟩
  · have hnone : announced s = [] := if_neg (by rcases hst with h | h | h | h | h <;> simp [h])
    have hframes : releasedFrames wiresFirst s = ownFrames s .up := by
      rw [releasedFrames_eq, hnone]
      cases wiresFirst <;> simp
    rw [exec_released wiresFirst hs hl (by rcases hst with h | h | h | h | h <;> simp [h]) hk hht hbt hhw hbw (by simp [hnone]),
      hrun, released, hframes, packed_offered, packed_offered, hlink _ _ hhw, hlink _ _ hbw]
  · have hall : announced s = s.wake.queue := if_pos hst
    have hframes : releasedFrames wiresFirst s = s.wake.queue.map fun e => .notice e.source := by
      rw [releasedFrames_eq, hall, ownFrames, ownLevels_of_none hown]
      cases wiresFirst <;> simp [packFrames]
    have hhub : offered8 (releasedFrames wiresFirst s) s.hub =
        { s.hub with needRest := true, tx := s.wake.queue.map fun e => noticeFrame e.source } := by
      unfold offered8
      rw [hframes, List.take_of_length_le (by simpa using hq), List.drop_of_length_le (by simpa using hq), List.map_map,
        ← hhw]
      rfl
    rw [exec_released wiresFirst hs hl (by rcases hst with h | h | h <;> simp [h]) hk hht hbt hhw hbw (by rw [hall]; exact hq),
      hrun, released, hhub, packed_offered, ownLevels_of_none hown, hlink _ _ hbw]
    have hempty : (packFrames []).map (wireFrame 0) = s.board.tx := by simp [packFrames, hbt]
    rw [hempty]

theorem slotsOffered_released (wiresFirst : Bool) (hk : s.wire.kept = none) : SlotsOffered (released wiresFirst s) := by
  have hidle (fs : List Internal) (l : Link) : PortIdle (offered8 fs l) := by
    unfold PortIdle offered8
    by_cases h : fs.length ≤ 8
    · exact .inl (List.drop_of_length_le h)
    · right
      simp
      omega
  exact .inr ⟨hk, hidle _ _, hidle _ _⟩

theorem linkResetReannounces : Claims.LinkResetReannounces := by
  intro wiresFirst s hs hl hload hk hht hbt hhw hbw hq
  have hann : (announced s).length ≤ 8 := by
    unfold announced
    split
    · exact hq
    · simp
  have hexec := exec_released wiresFirst hs hl hload hk hht hbt hhw hbw hann
  have hoff := slotsOffered_released wiresFirst hk
  dsimp only
  show (_ → exec _ s = .next (released wiresFirst s)) ∧ (_ → ((link (released wiresFirst s) _).tx.length < 8 → _) ∧
    (8 ≤ (link (released wiresFirst s) _).tx.length → _))
  refine ⟨fun hwaits => ?_, fun h => ?_⟩
  · rw [hexec, rejoinSendWire_none (by exact hwaits), runChain_of_rest (by exact hs.2)]
  · have hjoin : rejoinSendWire (released wiresFirst s) = createInternal (portOf (peek s.wire.map s.eng.cur.opA).dir)
        (.sendWire { wire := s.eng.cur.opA, level := s.eng.cur.opB }) (released wiresFirst s) := if_pos h.waits
    rw [hexec, hjoin]
    generalize portOf (peek s.wire.map s.eng.cur.opA).dir = p
    refine ⟨fun ht => ?_, fun ht => ?_⟩
    · have heng : (wireSent p { wire := s.eng.cur.opA, level := s.eng.cur.opB } (released wiresFirst s)).eng = s.eng := by
        simp [wireSent, setLevel, released]
      rw [createSendWire_open hoff rfl ht, handOn, if_pos ((waitsIn_of_eng heng).trans h.waits), h.succeeds (by decide) heng,
        wireSent, setLevel]
      cases p <;> rfl
    · rw [createInternal_of_full _ hoff rfl ht]
      exact congrArg _ (runChain_of_rest (by simpa [released] using hs.2))

/-- Settles O43: the release of each set, and of both with the frame of a waiting SEND_WIRE. -/
theorem linkResetReleases : Obligations.LinkResetReleases := ⟨linkResetReturns, linkResetReannounces⟩

end Sys2Proof.Machine

/-! PROOFS. The assertion of link reset: what it empties, the drain waits it ends, and its request event. -/

namespace Sys2Proof.Machine

variable {s t u : State} {q : Level} {o : ReportOutcome} {d : Direction} {b : Bool}

/-- The traffic dropped at the assertion, before the wires go to their defaults (R126, R147). -/
def trafficDropped (s : State) : State := dropTraffic (s.setLrst true)

/-- The wire levels after every wire that is not OWN has gone to its default (R126). -/
@[irreducible] def resetLevels (c : Classifier) : Vector Bool 64 :=
  Vector.ofFn fun w => if (peek c.map w).action = .own then peek c.level w else (peek c.map w).deflt

theorem resetWires_eq (s : State) : resetWires s = s.setWire { s.wire with level := resetLevels s.wire } := by
  unfold resetLevels
  rfl

theorem resetLevels_poke {c : Classifier} {w : Fin 64} (h : (peek c.map w).action = .own) (b : Bool) :
    resetLevels { c with level := poke c.level w b } = poke (resetLevels c) w b := by
  refine table_ext fun v => ?_
  unfold resetLevels
  rw [peek_ofFn]
  by_cases hv : w = v
  · subst hv
    rw [if_pos h, peek_poke_self, peek_poke_self]
  · rw [peek_poke_ne _ _ hv, peek_poke_ne _ _ hv, peek_ofFn]

theorem linkReset_eq (s : State) :
    linkReset s = if s.psc.state = .loading then trafficDropped s else resetWires (trafficDropped s) := by
  unfold linkReset
  dsimp only
  split <;> rfl

theorem linkReset_same (s : State) : (linkReset s).eng = s.eng ∧ (linkReset s).psc = s.psc ∧ (linkReset s).wire.queue = [] ∧
    (linkReset s).wake = s.wake ∧ (linkReset s).lrst = true ∧ (linkReset s).hub.waiting = [] := ⟨rfl, rfl, rfl, rfl, rfl, rfl⟩

/-- The request event of the new levels, one at most (R4, R126). -/
theorem resetRequests_eq (s : State) : resetRequests s =
    if s.psc.state = .loading ∨ requested (resetWires s) = requested s then
      if s.psc.state = .loading then s else resetWires s
    else requestEvent (requested (resetWires s)) (resetWires s) := by
  unfold resetRequests requestIfChanged
  split
  next h => rw [if_pos (.inl h)]
  next h => exact if_congr (or_iff_right h).symm rfl rfl

/-- The levels ask for the level asked for before. -/
theorem resetRequests_same (h : requested (linkReset s) = requested s) : resetRequests (trafficDropped s) = linkReset s := by
  have hst : (trafficDropped s).psc.state = s.psc.state := rfl
  have hreq : requested (trafficDropped s) = requested s := rfl
  rw [resetRequests_eq, linkReset_eq, hst, hreq]
  refine if_pos ?_
  by_cases hl : s.psc.state = .loading
  · exact .inl hl
  · rw [linkReset_eq, if_neg hl] at h
    exact .inr h

/-- The assertion in either order of the drain's end and the request event. -/
theorem exec_asserted (hs : AtRest s) (hl : s.lrst = false)
    (hfirst : b = true → runChain (resetRequests (runChain (handOnDrained (trafficDropped s)))) = t)
    (hlast : b = false → runChain (handOnDrained (runChain (resetRequests (trafficDropped s)))) = t) :
    exec (.lrstAsserted b) s = .next t := by
  show execLrstAsserted b s = _
  refine (if_neg (by simp [hl])).trans ?_
  rw [whilePowered_on _ (by exact hs.1)]
  cases b with
  | true => exact congrArg _ (hfirst rfl)
  | false => exact congrArg _ (hlast rfl)

/-- No step waits, or one waits for anything but the drain: an emptied Hold Queue ends nothing. -/
abbrev WaitsOn (s : State) : Prop :=
  s.eng.wait = .none ∨ s.eng.wait = .step ∧ s.eng.cur.kind ≠ .endList ∧ s.eng.cur.kind ≠ .release

theorem handOnDrained_waitsOn (h : WaitsOn s) : handOnDrained s = s :=
  h.elim handOnDrained_of_none fun ⟨hw, hk⟩ => handOnDrained_of_other hk hw

theorem handOnDrained_stepping (hk : s.eng.cur.kind = .endList ∨ s.eng.cur.kind = .release) (hw : s.eng.wait = .step)
    (hr : channelRuns s = true) (hq : s.wire.queue = []) : handOnDrained s = endRunWith .ok s := by
  rw [handOnDrained_of_step hq hw]
  refine if_pos ?_
  obtain hk | hk := hk
  · simp [waitsIn_iff.2 ⟨hw, hk, hr⟩]
  · simp [waitsIn_iff.2 ⟨hw, hk, hr⟩]

/-! ## The assertion with no request event (R126, R147, R38) -/

theorem asserted_waitsOn (hs : AtRest s) (hl : s.lrst = false) (hreq : requested (linkReset s) = requested s)
    (hw : WaitsOn s) : exec (.lrstAsserted b) s = .next (linkReset s) := by
  have hsame := resetRequests_same hreq
  have hdrop : runChain (trafficDropped s) = trafficDropped s := runChain_of_rest hs.2
  have hreset : runChain (linkReset s) = linkReset s := runChain_of_rest hs.2
  refine exec_asserted hs hl (fun _ => ?_) fun _ => ?_
  · rw [handOnDrained_waitsOn (s := trafficDropped s) hw, hdrop, hsame, hreset]
  · rw [hsame, hreset, handOnDrained_waitsOn (s := linkReset s) hw, hreset]

/-- A wait for the drain that the assertion ends, where what follows it does the same before the wires go to their
defaults and after. -/
theorem asserted_ends (hs : AtRest s) (hl : s.lrst = false) (hreq : requested (linkReset s) = requested s)
    {ends : State → State}
    (hend : ∀ x : State, x = trafficDropped s ∨ x = linkReset s → runChain (handOnDrained x) = ends x ∧ (ends x).eng.due = .nothing)
    (hstate : (ends (trafficDropped s)).psc.state ≠ .loading)
    (hcomm : resetWires (ends (trafficDropped s)) = ends (linkReset s))
    (hasked : requested (ends (linkReset s)) = requested (ends (trafficDropped s))) :
    exec (.lrstAsserted b) s = .next (ends (linkReset s)) := by
  obtain ⟨hfirst, -⟩ := hend _ (.inl rfl)
  obtain ⟨hlast, hrest⟩ := hend _ (.inr rfl)
  have hreset : runChain (linkReset s) = linkReset s := runChain_of_rest hs.2
  refine exec_asserted hs hl (fun _ => ?_) fun _ => ?_
  · rw [hfirst, resetRequests_eq, hcomm, if_pos (.inr hasked), if_neg hstate]
    exact runChain_of_rest hrest
  · rw [resetRequests_same hreq, hreset, hlast]

theorem linkResetAlone : Claims.LinkResetAlone := by
  intro b s hs
  refine ⟨fun hl => ?_, fun hl hreq => ⟨fun hw => asserted_waitsOn hs hl hreq hw, fun h => ?_⟩⟩
  · show execLrstAsserted b s = _
    exact if_pos hl
  · obtain ⟨hs, hn, hu, hw, hk, hm, hi, hst⟩ := h
    have hload : s.psc.state ≠ .loading := by rcases hst with h | h <;> simp [h]
    have hruns : channelRuns s = true := by simp [channelRuns, hn]
    have hcomm (x : State) : resetWires (haltedAfter x) = haltedAfter (resetWires x) := by
      rw [resetWires_eq, resetWires_eq]
      rfl
    have hasked (x : State) : requested (haltedAfter x) = requested x := rfl
    refine asserted_ends (ends := haltedAfter) hs hl hreq (fun x hx => ⟨?_, rfl⟩) (by simp [haltedAfter])
      ?_ ?_
    · have hsame : x.eng = s.eng ∧ x.psc = s.psc ∧ x.powered = s.powered ∧ x.wire.queue = [] := by
        rcases hx with rfl | rfl <;> exact ⟨rfl, rfl, rfl, rfl⟩
      obtain ⟨heng, hpsc, hpow, hq⟩ := hsame
      have hx : SteppingIn x .release := by
        unfold SteppingIn AtRest
        rw [heng, hpsc, hpow]
        exact ⟨hs, hn, hu, hw, hk, hm, hi, hst⟩
      rw [handOnDrained_stepping (.inr (by rw [heng]; exact hk)) (by rw [heng]; exact hw)
        (by simp [channelRuns, heng, hn]) hq]
      exact hx.succeeds (by decide) rfl
    · rw [linkReset_eq, if_neg hload, hcomm]
    · rw [hasked, hasked, hreq]
      rfl

/-! ## The lists that the assertion ends (R25, R28, R86) -/

/-- The off-notice wire, which is OWN, keeps its level through a reset of the others (R117, R126). -/
theorem resetWires_offNotice (hp : policyWiresOk s.wire.map s.psc.policy0 = true) (hl : s.lrst = true) :
    resetWires (offNoticed b s) = offNoticed b (resetWires s) := by
  obtain ⟨-, -, -, -, -, -, hown⟩ := policyWiresOk_iff.1 hp
  rw [resetWires_eq, resetWires_eq]
  unfold offNoticed
  simp only [State.setWire_psc, State.setWire_lrst, State.setWire_wire, hl, if_true]
  by_cases hpresent : s.psc.policy0.offNotice.present = false
  · rw [if_pos hpresent, if_pos hpresent]
  · have hact := (offNoticeOk_iff.1 (hown (by simpa using hpresent))).1
    rw [if_neg hpresent, if_neg hpresent]
    simp only [State.setWire_wire, State.setWire_twice]
    rw [resetLevels_poke hact]

/-- The off-notice wire is none of the request wires (R3, R5): its level asks for nothing. -/
theorem requested_offNotice (hp : policyWiresOk s.wire.map s.psc.policy0 = true) (hl : s.lrst = true) :
    requested (offNoticed b s) = requested s := by
  obtain ⟨-, -, -, hS, hH, hO, hown⟩ := policyWiresOk_iff.1 hp
  unfold offNoticed
  dsimp only
  by_cases hpresent : s.psc.policy0.offNotice.present = false
  · rw [if_pos hpresent]
  · have hact := (offNoticeOk_iff.1 (hown (by simpa using hpresent))).1
    have hne {w : Fin 64} (hw : requestWireOk (peek s.wire.map w) = true) : s.psc.policy0.offNotice.value ≠ w := by
      rintro rfl
      rcases (requestWireOk_iff.1 hw).2 with h | h | h <;> simp [hact] at h
    rw [if_neg hpresent, if_pos hl]
    show requestedOf s.psc.policy0 (poke s.wire.level _ b) = requestedOf s.psc.policy0 s.wire.level
    unfold requestedOf
    rw [peek_poke_ne _ _ (hne hO), peek_poke_ne _ _ (hne hH), peek_poke_ne _ _ (hne hS)]

theorem settledUrgent_eq (o : ReportOutcome) (s : State) : settledUrgent o s =
    if s.psc.pendingRestore then restored (gateTested o s) else gateTested o s := rfl

/-- Under LRST a restore action only queues its source (R22, R107, R113). -/
theorem restored_lrst (hl : s.lrst = true) : restored s =
    (s.setPsc { s.psc with pendingRestore := false, restoreOn := false }).setWake
      { s.wake with queue := if s.psc.policy0.restore = .powerOn ∨ s.psc.policy0.restore = .lastState ∧ s.psc.restoreOn = true
        then [{ source := 13, first := s.clock.tick, count := 1 }] else s.wake.queue } := by
  unfold restored
  dsimp only
  split
  · unfold noticed
    dsimp only
    rw [if_pos (by exact hl)]
  · rfl

theorem resetWires_restored (hl : s.lrst = true) : resetWires (restored s) = restored (resetWires s) := by
  have hreset : (resetWires s).lrst = true := by
    rw [resetWires_eq]
    exact hl
  rw [restored_lrst hl, restored_lrst hreset, resetWires_eq, resetWires_eq]
  rfl

theorem requested_restored (hl : s.lrst = true) : requested (restored s) = requested s := by
  rw [restored_lrst hl]
  rfl

theorem gateTested_lrst (o : ReportOutcome) (s : State) : (gateTested o s).lrst = s.lrst := by
  unfold gateTested offNoticed
  dsimp only
  split_ifs <;> rfl

section
variable (hp : policyWiresOk s.wire.map s.psc.policy0 = true) (hl : s.lrst = true)
include hp hl

theorem resetWires_gateTested (hreq : requested (resetWires s) = requested s) :
    resetWires (gateTested o s) = gateTested o (resetWires s) := by
  have hsettled : resetWires (urgentSettled o s) = urgentSettled o (resetWires s) := by
    rw [resetWires_eq, resetWires_eq]
    rfl
  have hopened : resetWires ((urgentSettled o s).setPsc { (urgentSettled o s).psc with gateClosed := false }) =
      (urgentSettled o (resetWires s)).setPsc { (urgentSettled o (resetWires s)).psc with gateClosed := false } := by
    rw [resetWires_eq, resetWires_eq]
    rfl
  unfold gateTested
  rw [hreq]
  split
  · rw [← hopened]
    exact resetWires_offNotice (s := (urgentSettled o s).setPsc { (urgentSettled o s).psc with gateClosed := false }) hp hl
  · exact hsettled

theorem requested_gateTested : requested (gateTested o s) = requested s := by
  unfold gateTested
  split
  · exact requested_offNotice (s := (urgentSettled o s).setPsc { (urgentSettled o s).psc with gateClosed := false }) hp hl
  · rfl

theorem resetWires_settledUrgent (hreq : requested (resetWires s) = requested s) :
    resetWires (settledUrgent o s) = settledUrgent o (resetWires s) := by
  rw [settledUrgent_eq, settledUrgent_eq, ← resetWires_gateTested hp hl hreq]
  have hpending : (resetWires s).psc = s.psc := by
    rw [resetWires_eq]
    rfl
  rw [hpending]
  split
  · exact resetWires_restored (by rw [gateTested_lrst]; exact hl)
  · rfl

theorem requested_settledUrgent : requested (settledUrgent o s) = requested s := by
  rw [settledUrgent_eq]
  split
  · rw [requested_restored (by rw [gateTested_lrst]; exact hl), requested_gateTested hp hl]
  · exact requested_gateTested hp hl

omit hp hl in
theorem settledUrgent_state (o : ReportOutcome) (s : State) :
    (settledUrgent o s).psc.state = .softOff ∧ (settledUrgent o s).eng.due = .nothing := by
  have hgate : (gateTested o s).psc.state = .softOff ∧ (gateTested o s).eng.due = .nothing := by
    unfold gateTested offNoticed
    dsimp only
    split_ifs <;> exact ⟨rfl, rfl⟩
  rw [settledUrgent_eq]
  split
  · unfold restored
    dsimp only
    split
    · rw [noticed_frame]
      exact hgate
    · exact hgate
  · exact hgate

end

theorem linkResetEnds : Claims.LinkResetEnds := by
  intro b s hs hl hreq hp hdet
  refine ⟨fun hn hu hw hk hst hslot ht => ?_, fun hu hw hst hg hq => ?_⟩
  · have hload : s.psc.state ≠ .loading := by rcases hst with h | h <;> simp [h]
    have hcomm (x : State) : resetWires (settledNorm x) = settledNorm (resetWires x) := by
      rw [resetWires_eq, resetWires_eq]
      rfl
    have hasked (x : State) : requested (settledNorm x) = requested x := rfl
    refine asserted_ends (ends := settledNorm) hs hl hreq (fun x hx => ⟨?_, rfl⟩) ?_ ?_ ?_
    · have hsame : x.eng = s.eng ∧ x.psc = s.psc ∧ x.wake = s.wake ∧ x.wire.queue = [] := by
        rcases hx with rfl | rfl <;> exact ⟨rfl, rfl, rfl, rfl⟩
      obtain ⟨heng, hpsc, hwake, hempty⟩ := hsame
      rw [handOnDrained_stepping (.inl (by rw [heng]; exact hk)) (by rw [heng]; exact hw)
        (by simp [channelRuns, heng, hn]) hempty, runChain_ended_normal (by rw [heng]; exact hn) (by rw [heng]; exact hu),
        endNorm_settles (by rw [heng]; exact hk), settle_idled (by rw [hpsc]; exact hslot) (by rw [hpsc]; exact ht)
          (by rw [hwake]; exact hdet)]
      exact runChain_of_rest rfl
    · show levelState s.psc.target ≠ .loading
      cases s.psc.target <;> simp [levelState]
    · rw [linkReset_eq, if_neg hload, hcomm]
    · rw [hasked, hasked, hreq]
      rfl
  · have hload : s.psc.state ≠ .loading := by simp [hst]
    have hreset : linkReset s = resetWires (trafficDropped s) := by rw [linkReset_eq, if_neg hload]
    refine asserted_ends (ends := settledUrgent (urgentOutcome s)) hs hl hreq
      (fun x hx => ⟨?_, (settledUrgent_state _ x).2⟩) ?_ ?_ ?_
    · have hsame : x.eng = s.eng ∧ x.psc = s.psc ∧ x.wake = s.wake ∧ x.wire.queue = [] ∧ x.lrst = true ∧
          x.hub.waiting = [] := by
        rcases hx with rfl | rfl <;> exact ⟨rfl, rfl, rfl, rfl, rfl, rfl⟩
      obtain ⟨heng, hpsc, hwake, hempty, hlrst, hhub⟩ := hsame
      have hgate : x.psc.gateClosed = true := by rw [hpsc]; exact hg
      have hout : urgentOutcome x = urgentOutcome s := by rw [urgentOutcome, heng]; rfl
      rw [runChain_urgentDrained (by rw [heng]; exact hu) (by simpa only [UrgentDrains, heng] using hw) hempty,
        runChain_urgentEnd _ hgate, urgentEnd_eq _ (.inl hlrst) hhub hgate (by rw [hwake]; exact hdet)
          (by rw [hwake]; exact hq), hout]
    · rw [(settledUrgent_state _ _).1]
      simp
    · rw [hreset] at hreq ⊢
      exact resetWires_settledUrgent hp rfl hreq
    · rw [requested_settledUrgent (s := linkReset s) hp rfl, requested_settledUrgent (s := trafficDropped s) hp rfl, hreq]
      rfl

/-! ## The request event of the new levels (R4, R126) -/

theorem requestTaken_and {a c : State → Prop} (h : RequestTaken q s a) (g : RequestTaken q s c) :
    RequestTaken q s fun t => a t ∧ c t := by
  obtain ⟨hslot, htarget, hback, hlevel⟩ := h
  obtain ⟨gslot, gtarget, gback, glevel⟩ := g
  refine ⟨fun h => ⟨hslot h, gslot h⟩, fun h h' => ⟨htarget h h', gtarget h h'⟩,
    fun h1 h2 h3 h4 h5 h6 => ⟨hback h1 h2 h3 h4 h5 h6, gback h1 h2 h3 h4 h5 h6⟩, fun l hs => ?_⟩
  obtain ⟨h1, h2, h3, h4, h5⟩ := hlevel l hs
  obtain ⟨g1, g2, g3, g4, g5⟩ := glevel l hs
  exact ⟨fun a b => ⟨h1 a b, g1 a b⟩, fun a b => ⟨h2 a b, g2 a b⟩, fun a b c d => ⟨h3 a b c d, g3 a b c d⟩,
    fun a b c d => ⟨h4 a b c d, g4 a b c d⟩, fun a b c d e => ⟨h5 a b c d e, g5 a b c d e⟩⟩

/-- After a request event no step waits for the drain where none did before. -/
theorem requestTaken_waitsOn (hw : WaitsOn s) : RequestTaken q s fun t => WaitsOn t ∧ (s.eng.due = .nothing → t.eng.due = .nothing) := by
  have hdelay {x : StepRec} (hx : LongDelay x) : x.kind ≠ .endList ∧ x.kind ≠ .release := by simp [hx.1]
  exact ⟨fun _ => ⟨hw, id⟩, fun _ _ => ⟨hw, id⟩, fun _ _ _ _ _ hl => ⟨.inr ⟨rfl, hdelay hl⟩, fun _ => rfl⟩,
    fun l _ => ⟨fun _ _ => ⟨hw, id⟩, fun _ _ => ⟨hw, id⟩, fun _ _ _ _ => ⟨hw, id⟩, fun _ _ _ _ => ⟨hw, id⟩,
      fun _ _ _ hp _ => ⟨.inr ⟨rfl, hdelay hp.2⟩, fun _ => rfl⟩⟩⟩

theorem linkResetRequests : Claims.LinkResetRequests := by
  intro b s hs hl hload q hq hw
  have hreset : linkReset s = resetWires (trafficDropped s) := by rw [linkReset_eq, if_neg hload]
  have hevent : resetRequests (trafficDropped s) = requestEvent q (linkReset s) := by
    rw [resetRequests_eq, ← hreset]
    refine if_neg ?_
    rintro (h | h)
    · exact hload h
    · exact hq h
  have hdrop : runChain (trafficDropped s) = trafficDropped s := runChain_of_rest hs.2
  refine requestTaken_mono (requestTaken_and (requestTaken q (s := linkReset s) hs.2)
    (requestTaken_waitsOn (s := linkReset s) hw)) fun t ⟨ht, hwt, hdue⟩ => ?_
  refine exec_asserted hs hl (fun _ => ?_) fun _ => ?_
  · rw [handOnDrained_waitsOn (s := trafficDropped s) hw, hdrop, hevent, ht]
  · rw [hevent, ht, handOnDrained_waitsOn hwt, runChain_of_rest (hdue hs.2)]

/-- Settles O42: the assertion alone, the lists it ends, and the request event of the new levels. -/
theorem linkResetAsserts : Obligations.LinkResetAsserts := ⟨linkResetAlone, linkResetEnds, linkResetRequests⟩

end Sys2Proof.Machine

/-! PROOFS. The Traffic Classifier: the entries of a WIRE frame, one by one and together. -/

namespace Sys2Proof.Machine

variable {s t u : State} {p : Port} {f : Frame} {b : Byte} {es : List WireLevel} {bs : List Byte} {q : Level}

/-! ## The end of one entry (R119) -/

theorem entryEnd_iff (s : State) (p : Port) (b : Byte) : entryEnd s p b =
    if b.getLsbD 7 then .spare
    else if (peek s.wire.map (entryOf b).wire).action = .own then .ownDrop
    else if (peek s.wire.map (entryOf b).wire).action ≠ .pass ∧ (peek s.wire.map (entryOf b).wire).dir ≠ arrivesOn p then
      .misdirected
    else .accepted (peek s.wire.map (entryOf b).wire).action := by
  unfold entryEnd
  cases p <;> rfl

theorem entryEnd_of_map (h : t.wire.map = s.wire.map) (p : Port) (b : Byte) : entryEnd t p b = entryEnd s p b := by
  unfold entryEnd
  rw [h]

/-- What an accepted entry does once it is recorded, by its action (R119, R122). -/
def entryTaken (e : WireLevel) (a : WireAction) (x : State × List WireLevel) : State × List WireLevel :=
  match a with
  | .own => x
  | .pass => (x.1, x.2 ++ [e])
  | .track => (x.1, x.2 ++ [e])
  | .consume => x
  | .hold => if x.1.wire.hold = false ∧ x.1.wire.queue = [] then (x.1, x.2 ++ [e]) else (holdEntry e x.1, x.2)

theorem handleEntry_spare (h : entryEnd s p b = .spare) : handleEntry p (s, es) b = (countPort p incMalformed s, es) := by
  rw [entryEnd_iff] at h
  unfold handleEntry
  split_ifs at h with h7
  exact if_pos h7

theorem handleEntry_ownDrop (h : entryEnd s p b = .ownDrop) : handleEntry p (s, es) b = (countWire incOwnDrop s, es) := by
  rw [entryEnd_iff] at h
  unfold handleEntry
  split_ifs at h with h7 hown
  dsimp only
  rw [if_neg h7, hown]

theorem handleEntry_misdirected (h : entryEnd s p b = .misdirected) :
    handleEntry p (s, es) b = (countWire incMisdirected s, es) := by
  rw [entryEnd_iff] at h
  unfold handleEntry
  split_ifs at h with h7 hown hmis
  obtain ⟨hpass, hdir⟩ := hmis
  dsimp only
  rw [if_neg h7]
  cases ha : (peek s.wire.map (entryOf b).wire).action with
  | pass => exact absurd ha hpass
  | own => exact absurd ha hown
  | track => exact if_pos hdir
  | consume => exact if_pos hdir
  | hold => exact if_pos hdir

theorem handleEntry_accepted {a : WireAction} (h : entryEnd s p b = .accepted a) :
    handleEntry p (s, es) b = entryTaken (entryOf b) a (recordEntry (entryOf b) s, es) := by
  rw [entryEnd_iff] at h
  unfold handleEntry
  split_ifs at h with h7 hown hmis
  obtain rfl := EntryEnd.accepted.inj h
  rw [not_and_or, not_not, not_not] at hmis
  dsimp only
  rw [if_neg h7]
  cases ha : (peek s.wire.map (entryOf b).wire).action with
  | pass => rfl
  | own => exact absurd ha hown
  | track => exact if_neg (not_not.2 (hmis.resolve_left (by simp [ha])))
  | consume => exact if_neg (not_not.2 (hmis.resolve_left (by simp [ha])))
  | hold => exact if_neg (not_not.2 (hmis.resolve_left (by simp [ha])))

/-! ## The recording of a level (R4, R118, R119) -/

theorem recordEntry_same {e : WireLevel} (hd : s.eng.due = .nothing)
    (h : requestedOf s.psc.policy0 (poke s.wire.level e.wire e.level) = requested s) :
    recordEntry e s = setLevel e.wire e.level s := by
  have hreq : requested (setLevel e.wire e.level s) = requested s := h
  unfold recordEntry requestIfChanged
  rw [if_pos hreq]
  exact runChain_of_rest hd

theorem recordEntry_changes {e : WireLevel}
    (h : requestedOf s.psc.policy0 (poke s.wire.level e.wire e.level) ≠ requested s) : recordEntry e s =
      runChain (requestEvent (requestedOf s.psc.policy0 (poke s.wire.level e.wire e.level)) (setLevel e.wire e.level s)) := by
  have hreq : ¬requested (setLevel e.wire e.level s) = requested s := h
  unfold recordEntry requestIfChanged
  rw [if_neg hreq]
  rfl

/-- A wire that is no request wire asks for nothing (R4). -/
theorem requestedOf_poke {x : Policy0} {v : Vector Bool 64} {w : Fin 64} (h : w ∉ [x.reqSusp, x.reqHib, x.reqOff]) (c : Bool) :
    requestedOf x (poke v w c) = requestedOf x v := by
  simp only [List.mem_cons, List.not_mem_nil, or_false, not_or] at h
  obtain ⟨hS, hH, hO⟩ := h
  unfold requestedOf
  rw [peek_poke_ne _ _ hO, peek_poke_ne _ _ hH, peek_poke_ne _ _ hS]

/-- An entry byte without its spare bit is that of its wire and level (R159). -/
theorem entryByte_entryOf (h : b.getLsbD 7 = false) : entryByte (entryOf b) = b := by
  rw [getLsbD_eq, decide_eq_false_iff_not] at h
  have hlt := b.isLt
  unfold entryByte entryOf
  refine BitVec.eq_of_toNat_eq ?_
  rw [toNat_byteOf_mod, getLsbD_eq, bitAt_eq]
  simp only [Fin.ofNat]
  have hbit : (decide (b.toNat / 2 ^ 6 % 2 = 1)).toNat = b.toNat / 2 ^ 6 % 2 := by
    obtain h6 | h6 := Nat.mod_two_eq_zero_or_one (b.toNat / 2 ^ 6) <;> rw [h6] <;> rfl
  rw [hbit]
  omega

/-! ## A WIRE frame handled whole (R120) -/

/-- The frame's slot is kept while its entries are handled, and the forwarded ones leave in it. -/
theorem handleWire_eq {u : State} (hu : f.payload.foldl (handleEntry p) (keepSlot (some p.other) s, []) = (u, es))
    (htx : (link (keepSlot none u) p.other).tx.length = (link s p.other).tx.length) :
    handleWire p f s = pump (if es = [] then keepSlot none u else queueTx p.other (wireFrame f.tag es) (keepSlot none u)) := by
  unfold handleWire
  dsimp only
  rw [hu]
  dsimp only [sendForwarded]
  rw [if_pos htx]

theorem queueTx_eq (p : Port) (f : Frame) (s : State) : queueTx p f s = sentOn p f s := rfl

theorem exec_wireFrame (hs : AtRest s) (hp : picked s = some (p, f)) (hk : f.kind = .wire) :
    exec .wireFrameTaken s = .next (runChain (handleWire p f (taken p s))) := by
  show execWireFrameTaken s = _
  unfold execWireFrameTaken
  rw [whilePowered_on _ hs.1, takeNext_of_picked _ hp (by simp [hk])]

/-- The row whose entries lead to `u`: the forwarded ones leave, and no frame that waits is offered a slot then. -/
theorem exec_wireOffered (hs : AtRest s) (hp : picked s = some (p, f)) (hk : f.kind = .wire)
    (hu : f.payload.foldl (handleEntry p) (keepSlot (some p.other) (taken p s), []) = (u, es))
    (ht : keepSlot none u = t) (htx : (link t p.other).tx = (link s p.other).tx) (hd : t.eng.due = .nothing)
    (hoff : Offered (if es = [] then t else sentOn p.other (wireFrame f.tag es) t)) :
    exec .wireFrameTaken s = .next (if es = [] then t else sentOn p.other (wireFrame f.tag es) t) := by
  have hsame : (link (taken p s) p.other).tx = (link s p.other).tx := by
    unfold taken
    rw [link_setWire, link_setLink_ne _ _ (other_ne p)]
  rw [exec_wireFrame hs hp hk, handleWire_eq hu (by rw [ht, htx, hsame]), ht, queueTx_eq, pump_of_offered hoff,
    runChain_of_rest]
  split
  · exact hd
  · simpa [sentOn] using hd

/-- The row in which no other frame waits. -/
theorem exec_wireEntries (h : Takes s p f) (hk : f.kind = .wire)
    (hu : f.payload.foldl (handleEntry p) (keepSlot (some p.other) (taken p s), []) = (u, es))
    (ht : keepSlot none u = t) (htx : (link t p.other).tx = (link s p.other).tx)
    (hwait : ∀ q, (link t q).waiting = []) (hd : t.eng.due = .nothing) :
    exec .wireFrameTaken s = .next (if es = [] then t else sentOn p.other (wireFrame f.tag es) t) := by
  obtain ⟨hs, hp, -⟩ := h
  refine exec_wireOffered hs hp hk hu ht htx hd fun q => canTakeOldest_of_empty ?_
  split
  · exact hwait q
  · unfold sentOn
    obtain rfl | rfl := eq_or_other p.other q
    · simpa using hwait _
    · rw [link_setLink_ne _ _ (other_ne _)]
      exact hwait _

end Sys2Proof.Machine

/-! PROOFS. A WIRE frame whose entries leave the Requested Level as it is: what its entries do together. -/

namespace Sys2Proof.Machine

variable {s t u : State} {p : Port} {f : Frame} {b : Byte} {es held : List WireLevel} {bs cs : List Byte} {q : Level}
  {v : Vector Bool 64} {k : Option Port} {m n o : Nat} {x : EntryEnd}

/-! ## Entries tallied (R119, R122, R128) -/

theorem countUp_add (m n c : Nat) : countUp n (countUp m c) = countUp (m + n) c := by
  unfold countUp
  split_ifs <;> omega

/-- The entries dropped by each check counted, the levels `v` recorded and some entries held. -/
def tallied (p : Port) (n o m : Nat) (v : Vector Bool 64) (held : List WireLevel) (s : State) : State :=
  (counted p (fun c => { c with malformed := countUp n c.malformed }) s).setWire
    { s.wire with
      ownDrop := countUp o s.wire.ownDrop, misdirected := countUp m s.wire.misdirected, level := v,
      queue := s.wire.queue ++ held }

theorem tallied_tallied (n' o' m' : Nat) (v' : Vector Bool 64) (held' : List WireLevel) :
    tallied p n' o' m' v' held' (tallied p n o m v held s) =
      tallied p (n + n') (o + o') (m + m') v' (held ++ held') s := by
  cases p <;> simp [tallied, counted, countUp_add, link, setLink] <;> rfl

theorem tallied_same : (tallied p n o m v held s).eng = s.eng ∧ (tallied p n o m v held s).psc = s.psc ∧
    (tallied p n o m v held s).wire.map = s.wire.map ∧ (tallied p n o m v held s).wire.hold = s.wire.hold ∧
    (tallied p n o m v held s).wire.queue = s.wire.queue ++ held ∧
    (tallied p n o m v held s).wire.level = v := by
  unfold tallied counted
  simp

/-- The entry bytes with an end (R119). -/
def ending (s : State) (p : Port) (x : EntryEnd) (bs : List Byte) : List Byte :=
  bs.filter fun b => decide (entryEnd s p b = x)

/-- The entry bytes that are accepted (R119). -/
def accepted (s : State) (p : Port) (bs : List Byte) : List Byte :=
  bs.filter fun b => decide (entryEnd s p b ∉ [EntryEnd.spare, .ownDrop, .misdirected])

/-- The entry bytes that are forwarded (R119, R122). -/
def forwarded (s : State) (p : Port) (bs : List Byte) : List Byte :=
  bs.filter fun b => decide (entryEnd s p b ∈ [EntryEnd.accepted .pass, .accepted .track] ∨
    entryEnd s p b = .accepted .hold ∧ s.wire.hold = false)

/-- The entry bytes that join the Hold Queue (R122). -/
def heldOf (s : State) (p : Port) (bs : List Byte) : List Byte :=
  if s.wire.hold = false then [] else ending s p (.accepted .hold) bs

/-- The levels after some accepted entries (R118). -/
def levelsAfter (bs : List Byte) (v : Vector Bool 64) : Vector Bool 64 :=
  bs.foldl (fun v b => poke v (entryOf b).wire (entryOf b).level) v

/-- What the entries of a frame do together. -/
def entriesDone (p : Port) (bs : List Byte) (s : State) : State :=
  tallied p (ending s p .spare bs).length (ending s p .ownDrop bs).length (ending s p .misdirected bs).length
    (levelsAfter (accepted s p bs) s.wire.level) ((heldOf s p bs).map entryOf) s

theorem entriesDone_nil (p : Port) (s : State) : entriesDone p [] s = s := by
  unfold entriesDone heldOf
  cases p <;> simp [ending, accepted, levelsAfter, tallied, counted, countUp, link, setLink] <;> rfl

theorem entriesDone_append (p : Port) (bs cs : List Byte) (s : State) :
    entriesDone p cs (entriesDone p bs s) = entriesDone p (bs ++ cs) s := by
  obtain ⟨-, -, hmap, hhold, -, hlevel⟩ := tallied_same (p := p) (n := (ending s p .spare bs).length)
    (o := (ending s p .ownDrop bs).length) (m := (ending s p .misdirected bs).length)
    (v := levelsAfter (accepted s p bs) s.wire.level) (held := (heldOf s p bs).map entryOf) (s := s)
  unfold entriesDone
  rw [tallied_tallied]
  unfold ending accepted heldOf levelsAfter ending at *
  simp only [entryEnd_of_map hmap, hhold, hlevel, List.filter_append, List.length_append, List.foldl_append]
  split <;> simp

theorem forwarded_entriesDone (bs cs : List Byte) : forwarded (entriesDone p bs s) p cs = forwarded s p cs := by
  obtain ⟨-, -, hmap, hhold, -, -⟩ := tallied_same (p := p) (n := (ending s p .spare bs).length)
    (o := (ending s p .ownDrop bs).length) (m := (ending s p .misdirected bs).length)
    (v := levelsAfter (accepted s p bs) s.wire.level) (held := (heldOf s p bs).map entryOf) (s := s)
  unfold forwarded entriesDone
  simp only [entryEnd_of_map hmap, hhold]

/-! ## One entry -/

/-- An entry whose byte has end `x`. -/
theorem lists_single (h : entryEnd s p b = x) :
    ending s p .spare [b] = (if x = .spare then [b] else []) ∧ ending s p .ownDrop [b] = (if x = .ownDrop then [b] else []) ∧
    ending s p .misdirected [b] = (if x = .misdirected then [b] else []) ∧
    accepted s p [b] = (if x ∉ [EntryEnd.spare, .ownDrop, .misdirected] then [b] else []) ∧
    heldOf s p [b] = (if s.wire.hold = true ∧ x = .accepted .hold then [b] else []) ∧
    forwarded s p [b] = (if x ∈ [EntryEnd.accepted .pass, .accepted .track] ∨ x = .accepted .hold ∧ s.wire.hold = false
      then [b] else []) := by
  subst h
  refine ⟨?_, ?_, ?_, ?_, ?_, ?_⟩
  all_goals
    simp only [ending, accepted, heldOf, forwarded, List.filter_cons, List.filter_nil, decide_eq_true_eq]
  cases s.wire.hold <;> simp

theorem countPort_tallied : countPort p incMalformed s = tallied p 1 0 0 s.wire.level [] s := by
  unfold countPort incMalformed tallied counted
  rw [satInc_max16]
  cases p <;> simp [countUp, link, setLink] <;> rfl

theorem ownDrop_tallied : countWire incOwnDrop s = tallied p 0 1 0 s.wire.level [] s := by
  unfold countWire incOwnDrop tallied counted
  rw [satInc_max16]
  cases p <;> simp [countUp, link, setLink] <;> rfl

theorem misdirected_tallied : countWire incMisdirected s = tallied p 0 0 1 s.wire.level [] s := by
  unfold countWire incMisdirected tallied counted
  rw [satInc_max16]
  cases p <;> simp [countUp, link, setLink] <;> rfl

theorem setLevel_tallied (e : WireLevel) :
    setLevel e.wire e.level s = tallied p 0 0 0 (poke s.wire.level e.wire e.level) [] s := by
  unfold setLevel tallied counted
  cases p <;> simp [countUp, link, setLink] <;> rfl

/-- An entry held with room in the queue and no drain to set going. -/
theorem holdEntry_room {e : WireLevel} (hlen : s.wire.queue.length < 16) (h : s.wire.hold = true ∨ drainWaits s = true) :
    holdEntry e s = s.setWire { s.wire with queue := s.wire.queue ++ [e] } := by
  have hstill : drainWaits (s.setWire { s.wire with queue := s.wire.queue ++ [e] }) = drainWaits s := rfl
  unfold holdEntry
  rw [if_pos (show _ < Config.holdSlots from hlen)]
  unfold ensureDrain
  rw [hstill]
  cases hq : s.wire.queue <;> simp [h]

/-- One entry that leaves the Requested Level as it is. -/
theorem handleEntry_single (hd : s.eng.due = .nothing)
    (hreq : accepted s p [b] ≠ [] →
      requestedOf s.psc.policy0 (poke s.wire.level (entryOf b).wire (entryOf b).level) = requested s)
    (hhold : entryEnd s p b = .accepted .hold → s.wire.hold = true ∨ s.wire.queue = [])
    (hlen : heldOf s p [b] ≠ [] → s.wire.queue.length < 16) (es : List WireLevel) :
    handleEntry p (s, es) b = (entriesDone p [b] s, es ++ (forwarded s p [b]).map entryOf) := by
  cases hx : entryEnd s p b with
  | spare =>
    obtain ⟨h1, h2, h3, h4, h5, h6⟩ := lists_single hx
    rw [handleEntry_spare hx, countPort_tallied]
    simp [entriesDone, levelsAfter, h1, h2, h3, h4, h5, h6]
  | ownDrop =>
    obtain ⟨h1, h2, h3, h4, h5, h6⟩ := lists_single hx
    rw [handleEntry_ownDrop hx, ownDrop_tallied (p := p)]
    simp [entriesDone, levelsAfter, h1, h2, h3, h4, h5, h6]
  | misdirected =>
    obtain ⟨h1, h2, h3, h4, h5, h6⟩ := lists_single hx
    rw [handleEntry_misdirected hx, misdirected_tallied (p := p)]
    simp [entriesDone, levelsAfter, h1, h2, h3, h4, h5, h6]
  | accepted a =>
    obtain ⟨h1, h2, h3, h4, h5, h6⟩ := lists_single hx
    rw [handleEntry_accepted hx, recordEntry_same hd (hreq (by simp [h4])), setLevel_tallied (p := p)]
    obtain ⟨-, -, -, hholdSame, hqueue, -⟩ := tallied_same (p := p) (n := 0) (o := 0) (m := 0)
      (v := poke s.wire.level (entryOf b).wire (entryOf b).level) (held := []) (s := s)
    have hown : a ≠ .own := by
      rintro rfl
      rw [entryEnd_iff] at hx
      split_ifs at hx with _ ho
      exact ho (EntryEnd.accepted.inj hx)
    cases a with
    | own => exact absurd rfl hown
    | pass => simp [entryTaken, entriesDone, levelsAfter, h1, h2, h3, h4, h5, h6]
    | track => simp [entryTaken, entriesDone, levelsAfter, h1, h2, h3, h4, h5, h6]
    | consume => simp [entryTaken, entriesDone, levelsAfter, h1, h2, h3, h4, h5, h6]
    | hold =>
      simp only [entryTaken, hholdSame, hqueue, List.append_nil]
      by_cases hfree : s.wire.hold = false
      · have hq : s.wire.queue = [] := (hhold hx).resolve_left (by simp [hfree])
        rw [if_pos ⟨hfree, hq⟩]
        simp [entriesDone, levelsAfter, h1, h2, h3, h4, h5, h6, hfree]
      · have hheld : s.wire.hold = true := by simpa using hfree
        have hroom : s.wire.queue.length < 16 := hlen (by simp [h5, hheld])
        rw [if_neg (fun h => hfree h.1), holdEntry_room (by simpa [hqueue] using hroom) (.inl (by rw [hholdSame, hheld]))]
        simp only [entriesDone, levelsAfter, h1, h2, h3, h4, h5, h6, hfree]
        cases p <;> simp [tallied, counted, link, setLink]

/-! ## All entries of a frame -/

theorem entriesDone_same (p : Port) (bs : List Byte) (s : State) :
    (entriesDone p bs s).eng = s.eng ∧ (entriesDone p bs s).psc = s.psc ∧ (entriesDone p bs s).wire.map = s.wire.map ∧
      (entriesDone p bs s).wire.hold = s.wire.hold ∧
      (entriesDone p bs s).wire.queue = s.wire.queue ++ (heldOf s p bs).map entryOf := by
  obtain ⟨heng, hpsc, hmap, hhold, hqueue, -⟩ := tallied_same (p := p) (n := (ending s p .spare bs).length)
    (o := (ending s p .ownDrop bs).length) (m := (ending s p .misdirected bs).length)
    (v := levelsAfter (accepted s p bs) s.wire.level) (held := (heldOf s p bs).map entryOf) (s := s)
  exact ⟨heng, hpsc, hmap, hhold, hqueue⟩

theorem accepted_subset (h : cs ⊆ bs) : accepted s p cs ⊆ accepted s p bs := fun _ hc =>
  List.mem_filter.2 ⟨h (List.mem_filter.1 hc).1, (List.mem_filter.1 hc).2⟩

theorem mem_accepted_cons (h : accepted s p [b] ≠ []) : b ∈ accepted s p (b :: bs) := by
  unfold accepted at h ⊢
  rw [ne_eq, List.filter_eq_nil_iff] at h
  exact List.mem_filter.2 ⟨by simp, by simpa using h⟩

theorem lists_cons (s : State) (p : Port) (b : Byte) (bs : List Byte) :
    heldOf s p (b :: bs) = heldOf s p [b] ++ heldOf s p bs ∧
      forwarded s p (b :: bs) = forwarded s p [b] ++ forwarded s p bs := by
  unfold heldOf forwarded ending
  rw [← List.singleton_append, List.filter_append, List.filter_append]
  refine ⟨?_, rfl⟩
  split <;> rfl

/-- Entries none of whose accepted ones is on a request wire, handled in order. -/
theorem handleEntries (hd : s.eng.due = .nothing)
    (hreq : ∀ b ∈ accepted s p bs, (entryOf b).wire ∉ [s.psc.policy0.reqSusp, s.psc.policy0.reqHib, s.psc.policy0.reqOff])
    (hhold : s.wire.hold = true ∨ s.wire.queue = []) (hlen : s.wire.queue.length + (heldOf s p bs).length ≤ 16)
    (es : List WireLevel) :
    bs.foldl (handleEntry p) (s, es) = (entriesDone p bs s, es ++ (forwarded s p bs).map entryOf) := by
  induction bs generalizing s es with
  | nil => simp [entriesDone_nil, forwarded]
  | cons b bs ih =>
    obtain ⟨hheld, hsent⟩ := lists_cons s p b bs
    obtain ⟨heng, hpsc, hmap, hholdSame, hqueue⟩ := entriesDone_same p [b] s
    rw [hheld, List.length_append] at hlen
    have hone := handleEntry_single hd (p := p) (b := b)
      (fun hne => requestedOf_poke (hreq b (mem_accepted_cons hne)) _) (fun _ => hhold)
      (fun hne => by have := List.length_pos_iff.2 hne; omega) es
    have hrest : heldOf (entriesDone p [b] s) p bs = heldOf s p bs := by
      unfold heldOf ending
      simp only [hholdSame, entryEnd_of_map hmap]
    rw [List.foldl_cons, hone, ih (by rw [heng]; exact hd) ?_ ?_ ?_, entriesDone_append, forwarded_entriesDone, hsent]
    · simp
    · intro c hc
      rw [hpsc]
      refine hreq c (accepted_subset (List.subset_cons_self _ _) ?_)
      unfold accepted at hc ⊢
      simpa only [entryEnd_of_map hmap] using hc
    · rw [hholdSame]
      by_cases hh : s.wire.hold = true
      · exact .inl hh
      · rw [hqueue, hhold.resolve_left hh]
        exact .inr (by simp [heldOf, hh])
    · rw [hrest, hqueue, List.length_append, List.length_map]
      omega

/-! ## The row (R119, R120) -/

theorem entryEnd_spare (h : b.getLsbD 7 = true) : entryEnd s p b = .spare := by
  rw [entryEnd_iff, if_pos h]

/-- The forwarded entries go out as the bytes they came in. -/
theorem wireFrame_forwarded (tag : BitVec 6) (s : State) (p : Port) (bs : List Byte) :
    wireFrame tag ((forwarded s p bs).map entryOf) =
      { kind := .wire, route := false, bit6 := false, tag := tag, payload := forwarded s p bs } := by
  unfold wireFrame
  congr 1
  rw [List.map_map]
  refine (List.map_congr_left fun b hb => ?_).trans (List.map_id _)
  refine entryByte_entryOf ?_
  cases h7 : b.getLsbD 7 with
  | false => rfl
  | true =>
    have hb := (List.mem_filter.1 hb).2
    rw [entryEnd_spare h7] at hb
    simp at hb

theorem entriesDone_keepSlot (hkept : s.wire.kept = none) :
    keepSlot none (entriesDone p bs (keepSlot k s)) = entriesDone p bs s := by
  have hmap : (keepSlot k s).wire.map = s.wire.map := rfl
  unfold entriesDone heldOf ending accepted
  simp only [entryEnd_of_map hmap]
  cases p <;> simp [keepSlot, tallied, counted, link, setLink, hkept] <;> rfl

theorem entriesDone_link (p q : Port) (bs : List Byte) (s : State) :
    (link (entriesDone p bs s) q).tx = (link s q).tx ∧ (link (entriesDone p bs s) q).waiting = (link s q).waiting := by
  unfold entriesDone tallied counted
  obtain rfl | rfl := eq_or_other p q
  · simp [link_setWire]
  · simp [link_setWire, link_setLink_ne _ _ (other_ne _)]

theorem taken_link (p q : Port) (s : State) :
    (link (taken p s) q).tx = (link s q).tx ∧ (link (taken p s) q).waiting = (link s q).waiting := by
  unfold taken
  obtain rfl | rfl := eq_or_other p q
  · simp [link_setWire]
  · simp [link_setWire, link_setLink_ne _ _ (other_ne _)]

theorem exec_entriesDone (h : Takes s p f) (hk : f.kind = .wire)
    (hfold : f.payload.foldl (handleEntry p) (keepSlot (some p.other) (taken p s), []) =
      (entriesDone p f.payload (keepSlot (some p.other) (taken p s)),
        (forwarded (keepSlot (some p.other) (taken p s)) p f.payload).map entryOf)) :
    exec .wireFrameTaken s = .next
      (if forwarded s p f.payload = [] then entriesDone p f.payload (taken p s)
      else sentOn p.other { kind := .wire, route := false, bit6 := false, tag := f.tag, payload := forwarded s p f.payload }
        (entriesDone p f.payload (taken p s))) := by
  have hsent : forwarded (keepSlot (some p.other) (taken p s)) p f.payload = forwarded s p f.payload := by
    unfold forwarded
    simp only [entryEnd_of_map (show (keepSlot (some p.other) (taken p s)).wire.map = s.wire.map by simp [keepSlot, taken])]
    simp [keepSlot, taken]
  have hkept : (taken p s).wire.kept = none := by simpa [taken] using h.2.2.1
  rw [hsent] at hfold
  obtain ⟨-, -, -, hhub, hboard⟩ := id h
  rw [exec_wireEntries h hk hfold (entriesDone_keepSlot hkept)
    ((entriesDone_link _ _ _ _).1.trans (taken_link _ _ _).1) (fun q => ?_)
    (by rw [(entriesDone_same _ _ _).1]; exact taken_rest h.1), wireFrame_forwarded]
  · simp only [List.map_eq_nil_iff]
  · rw [(entriesDone_link _ _ _ _).2, (taken_link _ _ _).2]
    cases q <;> assumption

theorem wireEntries : Claims.WireEntries := by
  intro p f s h hk
  dsimp only
  intro hreq hhold hlen
  have hmap : (keepSlot (some p.other) (taken p s)).wire.map = s.wire.map := by simp [keepSlot, taken]
  have hsame : (keepSlot (some p.other) (taken p s)).eng = s.eng ∧ (keepSlot (some p.other) (taken p s)).psc = s.psc ∧
      (keepSlot (some p.other) (taken p s)).wire.hold = s.wire.hold ∧
      (keepSlot (some p.other) (taken p s)).wire.queue = s.wire.queue := by simp [keepSlot, taken]
  obtain ⟨heng, hpsc, hholdSame, hqueue⟩ := hsame
  rw [exec_entriesDone h hk (handleEntries (by rw [heng]; exact h.1.2) ?_ (by rw [hholdSame, hqueue]; exact hhold) ?_ [])]
  · cases p <;> rfl
  · intro b hb
    rw [hpsc]
    refine hreq b ?_
    unfold accepted at hb
    simpa only [entryEnd_of_map hmap] using hb
  · unfold heldOf ending
    simp only [entryEnd_of_map hmap, hholdSame, hqueue]
    exact hlen

/-! ## One entry alone -/

/-- What one entry byte with end `x` does, hold being as `hold` (R119, R122). -/
def oneDone (p : Port) (tag : BitVec 6) (b : Byte) (hold : Bool) (x : EntryEnd) (s : State) : State :=
  let t := tallied p (if x = .spare then 1 else 0) (if x = .ownDrop then 1 else 0) (if x = .misdirected then 1 else 0)
    (if x ∉ [EntryEnd.spare, .ownDrop, .misdirected] then poke s.wire.level (entryOf b).wire (entryOf b).level
      else s.wire.level)
    (if hold = true ∧ x = .accepted .hold then [entryOf b] else []) s
  if x ∈ [EntryEnd.accepted .pass, .accepted .track] ∨ x = .accepted .hold ∧ hold = false then
    sentOn p.other { kind := .wire, route := false, bit6 := false, tag := tag, payload := [b] } t
  else t

theorem entriesDone_single (h : entryEnd s p b = x) : entriesDone p [b] s =
    tallied p (if x = .spare then 1 else 0) (if x = .ownDrop then 1 else 0) (if x = .misdirected then 1 else 0)
    (if x ∉ [EntryEnd.spare, .ownDrop, .misdirected] then poke s.wire.level (entryOf b).wire (entryOf b).level
      else s.wire.level)
    (if s.wire.hold = true ∧ x = .accepted .hold then [entryOf b] else []) s := by
  obtain ⟨h1, h2, h3, h4, h5, -⟩ := lists_single h
  unfold entriesDone levelsAfter
  rw [h1, h2, h3, h4, h5]
  congr 1 <;> split <;> rfl

/-- One entry that leaves the Requested Level as it is, handled whole. -/
theorem exec_oneEntry (h : Takes s p f) (hk : f.kind = .wire) (hb : f.payload = [b])
    (hreq : requestedOf s.psc.policy0 (poke s.wire.level (entryOf b).wire (entryOf b).level) = requested s)
    (hhold : entryEnd s p b = .accepted .hold →
      s.wire.hold = false ∧ s.wire.queue = [] ∨ s.wire.hold = true ∧ s.wire.queue.length < 16)
    (hx : entryEnd s p b = x) : exec .wireFrameTaken s = .next (oneDone p f.tag b s.wire.hold x (taken p s)) := by
  have hsame : (keepSlot (some p.other) (taken p s)).eng = s.eng ∧ (keepSlot (some p.other) (taken p s)).psc = s.psc ∧
      (keepSlot (some p.other) (taken p s)).wire.hold = s.wire.hold ∧
      (keepSlot (some p.other) (taken p s)).wire.queue = s.wire.queue ∧
      (keepSlot (some p.other) (taken p s)).wire.map = s.wire.map ∧
      (keepSlot (some p.other) (taken p s)).wire.level = s.wire.level := by simp [keepSlot, taken]
  obtain ⟨heng, hpsc, hholdSame, hqueue, hmap, hlevel⟩ := hsame
  have hend := entryEnd_of_map hmap p b
  have hone := handleEntry_single (s := keepSlot (some p.other) (taken p s)) (p := p) (b := b) (by rw [heng]; exact h.1.2)
    (fun _ => by unfold requested; rw [hpsc, hlevel]; exact hreq)
    (fun hx => by
      rw [hend] at hx
      rw [hholdSame, hqueue]
      exact (hhold hx).elim (fun h => .inr h.2) fun h => .inl h.1)
    (fun hne => by
      rw [hqueue]
      obtain ⟨-, -, -, -, hheld, -⟩ := lists_single hend
      rw [hheld, hholdSame, ne_eq, ite_eq_right_iff, Classical.not_imp] at hne
      obtain ⟨⟨hh, hx⟩, -⟩ := hne
      exact (hhold hx).elim (fun h => absurd hh (by simp [h.1])) fun h => h.2) []
  have hrow := exec_entriesDone h hk (by rw [hb]; exact hone)
  obtain ⟨-, -, -, -, -, hsent⟩ := lists_single hx
  have hheld : (taken p s).wire.hold = s.wire.hold := by simp [taken]
  rw [hb] at hrow
  rw [hrow, entriesDone_single ((entryEnd_of_map (by simp [taken]) p b).trans hx), hsent, hheld]
  unfold oneDone
  dsimp only
  congr 1
  by_cases hgoes : x ∈ [EntryEnd.accepted .pass, .accepted .track] ∨ x = .accepted .hold ∧ s.wire.hold = false
  · simp only [if_pos hgoes, if_neg (List.cons_ne_nil b [])]
  · simp only [if_neg hgoes, if_pos]

/-- An accepted entry passes the three checks (R119). -/
theorem entryEnd_accepted {a : WireAction} (h7 : b.getLsbD 7 = false) (ha : (peek s.wire.map (entryOf b).wire).action = a)
    (hown : a ≠ .own) (hgo : a = .pass ∨ (peek s.wire.map (entryOf b).wire).dir = arrivesOn p) :
    entryEnd s p b = .accepted a := by
  rw [entryEnd_iff, if_neg (ne_true_of_eq_false h7), ha, if_neg hown, if_neg]
  exact fun h => hgo.elim h.1 h.2

theorem oneWireEntry : Claims.OneWireEntry := by
  intro p f b s h hk hb
  dsimp only
  intro hreq
  have hrow {x : EntryEnd} (hx : entryEnd s p b = x) (hne : x ≠ .accepted .hold) :=
    exec_oneEntry h hk hb hreq (fun h => absurd (hx.symm.trans h) hne) hx
  have hhas {hd : Bool} (hx : entryEnd s p b = .accepted .hold) (hh : s.wire.hold = hd)
      (hroom : s.wire.hold = false ∧ s.wire.queue = [] ∨ s.wire.hold = true ∧ s.wire.queue.length < 16) :
      exec .wireFrameTaken s = .next (oneDone p f.tag b hd (.accepted .hold) (taken p s)) := by
    rw [← hh]
    exact exec_oneEntry h hk hb hreq (fun _ => hroom) hx
  refine ⟨fun h7 => ?_, fun h7 ha => ?_, fun h7 hc hgo => ?_, fun h7 hc => ?_, fun h7 ha hgo => ?_,
    fun h7 ha hgo hh hq => ?_, fun h7 ha hgo hh hq => ?_⟩
  · rw [hrow (entryEnd_spare h7) (by decide)]
    cases p <;> simp [oneDone, tallied, countUp, counted] <;> rfl
  · have hx : entryEnd s p b = .ownDrop := by
      rw [entryEnd_iff, if_neg (ne_true_of_eq_false h7)]
      exact if_pos ha
    rw [hrow hx (by decide)]
    cases p <;> simp [oneDone, tallied, countUp, counted] <;> rfl
  · have hx : entryEnd s p b = .misdirected := by
      rw [entryEnd_iff, if_neg (ne_true_of_eq_false h7), if_neg, if_pos]
      · exact ⟨fun h => by rcases hc with hc | hc | hc <;> exact absurd (hc.symm.trans h) (by decide), hgo⟩
      · exact fun h => by rcases hc with hc | hc | hc <;> exact absurd (hc.symm.trans h) (by decide)
    rw [hrow hx (by decide)]
    cases p <;> simp [oneDone, tallied, countUp, counted] <;> rfl
  · rcases hc with ha | ⟨ha, hgo⟩
    · rw [hrow (entryEnd_accepted h7 ha (by decide) (.inl rfl)) (by decide)]
      cases p <;> simp [oneDone, tallied, countUp, counted] <;> rfl
    · rw [hrow (entryEnd_accepted h7 ha (by decide) (.inr hgo)) (by decide)]
      cases p <;> simp [oneDone, tallied, countUp, counted] <;> rfl
  · rw [hrow (entryEnd_accepted h7 ha (by decide) (.inr hgo)) (by decide)]
    cases p <;> simp [oneDone, tallied, countUp, counted] <;> rfl
  · rw [hhas (entryEnd_accepted h7 ha (by decide) (.inr hgo)) hh (.inl ⟨hh, hq⟩)]
    cases p <;> simp [oneDone, tallied, countUp, counted] <;> rfl
  · rw [hhas (entryEnd_accepted h7 ha (by decide) (.inr hgo)) hh (.inr ⟨hh, hq⟩)]
    cases p <;> simp [oneDone, tallied, countUp, counted] <;> rfl

end Sys2Proof.Machine

/-! PROOFS. A WIRE frame whose entry joins the drain, and one whose entry raises a request event. -/

namespace Sys2Proof.Machine

variable {s t u : State} {p : Port} {f : Frame} {b : Byte} {es : List WireLevel} {q : Level} {k : Option Port}

/-- The frame's slot is kept over a state that keeps none, and given up again. -/
theorem keepSlot_again (h : s.wire.kept = none) : keepSlot none (keepSlot k s) = s := by
  unfold keepSlot
  rw [State.setWire_twice]
  exact congrArg s.setWire (by simp [← h])

/-- An entry recorded and put at the tail of the Hold Queue (R122). -/
def joined (b : Byte) (s : State) : State :=
  (setLevel (entryOf b).wire (entryOf b).level s).setWire
    { s.wire with level := poke s.wire.level (entryOf b).wire (entryOf b).level, queue := s.wire.queue ++ [entryOf b] }

/-- An entry on a HOLD wire joins the Hold Queue while it drains (R122). -/
theorem handleEntry_joins (hx : entryEnd s p b = .accepted .hold) (hd : s.eng.due = .nothing)
    (hreq : (entryOf b).wire ∉ [s.psc.policy0.reqSusp, s.psc.policy0.reqHib, s.psc.policy0.reqOff])
    (hw : drainWaits s = true) (hq : s.wire.queue ≠ []) (hlen : s.wire.queue.length < 16) :
    handleEntry p (s, es) b = (joined b s, es) := by
  have hwaits : drainWaits (setLevel (entryOf b).wire (entryOf b).level s) = true := hw
  rw [handleEntry_accepted hx, recordEntry_same hd (requestedOf_poke hreq _)]
  unfold entryTaken
  dsimp only
  rw [if_neg (fun h => hq h.2), holdEntry_room (by exact hlen) (.inr hwaits)]
  rfl

theorem holdJoinsDrain : Claims.HoldJoinsDrain := by
  intro p f b s hs hp hkept hk hb hother hdrain hfull hh hq hlen
  dsimp only
  intro h7 ha hgo hreq
  have hx : entryEnd (keepSlot (some p.other) (taken p s)) p b = .accepted .hold :=
    (entryEnd_of_map (by simp [keepSlot, taken]) p b).trans (entryEnd_accepted h7 ha (by decide) (.inr hgo))
  have hwaits : drainWaits (keepSlot (some p.other) (taken p s)) = true := by
    refine drainWaits_iff.2 ⟨p, ?_⟩
    simpa [keepSlot, link_setWire, (taken_link _ _ _).2] using hdrain
  have hd : (keepSlot (some p.other) (taken p s)).eng.due = .nothing := taken_rest hs
  have hpsc : (keepSlot (some p.other) (taken p s)).psc = s.psc := (taken_fields p s).1
  have hentry : handleEntry p (keepSlot (some p.other) (taken p s), []) b =
      (keepSlot (some p.other) ((taken p s).setWire { (taken p s).wire with
        level := poke s.wire.level (Fin.ofNat 64 b.toNat) (b.getLsbD 6),
        queue := s.wire.queue ++ [{ wire := Fin.ofNat 64 b.toNat, level := b.getLsbD 6 }] }), []) := by
    rw [handleEntry_joins hx hd (by rw [hpsc]; exact hreq) hwaits (by simpa [keepSlot, taken] using hq)
      (by simpa [keepSlot, taken] using hlen)]
    simp [keepSlot, taken, setLevel, joined]
    rfl
  refine exec_wireOffered hs hp hk (es := []) (t := (taken p s).setWire { (taken p s).wire with
    level := poke s.wire.level (Fin.ofNat 64 b.toNat) (b.getLsbD 6),
    queue := s.wire.queue ++ [{ wire := Fin.ofNat 64 b.toNat, level := b.getLsbD 6 }] }) (by rw [hb]; exact hentry) (keepSlot_again (by simpa [taken] using hkept))
    ?_ (by exact taken_rest hs) fun q => ?_
  · rw [link_setWire, (taken_link _ _ _).1]
  · refine canTakeOldest_of_idle ?_
    unfold PortIdle
    rw [if_pos rfl, link_setWire, (taken_link _ _ _).1, (taken_link _ _ _).2]
    obtain rfl | rfl := eq_or_other p q
    · exact .inr hfull
    · exact .inl hother

theorem requestTaken_keepSlot {a : State → Prop} (h : RequestTaken q (keepSlot k s) a) :
    RequestTaken q s fun t => a (keepSlot k t) := h

/-- A request event leaves the ports, and the slot kept for a frame that is handled. -/
theorem requestTaken_ports : RequestTaken q s fun t => t.hub = s.hub ∧ t.board = s.board ∧ t.wire.kept = s.wire.kept ∧
    (s.eng.due = .nothing → t.eng.due = .nothing) := by
  exact ⟨fun _ => ⟨rfl, rfl, rfl, id⟩, fun _ _ => ⟨rfl, rfl, rfl, id⟩, fun _ _ _ _ _ hl => ⟨rfl, rfl, rfl, fun _ => rfl⟩,
    fun l _ => ⟨fun _ _ => ⟨rfl, rfl, rfl, id⟩, fun _ _ => ⟨rfl, rfl, rfl, id⟩, fun _ _ _ _ => ⟨rfl, rfl, rfl, id⟩, fun _ _ _ _ => ⟨rfl, rfl, rfl, id⟩,
      fun _ _ _ hp _ => ⟨rfl, rfl, rfl, fun _ => rfl⟩⟩⟩

theorem wireEntryRequests : Claims.WireEntryRequests := by
  intro p f b s h hk hb
  dsimp only
  intro h7 ha hgo hq
  replace ha : (peek s.wire.map (entryOf b).wire).action = .track ∨ (peek s.wire.map (entryOf b).wire).action = .consume := ha
  obtain ⟨hs, hp, hkept, hhub, hboard⟩ := id h
  have hown : (peek s.wire.map (entryOf b).wire).action ≠ .own := by
    rcases ha with ha | ha <;> exact fun h => absurd (ha.symm.trans h) (by decide)
  have hx := (entryEnd_of_map (s := s) (t := keepSlot (some p.other) (taken p s)) (by simp [keepSlot, taken]) p b).trans
    (entryEnd_accepted h7 rfl hown (.inr hgo))
  have hd : (taken p s).eng.due = .nothing := taken_rest hs
  have hpsc : (keepSlot (some p.other) (taken p s)).psc = s.psc := (taken_fields p s).1
  have hlevel : (keepSlot (some p.other) (taken p s)).wire.level = s.wire.level := by simp [keepSlot, taken]
  have hrecord : recordEntry (entryOf b) (keepSlot (some p.other) (taken p s)) = runChain (requestEvent
      (requestedOf s.psc.policy0 (poke s.wire.level (entryOf b).wire (entryOf b).level))
      (keepSlot (some p.other) ((taken p s).setWire { (taken p s).wire with
        level := poke s.wire.level (entryOf b).wire (entryOf b).level }))) := by
    rw [recordEntry_changes (by unfold requested; rw [hpsc, hlevel]; exact hq), hpsc, hlevel]
    congr 2
  have hevent := requestTaken_and (requestTaken_keepSlot (k := some p.other) (requestTaken
    (s := keepSlot (some p.other) ((taken p s).setWire { (taken p s).wire with
      level := poke s.wire.level (entryOf b).wire (entryOf b).level }))
    (requestedOf s.psc.policy0 (poke s.wire.level (entryOf b).wire (entryOf b).level)) hd)) requestTaken_ports
  refine requestTaken_mono hevent fun t ⟨ht, hhubt, hboardt, hkeptt, hdue⟩ => ?_
  have hlink (q : Port) : link t q = link (taken p s) q := by
    cases q
    · exact hhubt
    · exact hboardt
  have hempty (q : Port) : (link t q).waiting = [] := by
    rw [hlink, (taken_link _ _ _).2]
    cases q <;> assumption
  rw [← hrecord] at ht
  have hentry : handleEntry p (keepSlot (some p.other) (taken p s), []) b = (keepSlot (some p.other) t,
      if (peek s.wire.map (entryOf b).wire).action = .track then [entryOf b] else []) := by
    rw [handleEntry_accepted hx, ht]
    rcases ha with ha | ha <;> rw [ha] <;> rfl
  refine (exec_wireEntries h hk (by rw [hb]; exact hentry) (keepSlot_again (by rw [hkeptt]; simpa [taken] using hkept))
    (by rw [hlink, (taken_link _ _ _).1]) hempty (hdue hd)).trans ?_
  have hframe : wireFrame f.tag [entryOf b] =
      { kind := .wire, route := false, bit6 := false, tag := f.tag, payload := [b] } := by
    simp [wireFrame, entryByte_entryOf h7]
  refine congrArg _ ?_
  change _ = if (peek s.wire.map (entryOf b).wire).action = .track then sentOn p.other _ t else t
  rcases ha with ha | ha
  · rw [if_pos ha, if_pos ha, if_neg (List.cons_ne_nil _ _), hframe]
  · have hnot : ¬(peek s.wire.map (entryOf b).wire).action = .track := by rw [ha]; decide
    rw [if_neg hnot, if_neg hnot, if_pos rfl]

end Sys2Proof.Machine

/-! PROOFS. The order of one wire's entries through a drain that the frame itself sets going. -/

namespace Sys2Proof.Machine

variable {s t u : State} {p : Port} {f : Frame} {b : Byte} {es : List WireLevel} {q : Level} {k : Option Port} {d : Direction}

theorem takable_of_picked (h : picked s = some (p, f)) : takable s p f = true := by
  have hoff {q : Port} {g : Frame} (hg : offered s q = some g) : takable s q g = true := by
    unfold offered at hg
    split at hg
    · cases hg
    · split at hg
      next ht =>
        cases hg
        exact ht
      · cases hg
  unfold picked at h
  split at h
  next g hg =>
    cases h
    exact hoff hg
  · obtain ⟨g, hg, heq⟩ := Option.map_eq_some_iff.1 h
    cases heq
    exact hoff hg

/-- A WIRE frame is taken only while the link is not reset: it needs a slot (R115, R147). -/
theorem lrst_of_picked (h : picked s = some (p, f)) (hk : f.kind = .wire) : s.lrst = false := by
  have ht := takable_of_picked h
  unfold takable at ht
  rw [hk] at ht
  simp only [forwardSlot, slotFree, Bool.and_eq_true, Bool.not_eq_true'] at ht
  exact ht.1.2

/-- A drain frame does not take the slot kept for a frame that is handled (R120). -/
theorem canTakeOldest_of_keptDrain (hk : s.wire.kept = some p) (hw : (link s p).waiting.head? = some .drain) :
    canTakeOldest s p = false := by
  simp [canTakeOldest, drainBehindKept, hk, hw]

/-- Back-out into a list that is one END, while a WIRE frame is handled whose slot is kept: hold is lifted and the drain
frame waits behind it (R11, R28, R120, R124). -/
theorem runChain_backOut_end (hu : s.eng.urg.running = false)
    (hc : s.eng.wait = .none ∨ s.eng.cur.kind ≠ .pulse ∧ s.eng.cur.kind ≠ .sendWire)
    (hk : (peek s.eng.steps (peek s.psc.trans (entryIndex s.psc.current s.psc.target)).backout.value).kind = .endList)
    (hh : s.hub.waiting = []) (hb : s.board.waiting = []) (hl : s.lrst = false) (hkept : s.wire.kept = some (portOf d))
    (hhold : s.wire.hold = true) (hq : s.wire.queue ≠ []) (hdir : ∀ e ∈ s.wire.queue, wireDir s e.wire = d) :
    runChain (backOut s) = releasing (backedOut s) d := by
  have hlift {x : State} (hx : x.hub = s.hub ∧ x.board = s.board ∧ x.lrst = s.lrst ∧ x.wire = s.wire) :
      liftHold x = releasing x d := by
    obtain ⟨hxh, hxb, hxl, hxw⟩ := hx
    unfold liftHold
    rw [if_pos (by rw [hxw]; exact hhold), ensureDrain_releasing (by rw [hxh]; exact hh) (by rw [hxb]; exact hb)
      (by rw [hxl]; exact hl) (by rw [hxw]; exact hq) (d := d) (by
        rw [hxw]
        intro e he
        rw [wireDir_of_map (s := s) (by rw [hxw])]
        exact hdir e he)]
    refine pump_of_offered fun p => ?_
    obtain rfl | rfl := eq_or_other (portOf d) p
    · exact canTakeOldest_of_keptDrain (by simp [releasing, hxw, hkept]) (by simp [releasing])
    · refine canTakeOldest_of_empty ?_
      unfold releasing
      rw [link_setLink_ne _ _ (other_ne _), link_setWire]
      cases (portOf d).other
      · exact (congrArg Link.waiting hxh).trans hh
      · exact (congrArg Link.waiting hxb).trans hb
  have hbegin : runChain (backOut s) =
      runChain (beginEnd ((backedOut s).setEng { (backedOut s).eng with wait := .none })) := by
    unfold backOut
    rw [cutStep_plain hc, runChain_beginRun (b := false) rfl (by simp [channelRuns, startNorm]), beginRun]
    dsimp only
    rw [enterRun_normal _ (by exact hu), runKind_of_endList _ (by exact hk)]
    rfl
  rw [hbegin, beginEnd]
  dsimp only
  rw [hlift (x := (backedOut s).setEng { (backedOut s).eng with wait := .none }) ⟨rfl, rfl, rfl, rfl⟩,
    if_neg (by cases d <;> exact hq)]
  have hsame : awaitStep (releasing ((backedOut s).setEng { (backedOut s).eng with wait := .none }) d) =
      releasing (backedOut s) d := by
    cases d <;> rfl
  rw [hsame]
  exact runChain_of_rest (by cases d <;> rfl)

/-- The last drain frame takes a free slot as it is offered one, and the empty queue is handed on (R124, R146). -/
theorem pump_lastDrain (h : LastDrain s d) : pump s = handOnDrained (drained s d) := by
  have htake := takeOldest_drain (ready_of_lastDrain h)
  rw [drainedPart_of_lastDrain h] at htake
  obtain ⟨-, -, -, -, hw, htx, hother, hlrst, hkept⟩ := h
  rw [pump_of_take (canTakeOldest_of_open hlrst hkept (by simp [hw]) htx) ?_ ?_, htake]
  · generalize portOf d = p at hother
    cases p with
    | hub => exact .inl rfl
    | board => exact .inr (canTakeOldest_of_empty (p := .hub) hother)
  · rw [htake]
    intro p
    refine canTakeOldest_of_empty ?_
    rw [handOnDrained_link]
    unfold drained
    obtain rfl | rfl := eq_or_other (portOf d) p
    · simp [link_setWire]
    · rw [link_setWire, link_setLink_ne _ _ (other_ne _)]
      exact hother

/-- The last drain frame takes its slot, which ends the END that waits for it, and the list settles (R15, R28). -/
theorem runChain_pump_settles (h : LastDrain s d) (hn : s.eng.norm.st = .running) (hu : s.eng.urg.running = false)
    (hw : s.eng.wait = .step) (hk : s.eng.cur.kind = .endList) (hslot : s.psc.slot = none) (ht : s.psc.target ≠ .working)
    (hdet : ∀ n : Fin 9, (peek s.wake.det n).active = false) : runChain (pump s) = settledNorm (drained s d) := by
  obtain ⟨heng, hq, hpsc, -, hwake, -⟩ := drained_fields s d
  rw [pump_lastDrain h, handOnDrained_stepping (.inl (by rw [heng]; exact hk)) (by rw [heng]; exact hw)
    (by simp [channelRuns, heng, hn]) hq, runChain_ended_normal (by rw [heng]; exact hn) (by rw [heng]; exact hu),
    endNorm_settles (by rw [heng]; exact hk), settle_idled (by rw [hpsc]; exact hslot) (by rw [hpsc]; exact ht)
      (by rw [hwake]; exact hdet)]
  exact runChain_of_rest rfl

/-- An entry on a PASS wire is recorded and forwarded (R119). -/
theorem handleEntry_passes (hx : entryEnd s p b = .accepted .pass) (hd : s.eng.due = .nothing)
    (hreq : (entryOf b).wire ∉ [s.psc.policy0.reqSusp, s.psc.policy0.reqHib, s.psc.policy0.reqOff]) :
    handleEntry p (s, es) b = (setLevel (entryOf b).wire (entryOf b).level s, es ++ [entryOf b]) := by
  rw [handleEntry_accepted hx, recordEntry_same hd (requestedOf_poke hreq _)]
  rfl

/-- A consumed entry that asks for the from-level begins back-out, and the drain with it (R10, R11, R119). -/
theorem handleEntry_backsOut (hx : entryEnd s p b = .accepted .consume) (hst : s.psc.state = .transit)
    (hne : requested s ≠ s.psc.current) (hct : s.psc.current ≠ s.psc.target) (hback : MayBackOut s s.psc.current)
    (hreq : requestedOf s.psc.policy0 (poke s.wire.level (entryOf b).wire (entryOf b).level) = s.psc.current)
    (hrun : runChain (backOut (setLevel (entryOf b).wire (entryOf b).level s)) = t) :
    handleEntry p (s, es) b = (t, es) := by
  rw [handleEntry_accepted hx, recordEntry_changes (by rw [hreq]; exact hne.symm), hreq,
    requestEvent_transit _ (by exact hst), requestInTransit_back (by exact hct) (by exact hback), hrun]
  rfl

/-- The state once an entry that is forwarded and one that begins back-out have been handled (R11, R119, R124). -/
def drainBegun (p : Port) (a b : Byte) (s : State) : State :=
  releasing (backedOut (setLevel (entryOf b).wire (entryOf b).level (setLevel (entryOf a).wire (entryOf a).level s)))
    (arrivesOn p)

theorem portOf_arrivesOn (p : Port) : portOf (arrivesOn p) = p.other := by cases p <;> rfl

theorem drainBegun_same (p : Port) (a b : Byte) (s : State) : (drainBegun p a b s).wire.map = s.wire.map ∧
    (drainBegun p a b s).wire.queue = s.wire.queue ∧ (drainBegun p a b s).psc.policy0 = s.psc.policy0 ∧
    (drainBegun p a b s).eng.due = .nothing ∧ drainWaits (drainBegun p a b s) = true := by
  refine ⟨?_, ?_, ?_, ?_, ?_⟩
  on_goal 5 => refine drainWaits_iff.2 ⟨p.other, ?_⟩
  all_goals cases p <;> simp [drainBegun, releasing, arrivesOn, portOf, setLevel, backedOut, link, Port.other]

/-- The three entries handled in order: the first is forwarded, the second begins back-out and the drain, the third
joins the entries held (R119, R120, R122). -/
theorem handleEntries_drain {a b c : Byte} (hst : s.psc.state = .transit) (hu : s.eng.urg.running = false)
    (hcut : s.eng.wait = .none ∨ s.eng.cur.kind ≠ .pulse ∧ s.eng.cur.kind ≠ .sendWire) (hd : s.eng.due = .nothing)
    (hhold : s.wire.hold = true) (hq : s.wire.queue ≠ []) (hlen : s.wire.queue.length < 16)
    (hh : s.hub.waiting = []) (hb : s.board.waiting = []) (hl : s.lrst = false) (hkept : s.wire.kept = some p.other)
    (hdir : ∀ e ∈ s.wire.queue, wireDir s e.wire = arrivesOn p)
    (ha : entryEnd s p a = .accepted .pass) (hbe : entryEnd s p b = .accepted .consume)
    (hc : entryEnd s p c = .accepted .hold)
    (har : (entryOf a).wire ∉ [s.psc.policy0.reqSusp, s.psc.policy0.reqHib, s.psc.policy0.reqOff])
    (hcr : (entryOf c).wire ∉ [s.psc.policy0.reqSusp, s.psc.policy0.reqHib, s.psc.policy0.reqOff])
    (hreq : requestedOf s.psc.policy0 (poke (poke s.wire.level (entryOf a).wire (entryOf a).level)
      (entryOf b).wire (entryOf b).level) = s.psc.current)
    (hne : requested s ≠ s.psc.current) (hct : s.psc.current ≠ s.psc.target) (hback : MayBackOut s s.psc.current)
    (hend : (peek s.eng.steps (peek s.psc.trans (entryIndex s.psc.current s.psc.target)).backout.value).kind = .endList) :
    [a, b, c].foldl (handleEntry p) (s, []) = (joined c (drainBegun p a b s), [entryOf a]) := by
  have hasked : requested (setLevel (entryOf a).wire (entryOf a).level s) ≠ s.psc.current := by
    intro h
    exact hne ((requestedOf_poke har _).symm.trans h)
  have hsecond := handleEntry_backsOut (s := setLevel (entryOf a).wire (entryOf a).level s) (es := [entryOf a])
    ((entryEnd_of_map rfl p b).trans hbe) hst hasked hct hback hreq
    (runChain_backOut_end (s := setLevel (entryOf b).wire (entryOf b).level (setLevel (entryOf a).wire (entryOf a).level s))
      (d := arrivesOn p) hu hcut hend hh hb hl (by rw [portOf_arrivesOn]; exact hkept) hhold hq hdir)
  obtain ⟨hmap, hqueue, hpol, hdue, hwaits⟩ := drainBegun_same p a b s
  rw [List.foldl_cons, handleEntry_passes ha hd har, List.foldl_cons, List.nil_append, hsecond, List.foldl_cons, List.foldl_nil]
  exact handleEntry_joins (s := drainBegun p a b s) ((entryEnd_of_map hmap p c).trans hc) hdue (by rw [hpol]; exact hcr) hwaits (by rw [hqueue]; exact hq)
    (by rw [hqueue]; exact hlen)

theorem drainKeepsOrder : Claims.DrainKeepsOrder := by
  intro p f a b c s h hk hpay hst hn hu hw hpulse hsend hhold hq hlen htx hdet hcur
  dsimp only
  intro hdir ha7 ha har hb7 hb hbd hc7 hc hcd hcr hreq hne hct hback hend
  obtain ⟨hs, hp, hkept, hhub, hboard⟩ := id h
  have hlrst := lrst_of_picked hp hk
  have hpsc : (keepSlot (some p.other) (taken p s)).psc = s.psc := (taken_fields p s).1
  have heng : (keepSlot (some p.other) (taken p s)).eng = s.eng := (taken_fields p s).2.1
  have hlevel : (keepSlot (some p.other) (taken p s)).wire.level = s.wire.level := by simp [keepSlot, taken]
  have hmap : (keepSlot (some p.other) (taken p s)).wire.map = s.wire.map := by simp [keepSlot, taken]
  have hlink (q : Port) : (link (keepSlot (some p.other) (taken p s)) q).waiting = [] := by
    rw [keepSlot, link_setWire, (taken_link _ _ _).2]
    cases q <;> assumption
  have hfold := handleEntries_drain (s := keepSlot (some p.other) (taken p s)) (p := p) (a := a) (b := b) (c := c)
    (by rw [hpsc]; exact hst) (by rw [heng]; exact hu) (by rw [heng]; exact .inr ⟨hpulse, hsend⟩) (taken_rest hs)
    (by simpa [keepSlot, taken] using hhold) (by simpa [keepSlot, taken] using hq)
    (by simp [keepSlot, taken]; omega)
    (hlink .hub) (hlink .board) (by simpa [keepSlot, taken] using hlrst) rfl
    (fun e he => (wireDir_of_map hmap).trans (hdir e (by simpa [keepSlot, taken] using he)))
    ((entryEnd_of_map hmap p a).trans (entryEnd_accepted ha7 ha (by decide) (.inl rfl)))
    ((entryEnd_of_map hmap p b).trans (entryEnd_accepted hb7 hb (by decide) (.inr hbd)))
    ((entryEnd_of_map hmap p c).trans (entryEnd_accepted hc7 hc (by decide) (.inr hcd)))
    (by rw [hpsc]; exact har) (by rw [hpsc]; exact hcr) (by rw [hpsc, hlevel]; exact hreq)
    (by unfold requested; rw [hpsc, hlevel]; exact hne) (by rw [hpsc]; exact hct) (by unfold MayBackOut; rw [hpsc]; exact hback)
    (by rw [heng, hpsc]; exact hend)
  rw [← hpay] at hfold
  rw [exec_wireFrame hs hp hk, handleWire_eq hfold ?_, if_neg (List.cons_ne_nil _ _), queueTx_eq,
    runChain_pump_settles (d := arrivesOn p) ?_ ?_ ?_ ?_ ?_ ?_ ?_ ?_]
  · refine congrArg (fun x => Host.Outcome.next (settledNorm x)) ?_
    have hdue : s.eng.due = .nothing := hs.2
    cases p
    all_goals
      simp [drained, sentOn, keepSlot, joined, drainBegun, releasing, backedOut, setLevel, taken, link, hkept, hhub, hboard,
        hw, hdue, arrivesOn, portOf, Port.other]
      rfl
  · have hdirs : ∀ e ∈ s.wire.queue ++ [entryOf c], (peek s.wire.map e.wire).dir = arrivesOn p := by
      intro e he
      obtain he | he := List.mem_append.1 he
      · exact hdir e he
      · rw [List.mem_singleton.1 he]
        exact hcd
    have hlength : (s.wire.queue ++ [entryOf c]).length ≤ 8 := by
      rw [List.length_append]
      exact hlen
    have hsent : ((link s p.other).tx ++ [wireFrame f.tag [entryOf a]]).length < 8 := by
      rw [List.length_append]
      exact Nat.succ_lt_succ htx
    cases p
    · exact ⟨rfl, List.concat_ne_nil _ _, hlength, hdirs, rfl, hsent, hhub, hlrst, rfl⟩
    · exact ⟨rfl, List.concat_ne_nil _ _, hlength, hdirs, rfl, hsent, hboard, hlrst, rfl⟩
  · cases p <;> rfl
  · cases p <;> exact hu
  · cases p <;> rfl
  · cases p <;> exact hend
  · cases p <;> rfl
  · cases p <;> exact hcur
  · cases p <;> exact hdet
  · cases p <;> rfl

/-- Settles O44: one entry and several entries, an entry that joins the drain, one that raises a request event, and the
order of one wire's entries through a drain. -/
theorem wireEntryTaken : Obligations.WireEntryTaken :=
  ⟨oneWireEntry, wireEntries, holdJoinsDrain, wireEntryRequests, drainKeepsOrder⟩

end Sys2Proof.Machine

/-! PROOFS. The read requests: their answers, their ranges, and the read units an answer carries. -/

namespace Sys2Proof.Machine

variable {s t u : State} {p : Port} {f : Frame} {st : Status} {act : List Byte → State → Answer} {id start count fuel room i : Nat}

/-! ## The answers (R151, R152, R153, R154) -/

theorem exec_unknownOp (hr : Requests s p f) (hop : opKnown f.payload = false) :
    exec .unknownOp s = .next (answered p f 5 [] (taken p s)) := by
  obtain ⟨⟨hs, hp, -⟩, hk, hroute⟩ := hr
  refine whilePowered_next hs.1 ((takeNext_of_picked _ hp (by simp [hk, hroute, hop])).trans ?_) (taken_rest hs)
  rfl

/-- A read request that is answered OK (R153, R154). -/
theorem serve_read {data : List Byte} {row : List Byte → Bool} (hr : Requests s p f) (hl : s.psc.state ≠ .loading)
    (hop : opOf f.payload = 1 ∨ opOf f.payload = 2) (hrow : row f.payload = true)
    (ha : act f.payload (taken p s) = { status := .ok, data := data, state := used (taken p s) }) :
    serve row act s = .next (answered p f 0 data ((taken p s).setUses (s.uses + 1))) := by
  have hrest : (used (taken p s)).eng.due = .nothing := taken_rest hr.1.1
  have hused : used (taken p s) = (taken p s).setUses (s.uses + 1) := by
    have huses : (taken p s).uses = s.uses := by simp [taken]
    rw [used, huses]
  rw [← hused]
  refine serve_eq (a := { status := .ok, data := data, state := used (taken p s) }) hr (opKnown_iff.2 (by omega)) hrow ?_
    (runChain_of_rest hrest) hrest
  rw [guarded_act (by rw [(taken_fields p s).1]; exact hl) (.inr (by omega)), ha]

/-- A read request that is answered RANGE. -/
theorem serve_readRange {row : List Byte → Bool} (hr : Requests s p f) (hl : s.psc.state ≠ .loading)
    (hop : opOf f.payload = 1 ∨ opOf f.payload = 2) (hrow : row f.payload = true)
    (ha : act f.payload (taken p s) = deny .range (taken p s)) :
    serve row act s = .next (answered p f 3 [] (taken p s)) :=
  serve_denied (st := .range) hr (opKnown_iff.2 (by omega)) hrow
    ((guarded_act (by rw [(taken_fields p s).1]; exact hl) (.inr (by omega))).trans ha)

/-- A read request in LOADING is answered BUSY. -/
theorem serve_readBusy {row : List Byte → Bool} (hr : Requests s p f) (hl : s.psc.state = .loading)
    (hop : opOf f.payload = 1 ∨ opOf f.payload = 2) (hrow : row f.payload = true) :
    serve row act s = .next (answered p f 2 [] (taken p s)) :=
  serve_denied (st := .busy) hr (opKnown_iff.2 (by omega)) hrow
    (guarded_loading (by rw [(taken_fields p s).1]; exact hl))

theorem exec_readStatus (s : State) : exec .readStatus s = serve (fun req => decide (opOf req = 1)) readStatusAct s := rfl
theorem exec_readTable (s : State) : exec .readTable s = serve (fun req => decide (opOf req = 2)) readTableAct s := rfl

theorem readAnswers : Claims.ReadAnswers := by
  intro p f s hr
  dsimp only
  refine ⟨fun hop => exec_unknownOp hr ?_, fun hl hp => ?_, fun id start count hl hp => ⟨fun hok => ?_, fun hok => ?_⟩⟩
  · rw [← Bool.not_eq_true, opKnown_iff]
    obtain hnil | hop := hop
    · rw [hnil]
      decide
    · unfold opOf
      omega
  · rw [exec_readStatus]
    refine serve_read hr hl (by rw [hp]; exact .inl rfl) (by rw [hp]; rfl) ?_
    rw [hp]
    rfl
  · rw [exec_readTable]
    refine serve_read hr hl (by rw [hp]; exact .inr rfl) (by rw [hp]; rfl) ?_
    rw [hp]
    exact if_neg (by simpa using hok)
  · rw [exec_readTable]
    refine serve_readRange hr hl (by rw [hp]; exact .inr rfl) (by rw [hp]; rfl) ?_
    rw [hp]
    exact if_pos (by simpa using hok)

/-! ## The ranges (R154) -/

theorem unitCount_pos_iff : 0 < unitCount id ↔ 1 ≤ id ∧ id ≤ 13 := by
  constructor
  · intro h
    by_contra hout
    obtain h0 | h14 : id = 0 ∨ 14 ≤ id := by omega
    · subst h0
      exact absurd h (by decide)
    · have : unitCount id = 0 := List.getD_eq_default _ _ h14
      omega
  · rintro ⟨h1, h13⟩
    interval_cases id <;> decide

theorem diagonal_iff (h : start < 16) : start % 5 = 0 ↔ start ∈ [0, 5, 10, 15] := by
  simp only [List.mem_cons, List.not_mem_nil, or_false]
  omega

theorem readOk_iff : readOk id start count = true ↔ start < unitCount id ∧ count ≠ 0 ∧ ¬(id = 3 ∧ start % 5 = 0) := by
  simp [readOk, and_assoc, imp_iff_not_or]

theorem readRanges : Claims.ReadRanges := by
  refine ⟨fun id start count => ?_, fun p f s hr => ?_⟩
  · have hunits : tableUnits id = unitCount id := rfl
    rw [readOk_iff, hunits]
    constructor
    · rintro ⟨hlt, hc, hd⟩
      obtain ⟨h1, h13⟩ := unitCount_pos_iff.1 (Nat.zero_lt_of_lt hlt)
      refine ⟨h1, h13, hlt, hc, fun ⟨h3, hm⟩ => hd ⟨h3, ?_⟩⟩
      subst h3
      exact (diagonal_iff hlt).2 hm
    · rintro ⟨-, -, hlt, hc, hd⟩
      refine ⟨hlt, hc, fun ⟨h3, hm⟩ => hd ⟨h3, ?_⟩⟩
      subst h3
      exact (diagonal_iff hlt).1 hm
  · dsimp only
    refine ⟨fun hl hop => ?_, fun hl hop => ?_, fun hl hop hn => ?_, fun hl hop hn => ?_⟩
    · rw [exec_readStatus]
      exact serve_readBusy hr hl (.inl hop) (decide_eq_true hop)
    · rw [exec_readTable]
      exact serve_readBusy hr hl (.inr hop) (decide_eq_true hop)
    · rw [exec_readStatus]
      exact serve_readRange hr hl (.inl hop) (decide_eq_true hop) (if_pos hn)
    · rw [exec_readTable]
      refine serve_readRange hr hl (.inr hop) (decide_eq_true hop) (if_pos ?_)
      rw [Bool.or_eq_true, decide_eq_true_eq]
      exact .inl hn

/-! ## The units an answer carries (R154, R160) -/

theorem ite_some {α : Type} {c : Prop} [Decidable c] {a : α} {o : Option α} (h : ∃ u, o = some u) :
    ∃ u, (if c then some a else o) = some u := by
  split
  · exact ⟨_, rfl⟩
  · exact h

/-- Every index of a table other than TRANSITION holds a read unit. -/
theorem readUnit_some (s : State) (hid : id ≠ 3) (i : Nat) : ∃ u, readUnit s id i = some u := by
  unfold readUnit
  rw [if_neg hid]
  exact ite_some (ite_some (ite_some (ite_some (ite_some (ite_some (ite_some (ite_some (ite_some (ite_some (ite_some
    ⟨_, rfl⟩))))))))))

/-- What `us` holds: the units from index `i` on, as many as were asked for, exist and fit. -/
abbrev Gathered (s : State) (id fuel i count room : Nat) (us : List (List Byte)) : Prop :=
  us.flatten.length ≤ room ∧ us.length ≤ count ∧ us.length ≤ fuel ∧
    (∀ j : Nat, j < us.length → us[j]? = readUnit s id (i + j)) ∧
    (us.length = count ∨ us.length = fuel ∨
      ∃ u : List Byte, readUnit s id (i + us.length) = some u ∧ room < us.flatten.length + u.length)

theorem gather_gathered (hid : id ≠ 3) (fuel i count room : Nat) :
    Gathered s id fuel i count room (gather s id fuel i count room) := by
  induction fuel generalizing i count room with
  | zero => exact ⟨Nat.zero_le _, Nat.zero_le _, Nat.le_refl _, by simp [gather], .inr (.inl rfl)⟩
  | succ fuel ih =>
    obtain ⟨u, hu⟩ := readUnit_some s hid i
    unfold gather
    rw [hu]
    dsimp only
    split_ifs with hc hroom
    · exact ⟨Nat.zero_le _, Nat.zero_le _, Nat.zero_le _, by simp, .inl hc.symm⟩
    · obtain ⟨hfits, hcount, hfuel, heach, hend⟩ := ih (i + 1) (count - 1) (room - u.length)
      refine ⟨?_, ?_, ?_, fun j hj => ?_, ?_⟩
      · simp only [List.flatten_cons, List.length_append]
        omega
      · simp only [List.length_cons]
        omega
      · simp only [List.length_cons]
        omega
      · cases j with
        | zero => exact hu.symm
        | succ j =>
          rw [List.getElem?_cons_succ, heach j (by simpa using hj), Nat.add_right_comm, Nat.add_assoc]
      · simp only [List.length_cons, List.flatten_cons, List.length_append]
        obtain hend | hend | ⟨v, hv, hlt⟩ := hend
        · exact .inl (by omega)
        · exact .inr (.inl (by omega))
        · refine .inr (.inr ⟨v, ?_, by omega⟩)
          rw [← hv]
          congr 1
          omega
    · exact ⟨Nat.zero_le _, Nat.zero_le _, Nat.zero_le _, by simp, .inr (.inr ⟨u, hu, by simp; omega⟩)⟩

theorem readDataLayout : Claims.ReadDataLayout := by
  intro s id start count hok hid _
  obtain ⟨hlt, -, -⟩ := readOk_iff.1 hok
  obtain ⟨hfits, hcount, hfuel, heach, hend⟩ :=
    gather_gathered (s := s) hid (unitCount id - start) start count unitRoom
  refine ⟨_, rfl, hfits, hcount, Nat.add_le_of_le_sub' hlt.le hfuel, heach, ?_⟩
  exact hend.imp_right fun h => h.imp_left fun h => (congrArg (start + ·) h).trans (Nat.add_sub_cancel' hlt.le)

/-! ## A read of TRANSITION (R154) -/

theorem encodeTrans_length (e : TransEntry) : (encodeTrans e).length = 3 := rfl

/-- The entries gathered pass over the diagonal. -/
theorem gather_transition (fuel i count room : Nat) : gather s 3 fuel i count room =
    (((List.range' i fuel).filter fun j => decide (j % 5 ≠ 0)).take (min count (room / 3))).map
      fun j => encodeTrans (peek s.psc.trans (Fin.ofNat 16 j)) := by
  induction fuel generalizing i count room with
  | zero => simp [gather]
  | succ fuel ih =>
    have hunit : readUnit s 3 i = if i % 5 = 0 then none else some (encodeTrans (peek s.psc.trans (Fin.ofNat 16 i))) := rfl
    unfold gather
    rw [hunit, List.range'_succ, List.filter_cons]
    by_cases hc : count = 0
    · simp [hc]
    · by_cases hd : i % 5 = 0
      · simp [hc, hd, ih]
      · by_cases hroom : 3 ≤ room
        · have hleft : min (count - 1) ((room - 3) / 3) + 1 = min count (room / 3) := by omega
          simp [hc, hd, encodeTrans_length, hroom, ih, ← hleft]
        · have hnone : room / 3 = 0 := by omega
          simp [hc, hd, encodeTrans_length, hroom, hnone]

/-- The indexes from `start` on that are not diagonal. -/
theorem offDiagonal : ∀ start : Fin 16, ((List.range' start.val (16 - start.val)).filter fun j => decide (j % 5 ≠ 0)) =
    ((List.finRange 16).filter fun i : Fin 16 => decide (start.val ≤ i.val ∧ i.val ∉ [0, 5, 10, 15])).map Fin.val := by
  decide

theorem transitionRead : Claims.TransitionRead := by
  intro s start count hlt hd hc
  have hgather : gather s 3 (unitCount 3 - start) start count unitRoom =
      (((List.finRange 16).filter fun i : Fin 16 => decide (start ≤ i.val ∧ i.val ∉ [0, 5, 10, 15])).take (min count 3)).map
        fun i => encodeTrans (peek s.psc.trans i) := by
    have hunits : unitCount 3 - start = 16 - start := rfl
    rw [gather_transition, hunits, offDiagonal ⟨start, hlt⟩, ← List.map_take, List.map_map]
    refine List.map_congr_left fun i _ => ?_
    exact congrArg (fun j => encodeTrans (peek s.psc.trans j)) (Fin.ofNat_val_eq_self i)
  unfold readData
  dsimp only
  rw [hgather, List.length_map, List.flatMap_def]
  rfl

theorem recordUnits : Claims.RecordUnits := by
  intro s
  refine ⟨fun n => ?_, fun n => ?_, fun n => ?_, fun n => ?_, fun n => ?_, rfl, rfl⟩
  · exact congrArg (fun i => some (encodeRail (peek s.rails.table i))) (Fin.ofNat_val_eq_self n)
  · exact congrArg (fun i => some (encodeStep (peek s.eng.steps i))) (Fin.ofNat_val_eq_self n)
  · have hunit : readUnit s 3 n.val = if n.val % 5 = 0 then none else some (encodeTrans (peek s.psc.trans (Fin.ofNat 16 n.val))) := rfl
    rw [hunit, Fin.ofNat_val_eq_self, if_congr (diagonal_iff n.isLt) rfl rfl]
  · exact congrArg (fun i => some (encodeWire (peek s.wire.map i))) (Fin.ofNat_val_eq_self n)
  · exact congrArg (fun i => some (encodeWake (peek s.wake.table i))) (Fin.ofNat_val_eq_self n)

end Sys2Proof.Machine

/-! PROOFS. What a read carries: the layouts of the status record and of the read units of the read-only tables. -/

namespace Sys2Proof.Machine

variable {s : State} {bs : List Byte} {k m n i : Nat} {r : Report}

/-! ## Numbers in bytes -/

/-- Three bytes that hold a number, least significant first. -/
theorem le3_of_bytes (hn : n ≤ 16777215) (h0 : byteAt bs i = byteOf n) (h1 : byteAt bs (i + 1) = byteOf (n / 256))
    (h2 : byteAt bs (i + 2) = byteOf (n / 256 / 256)) : le2 bs i + 65536 * (byteAt bs (i + 2)).toNat = n := by
  simp only [le2, h0, h1, h2, toNat_byteOf_mod]
  omega

/-- Four bytes that hold a tick, least significant first. -/
theorem le4_of_tick {t : Tick} (h0 : byteAt bs i = byteOf t.toNat) (h1 : byteAt bs (i + 1) = byteOf (t.toNat / 256))
    (h2 : byteAt bs (i + 2) = byteOf (t.toNat / 256 / 256)) (h3 : byteAt bs (i + 3) = byteOf (t.toNat / 256 / 256 / 256)) :
    le4 bs i = t.toNat := by
  have hlt := t.isLt
  simp only [le4, le2, h0, h1, h2, h3, toNat_byteOf_mod]
  omega

/-! ## Masks: one bit for each index -/

/-- The mask with bit `i` for index `i`. -/
def maskOf (f : Fin k → Bool) : Nat := (List.finRange k).foldl (fun n i => n + bitAt (f i) i.val) 0

theorem maskOf_succ (f : Fin (k + 1) → Bool) :
    maskOf f = maskOf (fun i : Fin k => f i.castSucc) + bitAt (f (Fin.last k)) k := by
  unfold maskOf
  rw [List.finRange_succ_last, List.foldl_append, List.foldl_map]
  rfl

theorem maskOf_lt (f : Fin k → Bool) : maskOf f < 2 ^ k := by
  induction k with
  | zero => exact Nat.one_pos
  | succ k ih =>
    have hlast : bitAt (f (Fin.last k)) k ≤ 2 ^ k := by
      unfold bitAt
      split
      · exact Nat.le_refl _
      · exact Nat.zero_le _
    rw [maskOf_succ, Nat.pow_succ, Nat.mul_two]
    exact Nat.add_lt_add_of_lt_of_le (ih _) hlast

theorem testBit_maskOf (f : Fin k → Bool) (n : Fin k) : (maskOf f).testBit n.val = f n := by
  induction k with
  | zero => exact n.elim0
  | succ k ih =>
    rw [maskOf_succ, bitAt_eq, Nat.add_comm, Nat.mul_comm, Nat.testBit_two_pow_mul_add _ (maskOf_lt _)]
    obtain ⟨m, rfl⟩ | rfl := n.eq_castSucc_or_eq_last
    · rw [Fin.val_castSucc, if_pos m.isLt]
      exact ih _ m
    · rw [Fin.val_last, if_neg (Nat.lt_irrefl k), Nat.sub_self]
      cases f (Fin.last k) <;> rfl

/-- The bits of a number held in two bytes. -/
theorem getLsbD_bytes (h0 : byteAt bs i = byteOf m) (h1 : byteAt bs (i + 1) = byteOf (m / 256)) (hn : n < 16) :
    (byteAt bs (i + n / 8)).getLsbD (n % 8) = m.testBit n := by
  have hmod : n % 8 < 8 := Nat.mod_lt _ (by decide)
  obtain h | h : n / 8 = 0 ∧ n % 8 = n ∨ n / 8 = 1 ∧ n % 8 + 8 = n := by omega
  · rw [h.1, Nat.add_zero, h0, byteOf, BitVec.getLsbD_ofNat, decide_eq_true hmod, Bool.true_and, h.2]
  · rw [h.1, h1, byteOf, BitVec.getLsbD_ofNat, decide_eq_true hmod, Bool.true_and]
    exact (Nat.testBit_div_two_pow (i := n % 8) (n := 8) m).trans (by rw [h.2])

/-! ## The status record (R153, R160) -/

theorem levelNumber_eq (l : Level) : levelNumber l = (levelCode l).val := by cases l <;> rfl
theorem stateNumber_eq (x : PscState) : stateNumber x = pscCode x := by cases x <;> rfl
theorem pscCode_lt (x : PscState) : pscCode x < 9 := by cases x <;> decide
theorem haltedFromCode_lt (x : Option HaltedFrom) : haltedFromCode x < 3 := by rcases x with _ | _ | _ <;> decide
theorem normCode_lt (x : NormState) : normCode x < 3 := by cases x <;> decide
theorem modeCode_lt (x : CoreMode) : modeCode x < 3 := by cases x <;> decide

theorem urgShown_lt (s : State) : urgShown s < 4 := by
  unfold urgShown
  split
  · split
    next k _ => cases k <;> decide
    · decide
  · decide

theorem slotBits_lt (s : State) : slotBits s < 4 := by
  unfold slotBits
  split
  · exact Fin.isLt _
  · exact Nat.mod_lt _ (by decide)

/-- The flags of R153 in their order. -/
def flags (s : State) : Fin 11 → Bool :=
  ![s.psc.latch, s.psc.gateClosed, s.wire.hold, s.eng.stepMode, s.eng.norm.haltPending, s.psc.unsupported,
    s.wake.overflow, s.wire.overflowFlag, s.clock.fallback, s.clock.soLost, s.loader.imageBad]

theorem flagWord_eq (s : State) : flagWord s = maskOf (flags s) := by
  have hmask : maskOf (flags s) = 0 + flagWord s := by
    unfold flagWord
    simp only [← Nat.add_assoc]
    rfl
  rw [hmask, Nat.zero_add]

theorem statusLayout : Claims.StatusLayout := by
  intro s hwakes hheld
  have h0 : byteAt (statusRecord s) 0 = byteOf (pscCode s.psc.state + 16 * haltedFromCode s.psc.haltedFrom) := rfl
  have h1 : byteAt (statusRecord s) 1 = byteOf ((levelCode s.psc.current).val + 4 * (levelCode s.psc.target).val +
    16 * slotBits s + bitAt s.psc.slot.isSome 6 + bitAt s.psc.commit 7) := rfl
  have h2 : byteAt (statusRecord s) 2 = byteOf (normCode s.eng.norm.st + bitAt s.eng.urg.running 2 + 8 * urgShown s +
    32 * (levelCode s.wake.armed).val + bitAt s.clock.locked 7) := rfl
  have h5 : byteAt (statusRecord s) 5 = byteOf (s.wake.queue.length + 16 * modeCode s.clock.mode) := rfl
  have hpsc := pscCode_lt s.psc.state
  have hhalted := haltedFromCode_lt s.psc.haltedFrom
  have hslot := slotBits_lt s
  have hnorm := normCode_lt s.eng.norm.st
  have hurg := urgShown_lt s
  have hmode := modeCode_lt s.clock.mode
  have hsome := Bool.toNat_le s.psc.slot.isSome
  have hcommit := Bool.toNat_le s.psc.commit
  have hrunning := Bool.toNat_le s.eng.urg.running
  have hlocked := Bool.toNat_le s.clock.locked
  simp only [bitAt_eq] at h1 h2
  dsimp only
  refine ⟨rfl, ⟨?_, ?_⟩, ⟨?_, ?_, fun l hl => ?_, ?_, ?_⟩, ⟨?_, ?_, ?_, ?_, ?_⟩, ⟨?_, ?_⟩, ⟨?_, ?_, ?_⟩, ⟨?_, ?_⟩, ?_⟩
  · rw [h0, toNat_byteOf (by omega), stateNumber_eq]
    omega
  · change _ = haltedFromCode s.psc.haltedFrom
    rw [h0, toNat_byteOf (by omega)]
    omega
  · rw [h1, toNat_byteOf (by omega), levelNumber_eq]
    omega
  · rw [h1, toNat_byteOf (by omega), levelNumber_eq]
    omega
  · have hbits : slotBits s = levelNumber l := by rw [slotBits, hl, levelNumber_eq]
    rw [h1, toNat_byteOf (by omega), ← hbits]
    omega
  · rw [h1]
    exact getLsbD_byteOf (by omega) (by omega)
  · rw [h1]
    exact getLsbD_byteOf (by omega) (by omega)
  · change _ = normCode s.eng.norm.st
    rw [h2, toNat_byteOf (by omega)]
    omega
  · rw [h2]
    exact getLsbD_byteOf (by omega) (by omega)
  · refine Eq.trans (b := urgShown s) ?_ ?_
    · rw [h2, toNat_byteOf (by omega)]
      omega
    · unfold urgShown
      cases s.eng.urg.running with
      | false => rfl
      | true => rcases s.eng.urg.kind with _ | _ | _ | _ <;> rfl
  · rw [h2, toNat_byteOf (by omega), levelNumber_eq]
    omega
  · rw [h2]
    exact getLsbD_byteOf (by omega) (by omega)
  · exact toNat_byteOf s.eng.norm.idx.isLt
  · exact toNat_byteOf s.eng.urg.idx.isLt
  · rw [h5, toNat_byteOf (by omega)]
    omega
  · change _ = modeCode s.clock.mode
    rw [h5, toNat_byteOf (by omega)]
    omega
  · exact toNat_byteOf (by omega)
  · have hbit (n : Fin 11) : (byteAt (statusRecord s) (7 + n.val / 8)).getLsbD (n.val % 8) = flags s n := by
      rw [← testBit_maskOf (flags s) n, ← flagWord_eq]
      exact getLsbD_bytes rfl rfl (by omega)
    exact List.map_congr_left (l := List.finRange 11) fun n _ => hbit n
  · have h8 : byteAt (statusRecord s) 8 = byteOf (flagWord s / 256) := rfl
    have hlt := maskOf_lt (flags s)
    rw [← flagWord_eq] at hlt
    rw [h8, toNat_byteOf (by omega)]
    omega
  · exact le4_of_tick rfl rfl rfl rfl

end Sys2Proof.Machine

/-! PROOFS. What a read carries: the read units of the reports, the rails, the Fault Record, the wakes and the counters. -/

namespace Sys2Proof.Machine

variable {s : State} {bs : List Byte} {k m n i : Nat} {r : Report}

/-! ## Reports (R162) -/

theorem originCode_lt (x : Origin) : originCode x < 256 := by
  cases x with
  | entry i => exact Nat.lt_trans i.isLt (by decide)
  | urgent k => cases k <;> decide
  | empty => decide

theorem outcomeCode_lt (x : Option ReportOutcome) : (x.map outcomeCode).getD 0 < 8 := by
  rcases x with _ | x
  · decide
  · cases x <;> decide

theorem failCode_lt (x : FailKind) : failCode x < 6 := by cases x <;> decide
theorem causeCode_lt (x : FaultCause) : causeCode x < 5 := by cases x <;> decide
theorem verdictCode_lt (x : Verdict) : verdictCode x < 5 := by cases x <;> decide
theorem enCode_lt (x : EnLevel) : enCode x < 3 := by cases x <;> decide

/-- The bits of part 0 of a report. -/
theorem reportHead_bits (r : Report) :
    (byteAt (reportHead r) 0).getLsbD 0 = r.isOpen ∧ (byteAt (reportHead r) 0).getLsbD 1 = r.committed ∧
      (byteAt (reportHead r) 0).getLsbD 2 = r.firstFailure.isSome ∧ (byteAt (reportHead r) 0).getLsbD 3 = r.lastMark.isSome := by
  have h0 : byteAt (reportHead r) 0 = byteOf (bitAt r.isOpen 0 + bitAt r.committed 1 + bitAt r.firstFailure.isSome 2 +
    bitAt r.lastMark.isSome 3) := rfl
  have hopen := Bool.toNat_le r.isOpen
  have hcommitted := Bool.toNat_le r.committed
  have hfailed := Bool.toNat_le r.firstFailure.isSome
  have hmarked := Bool.toNat_le r.lastMark.isSome
  simp only [bitAt_eq] at h0
  rw [h0]
  exact ⟨getLsbD_byteOf (by omega) (by omega), getLsbD_byteOf (by omega) (by omega), getLsbD_byteOf (by omega) (by omega),
    getLsbD_byteOf (by omega) (by omega)⟩

theorem byteAt_wakePlace (r : Report) (i : Fin 8) : byteAt (reportWakesPart r) i.val = wakePlace r i.val := by
  fin_cases i <;> rfl

theorem goodMask_eq (r : Report) : goodMask r = maskOf fun i => (peek r.goodTimes i).isSome := rfl

/-- The good time of a slot in its part of a report, three slots to a part. -/
theorem reportTimes_layout (hgood : ∀ n : Fin 16, (peek r.goodTimes n).getD 0 ≤ 16777215) (n : Fin 16) :
    ∃ u : List Byte, reportPart s r (3 + n.val / 3) = u ∧ u.length = (if n.val = 15 then 3 else 9) ∧
      le2 u (3 * (n.val % 3)) + 65536 * (byteAt u (3 * (n.val % 3) + 2)).toNat = (peek r.goodTimes n).getD 0 := by
  fin_cases n <;> exact ⟨_, rfl, rfl, le3_of_bytes (hgood _) rfl rfl rfl⟩

theorem reportLayout : Claims.ReportLayout := by
  intro s r id hid ⟨hsteps, hwarn, hover, hcoll, hwakes, hgood⟩
  have hunit (i : Nat) : readUnit s id i = some (reportPart s r i) := by
    obtain ⟨rfl, rfl⟩ | ⟨rfl, rfl⟩ := hid <;> rfl
  obtain ⟨hopen, hcommitted, hfailed, hmarked⟩ := reportHead_bits r
  refine ⟨⟨reportHead r, hunit 0, rfl, hopen, hcommitted, hfailed, hmarked, ?_, ?_, ?_, le4_of_tick rfl rfl rfl rfl,
      le2_of_bytes (by omega) rfl rfl, toNat_byteOf (by omega)⟩,
    ⟨reportEnd s r, hunit 1, rfl, le4_of_tick rfl rfl rfl rfl, fun f hf => ⟨?_, ?_⟩, fun m hm => ?_, toNat_byteOf (by omega),
      toNat_byteOf (by omega), toNat_byteOf (by omega)⟩,
    ⟨reportWakesPart r, hunit 2, rfl, fun i => ?_, fun n => ?_⟩, fun n => ?_⟩
  · refine (toNat_byteOf (originCode_lt r.origin)).trans ?_
    cases r.origin with
    | entry i => rfl
    | urgent k => cases k <;> rfl
    | empty => rfl
  · have hfrom := (levelCode r.fromLevel).isLt
    have hto := (levelCode r.toLevel).isLt
    rw [levelNumber_eq, levelNumber_eq]
    refine (toNat_byteOf ?_).trans ?_
    · unfold levelBits
      omega
    · unfold levelBits
      omega
  · have hlt := outcomeCode_lt r.outcome
    refine (toNat_byteOf (by omega)).trans ?_
    rcases r.outcome with _ | x
    · rfl
    · cases x <;> rfl
  · have hbyte : byteAt (reportEnd s r) 4 = optByte s 1 (r.firstFailure.map fun f => f.step.val) := rfl
    rw [hbyte, hf]
    exact toNat_byteOf f.step.isLt
  · have hbyte : byteAt (reportEnd s r) 5 = optByte s 2 (r.firstFailure.map fun f => failCode f.kind) := rfl
    have hlt := failCode_lt f.kind
    rw [hbyte, hf]
    exact toNat_byteOf (Nat.lt_trans hlt (by decide))
  · have hbyte : byteAt (reportEnd s r) 6 = optByte s 3 (r.lastMark.map Fin.val) := rfl
    rw [hbyte, hm]
    exact toNat_byteOf (by omega)
  · rw [byteAt_wakePlace, wakePlace]
    cases r.wakeList[i.val]? with
    | none => rfl
    | some x => exact toNat_byteOf (Nat.lt_trans x.isLt (by decide))
  · refine (getLsbD_bytes rfl rfl n.isLt).trans ?_
    rw [goodMask_eq]
    exact testBit_maskOf _ n
  · obtain ⟨u, hu, hlen, htime⟩ := reportTimes_layout (s := s) hgood n
    exact ⟨u, (hunit _).trans (congrArg some hu), hlen, htime⟩

/-! ## Rails and wires (R162) -/

theorem statusUnitLayout : Claims.StatusUnitLayout := by
  refine ⟨fun s w => ?_, fun s n => ?_⟩
  · have hunit : readUnit s 7 w.val = some [byteOf (bitAt (peek s.wire.level (Fin.ofNat 64 w.val)) 0)] := rfl
    rw [hunit, Fin.ofNat_val_eq_self]
    cases peek s.wire.level w <;> rfl
  · dsimp only
    intro hmv hin hover hout hlow hlost
    have hunit : readUnit s 8 n.val = some (railStatusBytes (peek s.rails.stat (Fin.ofNat 16 n.val))) := rfl
    rw [Fin.ofNat_val_eq_self] at hunit
    have hverdict := verdictCode_lt (peek s.rails.stat n).verdict
    have hen := enCode_lt (peek s.rails.stat n).en
    have h0 : byteAt (railStatusBytes (peek s.rails.stat n)) 0 =
      byteOf (verdictCode (peek s.rails.stat n).verdict + 16 * enCode (peek s.rails.stat n).en) := rfl
    refine ⟨_, hunit, rfl, ?_, ?_, le2_of_bytes (by omega) rfl rfl, toNat_byteOf (by omega), toNat_byteOf (by omega),
      toNat_byteOf (by omega)⟩
    · change _ = verdictCode _
      rw [h0, toNat_byteOf (by omega)]
      omega
    · change _ = enCode _
      rw [h0, toNat_byteOf (by omega)]
      omega

/-! ## The Fault Record, the wakes and the counters (R162) -/

theorem faultPart_layout (s : State) (hfurther : s.fault.further ≤ 255) (hfails : s.fault.urgentFails ≤ 255) :
    (faultPart s).length = 11 ∧ (byteAt (faultPart s) 0).toNat = (if s.fault.first.isSome then 1 else 0) ∧
      (byteAt (faultPart s) 9).toNat = s.fault.further ∧ (byteAt (faultPart s) 10).toNat = s.fault.urgentFails := by
  unfold faultPart
  dsimp only
  cases s.fault.first with
  | none => exact ⟨rfl, rfl, toNat_byteOf (by omega), toNat_byteOf (by omega)⟩
  | some f => exact ⟨rfl, rfl, toNat_byteOf (by omega), toNat_byteOf (by omega)⟩

/-- The first fault in its places. -/
theorem faultPart_first {f : FirstFault} (hf : s.fault.first = some f) :
    (byteAt (faultPart s) 1).toNat = causeCode f.cause ∧ (byteAt (faultPart s) 2).toNat = f.subject.val ∧
      (byteAt (faultPart s) 3).toNat = stateNumber f.psc ∧ (byteAt (faultPart s) 4).toNat = levelNumber f.level ∧
      le4 (faultPart s) 5 = f.tick.toNat := by
  have hcause := causeCode_lt f.cause
  have hpsc := pscCode_lt f.psc
  have hlevel := (levelCode f.level).isLt
  unfold faultPart
  dsimp only
  rw [hf, stateNumber_eq, levelNumber_eq]
  refine ⟨toNat_byteOf (by omega), toNat_byteOf f.subject.isLt, toNat_byteOf (by omega), ?_, le4_of_tick rfl rfl rfl rfl⟩
  refine (toNat_byteOf ?_).trans ?_
  · unfold levelBits
    omega
  · exact Nat.mul_one _

theorem detectorMask_eq (s : State) : detectorMask s = maskOf fun i => (peek s.wake.det i).active := rfl

theorem missedByte_toNat (h : ∀ n : Fin 14, peek s.wake.missed n ≤ 255) (n : Fin 14) :
    (missedByte s n.val).toNat = peek s.wake.missed n := by
  have hle := h n
  unfold missedByte
  rw [dif_pos n.isLt]
  exact toNat_byteOf (Nat.lt_succ_of_le hle)

theorem byteAt_missed_low (hn : n < 11) : byteAt (wakePart s 8) n = missedByte s n := by interval_cases n <;> rfl

theorem byteAt_missed_high (hn : 11 ≤ n) (hlt : n < 14) : byteAt (wakePart s 9) (n - 11) = missedByte s n := by
  interval_cases n <;> rfl

theorem queuePart_layout (hw : WakeInv s.wake) (i : Nat) : (queuePart s i).length = 6 ∧
    (∀ e : WakeEntry, s.wake.queue[i]? = some e → (byteAt (queuePart s i) 0).toNat = e.source.val ∧
      le4 (queuePart s i) 1 = e.first.toNat ∧ (byteAt (queuePart s i) 5).toNat = e.count) ∧
    (s.wake.queue[i]? = none → queuePart s i = [255, 0, 0, 0, 0, 0]) := by
  obtain ⟨-, -, hcounts, -⟩ := hw
  unfold queuePart
  cases hq : s.wake.queue[i]? with
  | none => exact ⟨rfl, fun e he => (by cases he), fun _ => rfl⟩
  | some e =>
    refine ⟨rfl, fun x hx => ?_, fun h => (by cases h)⟩
    cases hx
    obtain ⟨-, hcount⟩ := hcounts e (List.mem_of_getElem? hq)
    exact ⟨toNat_byteOf (Nat.lt_trans e.source.isLt (by decide)), le4_of_tick rfl rfl rfl rfl, toNat_byteOf (by omega)⟩

theorem recordUnitLayout : Claims.RecordUnitLayout := by
  refine ⟨fun s hfurther hfails => ?_, fun s hw => ?_, fun s => ?_⟩
  · obtain ⟨hlen, hfirst, hmore, hurgent⟩ := faultPart_layout s hfurther hfails
    refine ⟨_, rfl, hlen, hfirst, fun f hf => ?_, hmore, hurgent⟩
    obtain ⟨hcause, hrest⟩ := faultPart_first hf
    refine ⟨hcause.trans ?_, hrest⟩
    cases f.cause <;> rfl
  · obtain ⟨hlen, -, -, hmissed⟩ := id hw
    refine ⟨fun i => ?_, ⟨wakePart s 8, rfl, rfl, fun n hn => ?_⟩, wakePart s 9, rfl, rfl, fun n hn => ?_, fun n => ?_,
      toNat_byteOf (by omega)⟩
    · have hpart : wakePart s i.val = queuePart s i.val := if_pos i.isLt
      obtain ⟨hlen, hentry, hnone⟩ := queuePart_layout hw i.val
      exact ⟨queuePart s i.val, congrArg some hpart, hlen, hentry, hnone⟩
    · rw [byteAt_missed_low hn, missedByte_toNat hmissed]
    · rw [byteAt_missed_high hn n.isLt, missedByte_toNat hmissed]
    · refine (getLsbD_bytes rfl rfl (by omega)).trans ?_
      rw [detectorMask_eq]
      exact testBit_maskOf _ n
  · dsimp only
    intro hcounts hlock
    have hlt {x : Nat} (hx : x ≤ 65535) : x < 65536 := by omega
    simp only [List.mem_cons, List.not_mem_nil, or_false, forall_eq_or_imp, forall_eq] at hcounts
    obtain ⟨h1, h2, h3, h4, h5, h6, b1, b2, b3, b4, b5, b6, c1, c2, c3, c4, c5⟩ := hcounts
    refine ⟨⟨counterPart s 0, rfl, rfl, ?_⟩, ⟨counterPart s 1, rfl, rfl, ?_⟩, ⟨counterPart s 2, rfl, rfl, ?_⟩,
      counterPart s 3, rfl, rfl, le2_of_bytes (hlt c4) rfl rfl, toNat_byteOf (by omega), le2_of_bytes (hlt c5) rfl rfl⟩
    · rw [le2_of_bytes (hlt h1) rfl rfl, le2_of_bytes (hlt h2) rfl rfl, le2_of_bytes (hlt h3) rfl rfl,
        le2_of_bytes (hlt h4) rfl rfl, le2_of_bytes (hlt h5) rfl rfl]
    · rw [le2_of_bytes (hlt h6) rfl rfl, le2_of_bytes (hlt b1) rfl rfl, le2_of_bytes (hlt b2) rfl rfl,
        le2_of_bytes (hlt b3) rfl rfl, le2_of_bytes (hlt b4) rfl rfl]
    · rw [le2_of_bytes (hlt b5) rfl rfl, le2_of_bytes (hlt b6) rfl rfl, le2_of_bytes (hlt c1) rfl rfl,
        le2_of_bytes (hlt c2) rfl rfl, le2_of_bytes (hlt c3) rfl rfl]

/-- Settles O48: the answers and the ranges of the read requests, and the layouts of what they carry. -/
theorem readsAnswered : Obligations.ReadsAnswered :=
  ⟨readAnswers, statusLayout, reportLayout, statusUnitLayout, recordUnitLayout, readDataLayout, readRanges, transitionRead,
    recordUnits⟩

end Sys2Proof.Machine
